-- ==== Sys2Proof/Word.lean ====
section
/-! DEFINITION. The byte the line ports and the settings image are made of, and saturation (5.1 of the scope file). -/

namespace Sys2Proof

/-- One byte of a frame, of a message or of the stored settings image. -/
abbrev Byte := BitVec 8

/-- Saturation to a range: a value below it becomes its lowest member, one above it its highest (scope file, 5.1). -/
def saturate (lo hi x : Int) : Int := if x < lo then lo else if hi < x then hi else x

/-- A counter that increments and stays at its cap. -/
def countUp (cap n : Nat) : Nat := min cap (n + 1)

/-- Milliseconds in the model's clock unit, the microsecond. -/
def millis (n : Nat) : Nat := n * 1000

/-- Seconds in the model's clock unit, the microsecond. -/
def seconds (n : Nat) : Nat := n * 1000000

end Sys2Proof
end

