-- ==== Sys2Proof/Syntax.lean ====
section
/-! DEFINITION. The commands the block takes: one constructor per row of spec/opcode_table.json, with its operands. -/

namespace Sys2Proof

/-- The A side or the B side: it names line port A or B, and the head station that port faces (scope file, 5.5). -/
inductive Side where
  | a
  | b
  deriving DecidableEq, Repr

/-- A pump channel: AB drives the A→B amplifier's pump, BA the B→A amplifier's (chapter 8). -/
inductive Channel where
  | ab
  | ba
  deriving DecidableEq, Repr

/-- The destination class of a message as this hut sees it (R4). -/
inductive DestClass where
  | mine
  | all
  | head
  | other
  deriving DecidableEq, Repr

/-- What a handed management message carries beside its payload: source and tag of its header, its destination class
and the port it arrived on (R12, R27). -/
structure Sender where
  source : Byte
  tag : Byte
  cls : DestClass
  port : Side
  deriving DecidableEq, Repr

/-- The phases of a sensor bus read transaction (R75). -/
inductive BusPhase where
  | start
  | addressWrite
  | register
  | repeatedStart
  | addressRead
  | data
  | stop
  deriving DecidableEq, Repr

/-- How a read transaction fails (R74, R75): a not-acknowledge or a lost data line, at a signal of a phase, counted from 0:
a start or stop condition or one clock. -/
inductive ReadFailure where
  | notAcknowledged (phase : BusPhase) (signal : Nat)
  | lostDataLine (phase : BusPhase) (signal : Nat)
  deriving DecidableEq, Repr

/-- How a sequential read of the settings EEPROM ends (R161, R164): it returns what the EEPROM holds, it returns other
bytes (a corrupted read), or it loses its acknowledge or its data line. The phases are those of a sensor's read, with a
memory address of two bytes as the register (R75, R161). -/
inductive EepromRead where
  | stored
  | returned (bytes : List Byte)
  | lost (f : ReadFailure)
  deriving DecidableEq, Repr

/-- How one EEPROM page write transaction ends (R161, R163, R164): every byte acknowledged and the stop sent, a
not-acknowledge of one of its 35 bytes, counted from 0: the device address, the two bytes of the page address, the 32 data
bytes; or a lost data line at one of its signals, counted from 0 at the start condition. -/
inductive PageWrite where
  | acknowledged
  | refusedAt (byte : Fin 35)
  | lostDataLine (signal : Nat)
  deriving DecidableEq, Repr

/-- How one address of the EEPROM ends that polls a write cycle (R161, R163): acknowledged or not, or with a lost data line
at one of its signals, counted from 0 at the start condition. -/
inductive AddressPoll where
  | acknowledged
  | notAcknowledged
  | lostDataLine (signal : Nat)
  deriving DecidableEq, Repr

/-- The commands: the steps of spec/opcode_table.json. A management command carries its sender and the payload bytes
its row leaves open (after the command code; for WRITE ENTRY after the code and the table id); a frame its 384 bytes;
an event what the world decides at it: a read transaction's success the data bits the sensor drove (R75), a Control Port
transfer's completion the reply bits its device drove (R143), each in order. -/
inductive Instr where
  | powerOnReset (addr : BitVec 6) (inputs : Byte)
  | resetPin (addr : BitVec 6) (inputs : Byte)
  | restartReset (addr : BitVec 6)
  | transmitEvent (p : Side)
  | syncPatternFound (p : Side) (pos : Nat) (b0 b1 b2 : Byte)
  | confirmCheck (p : Side) (b0 b1 b2 : Byte)
  | missedSync (p : Side) (b0 b1 b2 : Byte)
  | lossOfSync (p : Side) (b0 b1 b2 : Byte)
  | erroredFrame (p : Side) (frame : List Byte)
  | goodFrameArrival (p : Side) (frame : List Byte)
  | rfmRunCountReached (p : Side) (frame : List Byte)
  | windowTimerExpiry (p : Side)
  | identify (m : Sender) (args : List Byte)
  | claim (m : Sender) (args : List Byte)
  | release (m : Sender) (args : List Byte)
  | readEntry (m : Sender) (args : List Byte)
  | readPoints (m : Sender) (args : List Byte)
  | readStanding (m : Sender) (args : List Byte)
  | writeMessageAction (m : Sender) (args : List Byte)
  | writeScanList (m : Sender) (args : List Byte)
  | writeChannelCalibration (m : Sender) (args : List Byte)
  | writeConversionCurve (m : Sender) (args : List Byte)
  | writePollEntry (m : Sender) (args : List Byte)
  | writeCondition (m : Sender) (args : List Byte)
  | writeShedTable (m : Sender) (args : List Byte)
  | writeSupplySettings (m : Sender) (args : List Byte)
  | writePumpSettings (m : Sender) (args : List Byte)
  | writeLineSettings (m : Sender) (args : List Byte)
  | writeOutputSettings (m : Sender) (args : List Byte)
  | writeManagementSettings (m : Sender) (args : List Byte)
  | writeEntryOtherTable (m : Sender) (args : List Byte)
  | ackAlarm (m : Sender) (args : List Byte)
  | forceOutput (m : Sender) (args : List Byte)
  | forceShed (m : Sender) (args : List Byte)
  | pumpMode (m : Sender) (args : List Byte)
  | pulseOutput (m : Sender) (args : List Byte)
  | requalifySupply (m : Sender) (args : List Byte)
  | chargeRestart (m : Sender) (args : List Byte)
  | setLock (m : Sender) (args : List Byte)
  | storeSettings (m : Sender) (args : List Byte)
  | restart (m : Sender) (args : List Byte)
  | unknownCommand (m : Sender) (payload : List Byte)
  | ignoredCommand (m : Sender) (payload : List Byte)
  | beat (m : Sender) (payload : List Byte)
  | contactTimerExpiry (h : Side)
  | hutTimeTick
  | autoloadAddressRetry (acknowledged : Bool)
  | autoloadReadDone (r : EepromRead)
  | autoloadDeadline
  | pageWriteDone (r : PageWrite)
  | pageAckPoll (r : AddressPoll)
  | pageWriteTimeout
  | readBackDone (r : EepromRead)
  | scanPeriodStart
  | conversionEvent (code : BitVec 12)
  | brownOutEvent (v : Int)
  | startupPulsesDone
  | transactionSuccess (bits : List Bool)
  | transactionFailure (f : ReadFailure)
  | nextDueTime (i : Fin 12)
  | retryTime (i : Fin 12)
  | busFault
  | recoveryComplete (clockHigh dataHigh : Bool)
  | ageTimerExpiry
  | stalenessDeadline (i : Fin 28)
  | launchExpiry (p : Side)
  | inputRawChange (i : Fin 8) (level : Bool)
  | debounceTimerExpiry (i : Fin 8)
  | pass
  | qualifySetReached (i : Fin 64)
  | qualifyClearReached (i : Fin 64)
  | startTimerExpiry (c : Channel)
  | rampTimerExpiry (c : Channel)
  | probeTimerExpiry (c : Channel)
  | probeDurationExpiry (c : Channel)
  | statusReadTimerExpiry (c : Channel)
  | transferComplete (reply : Vector Bool 16)
  | supplyCheck
  | noSagCountReached
  | bulkTimerExpiry
  | absorbTimerExpiry
  | settleTimerExpiry
  | testTimerExpiry
  | retryTimerExpiry
  | pulseEnd (o : Fin 7)
  deriving DecidableEq, Repr

end Sys2Proof
end

