-- ==== Sys2Proof/Machine/Bytes.lean ====
section
/-! DEFINITION. Byte order and sign: multi-byte fields stand most significant byte first, signed fields in two's
complement (scope file 5.1, R160). -/

namespace Sys2Proof.Machine

/-- The number a 16-bit pattern stands for in two's complement. -/
def toSigned (n : Nat) : Int := if n < 32768 then (n : Int) else (n : Int) - 65536

/-- The 16-bit pattern of a value, two's complement. -/
def ofSigned (v : Int) : Nat := (v % 65536).toNat

/-- The two bytes of a 16-bit field, high byte first. -/
def bytes16 (n : Nat) : List Byte := [BitVec.ofNat 8 (n / 256), BitVec.ofNat 8 n]

/-- The two bytes of a signed 16-bit field, high byte first. -/
def bytesSigned (v : Int) : List Byte := bytes16 (ofSigned v)

/-- The four bytes of a 32-bit field, high byte first. -/
def bytes32 (n : Nat) : List Byte := bytes16 (n / 65536) ++ bytes16 (n % 65536)

/-- One byte of a number. -/
def byteOf (n : Nat) : Byte := BitVec.ofNat 8 n

/-- The unsigned byte at an offset (0 past the end). -/
def byteAt (l : List Byte) (i : Nat) : Nat := (l.getD i 0).toNat

/-- The unsigned 16-bit field at an offset. -/
def halfAt (l : List Byte) (i : Nat) : Nat := byteAt l i * 256 + byteAt l (i + 1)

/-- The signed 16-bit field at an offset. -/
def signedAt (l : List Byte) (i : Nat) : Int := toSigned (halfAt l i)

/-- The 32-bit field at an offset. -/
def wordAt (l : List Byte) (i : Nat) : Nat := halfAt l i * 65536 + halfAt l (i + 2)

/-- A flag as a number, 0 or 1. -/
def bit (b : Bool) : Nat := if b then 1 else 0

/-- The flag a 0-or-1 field holds; none for any other value. -/
def flagOf : Nat → Option Bool
  | 0 => some false
  | 1 => some true
  | _ => none

/-- The first `n` bytes of a field, filled up with 00h. -/
def padTo (n : Nat) (l : List Byte) : List Byte := (l ++ List.replicate (n - l.length) 0).take n

end Sys2Proof.Machine
end

