-- ==== Sys2Proof/Machine/Tables.lean ====
section
/-! DEFINITION. The entries of the twelve addressable tables (section 2.5.1, R160), as the data they stand for. -/

namespace Sys2Proof.Machine

/-- Two like things, one for the A side and one for the B side. -/
structure Pair (α : Type) where
  a : α
  b : α
  deriving DecidableEq, Repr

/-- The member of a pair for a side. -/
def Pair.get {α : Type} (p : Pair α) : Side → α
  | .a => p.a
  | .b => p.b

/-- A pair with the member of one side replaced. -/
def Pair.set {α : Type} (p : Pair α) (x : Side) (v : α) : Pair α :=
  match x with
  | .a => ⟨v, p.b⟩
  | .b => ⟨p.a, v⟩

/-- Two like things, one for each pump channel. -/
structure Duo (α : Type) where
  ab : α
  ba : α
  deriving DecidableEq, Repr

/-- The member for a channel. -/
def Duo.get {α : Type} (p : Duo α) : Channel → α
  | .ab => p.ab
  | .ba => p.ba

/-- The two with one channel's member replaced. -/
def Duo.set {α : Type} (p : Duo α) (c : Channel) (v : α) : Duo α :=
  match c with
  | .ab => ⟨v, p.ba⟩
  | .ba => ⟨p.ab, v⟩

/-- An action of the Message Action Table (R15). -/
inductive Action where
  | forward
  | consume
  | copy
  | discard
  deriving DecidableEq, Repr

/-- Table 2: the Scan List and the scan period in ms (R57); all sixteen slots as stored, `count` of them in use. -/
structure ScanTable where
  count : Nat
  channels : List Nat
  period : Nat
  deriving DecidableEq, Repr

/-- Which conversion applies to a channel's codes (R63). -/
inductive CalMode where
  | linear
  | curve
  deriving DecidableEq, Repr

/-- Table 3: one channel's calibration (R63). -/
structure Calibration where
  mode : CalMode
  gain : Nat
  offset : Int
  curve : Nat
  shift : Nat
  deriving DecidableEq, Repr

/-- Table 4: a Conversion Curve (R66); all twelve breakpoints as stored, `count` of them in use. -/
structure Curve where
  count : Nat
  points : List (Nat × Int)
  deriving DecidableEq, Repr

/-- Table 5: a poll entry (R76). -/
structure PollEntry where
  addr : Nat
  register : Nat
  length : Nat
  mask : Nat
  signed : Bool
  gain : Nat
  offset : Int
  period : Nat
  retryLimit : Nat
  deriving DecidableEq, Repr

/-- The test a condition applies to its point (R98). -/
inductive Kind where
  | above
  | below
  | mtch
  | noMatch
  | invalid
  deriving DecidableEq, Repr

/-- The severity of an alarm (R98). -/
inductive Severity where
  | critical
  | major
  | minor
  | note
  deriving DecidableEq, Repr

/-- What makes a condition's reports consequential (R98, R110). -/
inductive Suppressor where
  | none
  | condition (n : Nat)
  | ufm (p : Side)
  | lost (p : Side)
  deriving DecidableEq, Repr

/-- What a condition drives (R98, R111). -/
inductive CondAction where
  | none
  | shed (level : Nat)
  | reduce (c : Channel)
  | output (o : Nat)
  | pulse (o : Nat)
  deriving DecidableEq, Repr

/-- Table 6: a Condition Table entry (R98). -/
structure Condition where
  enable : Bool
  point : Nat
  kind : Kind
  setLevel : Int
  clearLevel : Int
  qualifySet : Nat
  qualifyClear : Nat
  severity : Severity
  latching : Bool
  report : Bool
  suppressor : Suppressor
  action : CondAction
  deriving DecidableEq, Repr

/-- Table 8: the Supply Settings (R146). -/
structure SupplySettings where
  presence : Int
  floor : Int
  arrayCode : Nat
  brownOut : Int
  brownOutRelease : Int
  absorbVoltage : Int
  floatVoltage : Int
  floatReturn : Int
  warmReduction : Int
  absorbEnd : Int
  absorbTime : Nat
  bulkTime : Nat
  t1 : Int
  t2 : Int
  t3 : Int
  t4 : Int
  zoneHyst : Int
  v1 : Int
  v2 : Int
  v3 : Int
  v4 : Int
  shedHyst : Int
  coldLevel : Nat
  hotLevel : Nat
  deriving DecidableEq, Repr

/-- The mode of a pump channel (R133). -/
inductive Mode where
  | off
  | normal
  | boost
  deriving DecidableEq, Repr

/-- Table 9: one channel's Pump Settings (R131). -/
structure PumpSettings where
  normal : Nat
  boost : Nat
  ceiling : Nat
  safe : Nat
  economy : Nat
  rampStep : Nat
  probeInterval : Nat
  probeDuration : Nat
  storedMode : Mode
  deriving DecidableEq, Repr

/-- Table 10: the Line Settings (R16). -/
structure LineSettings where
  threshold : Nat
  hopBudget : Nat
  deriving DecidableEq, Repr

/-- The report sides of the Management Settings (R37). -/
inductive ReportSides where
  | a
  | b
  | both
  deriving DecidableEq, Repr

/-- Table 12: the Management Settings (R37). -/
structure ManagementSettings where
  window : Nat
  sides : ReportSides
  remote : Bool
  deriving DecidableEq, Repr

/-- The twelve live tables. -/
structure Tables where
  actions : List Action
  scan : ScanTable
  cals : List Calibration
  curves : List Curve
  polls : List PollEntry
  conds : List Condition
  sheds : List (BitVec 7)
  supply : SupplySettings
  pumps : Duo PumpSettings
  line : LineSettings
  idles : List Bool
  mgmt : ManagementSettings
  deriving DecidableEq, Repr

end Sys2Proof.Machine
end

