-- ==== Sys2Proof/Machine/Layout.lean ====
section
/-! DEFINITION. The byte layouts of the table entries and of the stored settings image (R160), and the validation each
owner applies to an entry (R15, R16, R37, R57, R63, R66, R76, R99, R131, R146, R156). An entry that does not pass is no
entry: its reader answers none. -/

namespace Sys2Proof.Machine

/-! Table 1, Message Action (R15). -/

/-- The action of a code. -/
def Action.ofCode : Nat → Option Action
  | 0 => some .forward
  | 1 => some .consume
  | 2 => some .copy
  | 3 => some .discard
  | _ => none

/-- The code of an action. -/
def Action.code : Action → Nat
  | .forward => 0
  | .consume => 1
  | .copy => 2
  | .discard => 3

/-- R15: index 4 (COMMAND, MINE) takes no action but CONSUME. -/
def readAction (i : Nat) (l : List Byte) : Option Action :=
  match Action.ofCode (byteAt l 0) with
  | some act => if i = 4 ∧ act ≠ .consume then none else some act
  | none => none

/-- The image layout of a Message Action entry. -/
def Action.bytes (act : Action) : List Byte := [byteOf act.code]

/-! Table 2, Scan List and scan period (R57). -/

/-- R57: 1 to 16 slots, each slot in use naming AN0 to AN15, a period of 10 to 1000 ms. -/
def ScanTable.valid (t : ScanTable) : Bool :=
  1 ≤ t.count && t.count ≤ 16 && (t.channels.take t.count).all (· ≤ 15) && 10 ≤ t.period && t.period ≤ 1000

/-- The fields of a Scan List entry as they stand in its layout. -/
def readScan (l : List Byte) : Option ScanTable :=
  let t : ScanTable := ⟨byteAt l 0, (List.range 16).map (fun i => byteAt l (1 + i)), halfAt l 17⟩
  if t.valid then some t else none

/-- The image layout of the Scan List entry. -/
def ScanTable.bytes (t : ScanTable) : List Byte :=
  [byteOf t.count] ++ (List.range 16).map (fun i => byteOf (t.channels.getD i 0)) ++ bytes16 t.period

/-! Table 3, Channel Calibration (R63). -/

/-- The mode of a code. -/
def CalMode.ofCode : Nat → Option CalMode
  | 0 => some .linear
  | 1 => some .curve
  | _ => none

/-- The code of a mode. -/
def CalMode.code : CalMode → Nat
  | .linear => 0
  | .curve => 1

/-- R63: the curve number at most 3 and the filter shift at most 7, whatever the mode. -/
def readCalibration (l : List Byte) : Option Calibration :=
  match CalMode.ofCode (byteAt l 0) with
  | some m =>
    if byteAt l 5 ≤ 3 ∧ byteAt l 6 ≤ 7 then some ⟨m, halfAt l 1, signedAt l 3, byteAt l 5, byteAt l 6⟩ else none
  | none => none

/-- The image layout of a Channel Calibration entry. -/
def Calibration.bytes (c : Calibration) : List Byte :=
  [byteOf c.mode.code] ++ bytes16 c.gain ++ bytesSigned c.offset ++ [byteOf c.curve, byteOf c.shift]

/-! Table 4, Conversion Curves (R66). -/

/-- The breakpoints in use. -/
def Curve.used (c : Curve) : List (Nat × Int) := c.points.take c.count

/-- Neighbouring members all in a relation. -/
def chain {α : Type} (r : α → α → Bool) : List α → Bool
  | x :: y :: l => r x y && chain r (y :: l)
  | _ => true

/-- R66: 2 to 12 breakpoints, codes at most 4095 and strictly rising, values all non-decreasing or all non-increasing. -/
def Curve.valid (c : Curve) : Bool :=
  2 ≤ c.count && c.count ≤ 12 && c.used.all (fun q => q.1 ≤ 4095) &&
    chain (fun x y => x.1 < y.1) c.used &&
    (chain (fun x y => x.2 ≤ y.2) c.used || chain (fun x y => y.2 ≤ x.2) c.used)

/-- The fields of a Conversion Curve as they stand in its layout. -/
def readCurve (l : List Byte) : Option Curve :=
  let c : Curve := ⟨byteAt l 0, (List.range 12).map (fun i => (halfAt l (1 + 4 * i), signedAt l (3 + 4 * i)))⟩
  if c.valid then some c else none

/-- The image layout of a Conversion Curve. -/
def Curve.bytes (c : Curve) : List Byte :=
  [byteOf c.count] ++ (List.range 12).flatMap (fun i => bytes16 (c.points.getD i (0, 0)).1 ++ bytesSigned (c.points.getD i (0, 0)).2)

/-! Table 5, Poll Table (R76). -/

/-- An entry is in use when its sensor address is 1 to 127 (R76). -/
def PollEntry.inUse (e : PollEntry) : Bool := 1 ≤ e.addr && e.addr ≤ 127

/-- R76: every field in its range, and no signed one-byte reading. -/
def PollEntry.valid (e : PollEntry) : Bool :=
  e.addr ≤ 127 && (e.length = 1 || e.length = 2) && !(e.signed && e.length = 1) && 1 ≤ e.period && e.retryLimit ≤ 3

/-- The fields of a poll entry as they stand in its layout. -/
def readPollEntry (l : List Byte) : Option PollEntry :=
  match flagOf (byteAt l 5) with
  | some sg =>
    let e : PollEntry := ⟨byteAt l 0, byteAt l 1, byteAt l 2, halfAt l 3, sg, halfAt l 6, signedAt l 8, byteAt l 10, byteAt l 11⟩
    if e.valid then some e else none
  | none => none

/-- The image layout of a poll entry. -/
def PollEntry.bytes (e : PollEntry) : List Byte :=
  [byteOf e.addr, byteOf e.register, byteOf e.length] ++ bytes16 e.mask ++ [byteOf (bit e.signed)] ++ bytes16 e.gain ++
    bytesSigned e.offset ++ [byteOf e.period, byteOf e.retryLimit]

/-! Table 6, Condition Table (R98, R99). -/

/-- The kind of a code. -/
def Kind.ofCode : Nat → Option Kind
  | 0 => some .above
  | 1 => some .below
  | 2 => some .mtch
  | 3 => some .noMatch
  | 4 => some .invalid
  | _ => none

/-- The code of a kind. -/
def Kind.code : Kind → Nat
  | .above => 0
  | .below => 1
  | .mtch => 2
  | .noMatch => 3
  | .invalid => 4

/-- The severity of a code. -/
def Severity.ofCode : Nat → Option Severity
  | 0 => some .critical
  | 1 => some .major
  | 2 => some .minor
  | 3 => some .note
  | _ => none

/-- The code of a severity. -/
def Severity.code : Severity → Nat
  | .critical => 0
  | .major => 1
  | .minor => 2
  | .note => 3

/-- The suppressor of a code and argument, for the entry of index `own`: CONDITION takes an index 0 to 63 other than its
own, every other suppressor the argument 0 (R99). -/
def Suppressor.ofCode (own code arg : Nat) : Option Suppressor :=
  match code with
  | 1 => if arg ≤ 63 ∧ arg ≠ own then some (.condition arg) else none
  | 0 => if arg = 0 then some .none else none
  | 2 => if arg = 0 then some (.ufm .a) else none
  | 3 => if arg = 0 then some (.ufm .b) else none
  | 4 => if arg = 0 then some (.lost .a) else none
  | 5 => if arg = 0 then some (.lost .b) else none
  | _ => none

/-- The suppressor's code and argument. -/
def Suppressor.code : Suppressor → Nat × Nat
  | .none => (0, 0)
  | .condition n => (1, n)
  | .ufm .a => (2, 0)
  | .ufm .b => (3, 0)
  | .lost .a => (4, 0)
  | .lost .b => (5, 0)

/-- The action of a code and argument: SHED takes 1 to 4, OUTPUT and PULSE 0 to 6, every other action 0 (R99). -/
def CondAction.ofCode (code arg : Nat) : Option CondAction :=
  match code with
  | 0 => if arg = 0 then some .none else none
  | 1 => if 1 ≤ arg ∧ arg ≤ 4 then some (.shed arg) else none
  | 2 => if arg = 0 then some (.reduce .ab) else none
  | 3 => if arg = 0 then some (.reduce .ba) else none
  | 4 => if arg ≤ 6 then some (.output arg) else none
  | 5 => if arg ≤ 6 then some (.pulse arg) else none
  | _ => none

/-- The action's code and argument. -/
def CondAction.code : CondAction → Nat × Nat
  | .none => (0, 0)
  | .shed n => (1, n)
  | .reduce .ab => (2, 0)
  | .reduce .ba => (3, 0)
  | .output n => (4, n)
  | .pulse n => (5, n)

/-- R99: the point at most 45, both qualifications at least 1, and the clear level on the far side of the set level. -/
def Condition.valid (c : Condition) : Bool :=
  c.point ≤ 45 && 1 ≤ c.qualifySet && 1 ≤ c.qualifyClear &&
    !(c.kind = .above && c.setLevel < c.clearLevel) && !(c.kind = .below && c.clearLevel < c.setLevel)

/-- The fields of Condition Table entry `own` as they stand in its layout. -/
def readCondition (own : Nat) (l : List Byte) : Option Condition := do
  let enable ← flagOf (byteAt l 0)
  let kind ← Kind.ofCode (byteAt l 2)
  let severity ← Severity.ofCode (byteAt l 9)
  let latching ← flagOf (byteAt l 10)
  let report ← flagOf (byteAt l 11)
  let suppressor ← Suppressor.ofCode own (byteAt l 12) (byteAt l 13)
  let action ← CondAction.ofCode (byteAt l 14) (byteAt l 15)
  let c : Condition := ⟨enable, byteAt l 1, kind, signedAt l 3, signedAt l 5, byteAt l 7, byteAt l 8, severity, latching,
    report, suppressor, action⟩
  if c.valid then some c else none

/-- The image layout of a Condition Table entry. -/
def Condition.bytes (c : Condition) : List Byte :=
  [byteOf (bit c.enable), byteOf c.point, byteOf c.kind.code] ++ bytesSigned c.setLevel ++ bytesSigned c.clearLevel ++
    [byteOf c.qualifySet, byteOf c.qualifyClear, byteOf c.severity.code, byteOf (bit c.latching), byteOf (bit c.report),
      byteOf c.suppressor.code.1, byteOf c.suppressor.code.2, byteOf c.action.code.1, byteOf c.action.code.2]

/-! Tables 7 and 11, Shed Table and Output Settings (R156). -/

/-- R156: bit 7 (OUT7) is refused. -/
def readShed (l : List Byte) : Option (BitVec 7) :=
  if byteAt l 0 < 128 then some (BitVec.ofNat 7 (byteAt l 0)) else none

/-- The image layout of a Shed Table entry. -/
def shedBytes (v : BitVec 7) : List Byte := [byteOf v.toNat]

/-- R156: idle state 0 OFF or 1 ON, and OUT7 is refused ON. -/
def readIdle (i : Nat) (l : List Byte) : Option Bool :=
  match flagOf (byteAt l 0) with
  | some on => if i = 7 ∧ on = true then none else some on
  | none => none

/-- The image layout of an Output Settings entry. -/
def idleBytes (on : Bool) : List Byte := [byteOf (bit on)]

/-! Table 8, Supply Settings (R146). -/

/-- Every field in the range R146 gives it. -/
def SupplySettings.inRange (t : SupplySettings) : Bool :=
  [t.presence, t.floor, t.brownOut, t.brownOutRelease, t.absorbEnd, t.v1, t.v2, t.v3, t.v4].all
      (fun x => 0 ≤ x && x ≤ 32767) &&
    [t.absorbVoltage, t.floatVoltage, t.floatReturn].all (fun x => 0 ≤ x && x ≤ 8190) &&
    [t.warmReduction, t.zoneHyst, t.shedHyst].all (fun x => 0 ≤ x && x ≤ 1000) &&
    t.arrayCode ≤ 3 && 1 ≤ t.absorbTime && t.absorbTime ≤ 24 && 1 ≤ t.bulkTime && t.bulkTime ≤ 24 &&
    t.coldLevel ≤ 4 && t.hotLevel ≤ 4

/-- The conditions between fields that R146 lists. -/
def SupplySettings.ordered (t : SupplySettings) : Bool :=
  t.presence < t.floor && t.brownOut < t.brownOutRelease && t.floatReturn < t.floatVoltage &&
    t.floatVoltage < t.absorbVoltage && t.warmReduction < t.floatVoltage && t.zoneHyst < t.t2 - t.t1 &&
    t.zoneHyst < t.t4 - t.t3 && 2 * t.zoneHyst < t.t3 - t.t2 && t.v2 < t.v1 && t.v3 < t.v2 && t.v4 < t.v3

/-- The whole validation of R146. -/
def SupplySettings.valid (t : SupplySettings) : Bool := t.inRange && t.ordered

/-- The fields of the Supply Settings as they stand in their layout: two bytes each but the array code, the absorb and
bulk times and the COLD and HOT shed levels; the unsigned ranges are read as 16-bit numbers, so none wraps below 0. -/
def readSupply (l : List Byte) : Option SupplySettings :=
  let t : SupplySettings :=
    { presence := halfAt l 0, floor := halfAt l 2, arrayCode := byteAt l 4, brownOut := halfAt l 5,
      brownOutRelease := halfAt l 7, absorbVoltage := halfAt l 9, floatVoltage := halfAt l 11, floatReturn := halfAt l 13,
      warmReduction := halfAt l 15, absorbEnd := halfAt l 17, absorbTime := byteAt l 19, bulkTime := byteAt l 20,
      t1 := signedAt l 21, t2 := signedAt l 23, t3 := signedAt l 25, t4 := signedAt l 27, zoneHyst := halfAt l 29,
      v1 := halfAt l 31, v2 := halfAt l 33, v3 := halfAt l 35, v4 := halfAt l 37, shedHyst := halfAt l 39,
      coldLevel := byteAt l 41, hotLevel := byteAt l 42 }
  if t.valid then some t else none

/-- The image layout of the Supply Settings. -/
def SupplySettings.bytes (t : SupplySettings) : List Byte :=
  bytesSigned t.presence ++ bytesSigned t.floor ++ [byteOf t.arrayCode] ++ bytesSigned t.brownOut ++
    bytesSigned t.brownOutRelease ++ bytesSigned t.absorbVoltage ++ bytesSigned t.floatVoltage ++
    bytesSigned t.floatReturn ++ bytesSigned t.warmReduction ++ bytesSigned t.absorbEnd ++
    [byteOf t.absorbTime, byteOf t.bulkTime] ++ bytesSigned t.t1 ++ bytesSigned t.t2 ++ bytesSigned t.t3 ++
    bytesSigned t.t4 ++ bytesSigned t.zoneHyst ++ bytesSigned t.v1 ++ bytesSigned t.v2 ++ bytesSigned t.v3 ++
    bytesSigned t.v4 ++ bytesSigned t.shedHyst ++ [byteOf t.coldLevel, byteOf t.hotLevel]

/-! Table 9, Pump Settings (R131). -/

/-- The mode of a code. -/
def Mode.ofCode : Nat → Option Mode
  | 0 => some .off
  | 1 => some .normal
  | 2 => some .boost
  | _ => none

/-- The code of a mode. -/
def Mode.code : Mode → Nat
  | .off => 0
  | .normal => 1
  | .boost => 2

/-- R131: every field in its range, the safe level at most the normal target, both targets at most the ceiling. -/
def PumpSettings.valid (p : PumpSettings) : Bool :=
  p.normal ≤ 1500 && p.boost ≤ 1500 && p.ceiling ≤ 1500 && p.safe ≤ 1500 && p.economy ≤ 1500 && 1 ≤ p.rampStep &&
    p.rampStep ≤ 250 && 60 ≤ p.probeInterval && p.probeInterval ≤ 300 && 1 ≤ p.probeDuration && p.probeDuration ≤ 9 &&
    p.safe ≤ p.normal && p.normal ≤ p.ceiling && p.boost ≤ p.ceiling

/-- The fields of a Pump Settings entry as they stand in its layout. -/
def readPump (l : List Byte) : Option PumpSettings :=
  match Mode.ofCode (byteAt l 14) with
  | some m =>
    let p : PumpSettings := ⟨halfAt l 0, halfAt l 2, halfAt l 4, halfAt l 6, halfAt l 8, byteAt l 10, halfAt l 11,
      byteAt l 13, m⟩
    if p.valid then some p else none
  | none => none

/-- The image layout of a Pump Settings entry. -/
def PumpSettings.bytes (p : PumpSettings) : List Byte :=
  bytes16 p.normal ++ bytes16 p.boost ++ bytes16 p.ceiling ++ bytes16 p.safe ++ bytes16 p.economy ++
    [byteOf p.rampStep] ++ bytes16 p.probeInterval ++ [byteOf p.probeDuration, byteOf p.storedMode.code]

/-! Table 10, Line Settings (R16). -/

/-- R16: a threshold of 1 to 1000 and a hop budget of at most 63. -/
def readLine (l : List Byte) : Option LineSettings :=
  if 1 ≤ halfAt l 0 ∧ halfAt l 0 ≤ 1000 ∧ byteAt l 2 ≤ 63 then some ⟨halfAt l 0, byteAt l 2⟩ else none

/-- The image layout of the Line Settings. -/
def LineSettings.bytes (t : LineSettings) : List Byte := bytes16 t.threshold ++ [byteOf t.hopBudget]

/-! Table 12, Management Settings (R37). -/

/-- The report sides of a code. -/
def ReportSides.ofCode : Nat → Option ReportSides
  | 0 => some .a
  | 1 => some .b
  | 2 => some .both
  | _ => none

/-- The code of the report sides. -/
def ReportSides.code : ReportSides → Nat
  | .a => 0
  | .b => 1
  | .both => 2

/-- R37: a contact window of at least 1 minute, report sides at most 2, remote operations at most 1. -/
def readManagement (l : List Byte) : Option ManagementSettings := do
  let sides ← ReportSides.ofCode (byteAt l 1)
  let remote ← flagOf (byteAt l 2)
  if 1 ≤ byteAt l 0 then some ⟨byteAt l 0, sides, remote⟩ else none

/-- The image layout of the Management Settings. -/
def ManagementSettings.bytes (t : ManagementSettings) : List Byte :=
  [byteOf t.window, byteOf t.sides.code, byteOf (bit t.remote)]

/-! The stored settings image (R160). -/

/-- The size in bytes of one entry of a table (R160). -/
def entrySize : Nat → Nat
  | 1 => 1
  | 2 => 19
  | 3 => 7
  | 4 => 49
  | 5 => 12
  | 6 => 16
  | 7 => 1
  | 8 => 43
  | 9 => 15
  | 10 => 3
  | 11 => 1
  | 12 => 3
  | _ => 0

/-- The number of entries of a table (section 2.5.1). -/
def entryCount : Nat → Nat
  | 1 => 32
  | 2 => 1
  | 3 => 16
  | 4 => 4
  | 5 => 12
  | 6 => 64
  | 7 => 4
  | 8 => 1
  | 9 => 2
  | 10 => 1
  | 11 => 8
  | 12 => 1
  | _ => 0

/-- The offset of a table's section in the image (R160). -/
def sectionOffset : Nat → Nat
  | 1 => 5
  | 2 => 37
  | 3 => 56
  | 4 => 168
  | 5 => 364
  | 6 => 508
  | 7 => 1532
  | 8 => 1536
  | 9 => 1579
  | 10 => 1609
  | 11 => 1612
  | 12 => 1620
  | _ => 1623

/-- The image layout of the entries of one table, in index order. -/
def Tables.entryBytes (t : Tables) : Nat → List (List Byte)
  | 1 => t.actions.map Action.bytes
  | 2 => [t.scan.bytes]
  | 3 => t.cals.map Calibration.bytes
  | 4 => t.curves.map Curve.bytes
  | 5 => t.polls.map PollEntry.bytes
  | 6 => t.conds.map Condition.bytes
  | 7 => t.sheds.map shedBytes
  | 8 => [t.supply.bytes]
  | 9 => [t.pumps.ab.bytes, t.pumps.ba.bytes]
  | 10 => [t.line.bytes]
  | 11 => t.idles.map idleBytes
  | 12 => [t.mgmt.bytes]
  | _ => []

/-- The sections of the image, table 1 to table 12. -/
def Tables.sections (t : Tables) : List Byte := (List.range 12).flatMap (fun i => (t.entryBytes (i + 1)).flatten)

/-- The length of the stored settings image (R160). -/
def imageLength : Nat := 1625

/-- The head of the image: signature C2h 46h, format 1, image length 1625. -/
def imageHead : List Byte := [0xC2, 0x46, 0x01] ++ bytes16 imageLength

/-- The stored settings image of the tables, with its CRC over offsets 0 to 1622 (R160). -/
def Tables.image (t : Tables) : List Byte :=
  let body := imageHead ++ t.sections
  body ++ bytes16 (crc16 body).toNat

/-- The bytes of entry `i` of table `id` in an image. -/
def entryAt (img : List Byte) (id i : Nat) : List Byte :=
  (img.drop (sectionOffset id + i * entrySize id)).take (entrySize id)

/-- The members of a list of optional values, none if one is missing. -/
def allOf {α : Type} : List (Option α) → Option (List α)
  | [] => some []
  | none :: _ => none
  | some x :: l =>
    match allOf l with
    | some r => some (x :: r)
    | none => none

/-- The entries of table `id` of an image, each read by its owner's reader. -/
def entriesOf {α : Type} (img : List Byte) (id : Nat) (reader : Nat → List Byte → Option α) : Option (List α) :=
  allOf ((List.range (entryCount id)).map (fun i => reader i (entryAt img id i)))

/-- Check 4 of R161: every entry of every table passes the validation its owner applies to a WRITE ENTRY. -/
def tablesOf (img : List Byte) : Option Tables := do
  let actions ← entriesOf img 1 readAction
  let scan ← readScan (entryAt img 2 0)
  let cals ← entriesOf img 3 (fun _ => readCalibration)
  let curves ← entriesOf img 4 (fun _ => readCurve)
  let polls ← entriesOf img 5 (fun _ => readPollEntry)
  let conds ← entriesOf img 6 readCondition
  let sheds ← entriesOf img 7 (fun _ => readShed)
  let supply ← readSupply (entryAt img 8 0)
  let pab ← readPump (entryAt img 9 0)
  let pba ← readPump (entryAt img 9 1)
  let line ← readLine (entryAt img 10 0)
  let idles ← entriesOf img 11 readIdle
  let mgmt ← readManagement (entryAt img 12 0)
  some ⟨actions, scan, cals, curves, polls, conds, sheds, supply, ⟨pab, pba⟩, line, idles, mgmt⟩

/-- Checks 2, 3 and 4 of R161 on the bytes read: signature, format and length; the CRC; every entry. -/
def acceptImage (img : List Byte) : Option Tables :=
  if img.length = imageLength ∧ img.take 5 = imageHead ∧ (crc16 (img.take 1623)).toNat = halfAt img 1623 then tablesOf img
  else none

end Sys2Proof.Machine
end

