-- ==== Sys2Proof/Machine/Builtin.lean ====
section
/-! DEFINITION. The built-in tables (section 10.2.1): R15, R57, R63, R66, R76, R119, R156, R146, R131, R16, R37. -/

namespace Sys2Proof.Machine

/-- R15: the built-in Message Action Table; rows are the type codes 0 to 7, columns MINE, ALL, HEAD, OTHER. -/
def builtinActions : List Action :=
  [.forward, .forward, .forward, .forward, .consume, .copy, .forward, .forward,
   .discard, .discard, .forward, .forward, .discard, .discard, .forward, .forward,
   .consume, .copy, .forward, .forward, .consume, .copy, .forward, .forward,
   .forward, .forward, .forward, .forward, .forward, .forward, .forward, .forward]

/-- R57: sixteen slots AN0 to AN15, 100 ms. -/
def builtinScan : ScanTable := ⟨16, List.range 16, 100⟩

/-- R63: AN0 to AN3 on curves 0 to 3, the others linear, gain 1024, offset 0, shift 2. -/
def builtinCals : List Calibration :=
  (List.range 16).map (fun i => if i < 4 then ⟨.curve, 1024, 0, i, 2⟩ else ⟨.linear, 1024, 0, 0, 2⟩)

/-- R66: the built-in curve. The breakpoints past the fourth, which are not part of the curve, hold code 0 and value 0
(DESIGN CHOICE, log entry 39: the manual gives them no content). -/
def builtinCurve : Curve :=
  ⟨4, [(200, -4000), (800, -2500), (1600, -1200), (3000, 0)] ++ List.replicate 8 (0, 0)⟩

/-- R76: the built-in poll entry, unused. -/
def builtinPoll : PollEntry := ⟨0, 0, 2, 0xFFFF, false, 1024, 0, 10, 1⟩

/-- R119: the row of entries 6 to 63. -/
def builtinUnused : Condition := ⟨false, 0, .above, 0, 0, 1, 1, .note, false, false, .none, .none⟩

/-- R119: entries 0 to 5. -/
def builtinFirst : List Condition :=
  [⟨true, 45, .mtch, 1, 1, 1, 1, .major, false, true, .none, .none⟩,
   ⟨true, 32, .above, 1, 1, 3, 3, .critical, false, true, .none, .none⟩,
   ⟨true, 33, .above, 1, 1, 3, 3, .critical, false, true, .none, .none⟩,
   ⟨true, 0, .below, -3500, -3300, 5, 5, .critical, false, true, .lost .a, .reduce .ab⟩,
   ⟨true, 2, .below, -3500, -3300, 5, 5, .critical, false, true, .lost .b, .reduce .ba⟩,
   ⟨true, 8, .below, 4600, 4700, 5, 5, .major, false, true, .none, .shed 2⟩]

/-- R119: the built-in Condition Table. -/
def builtinConds : List Condition := builtinFirst ++ List.replicate 58 builtinUnused

/-- R146: the built-in Supply Settings. -/
def builtinSupply : SupplySettings :=
  { presence := 1000, floor := 4000, arrayCode := 1, brownOut := 4400, brownOutRelease := 4550, absorbVoltage := 5640,
    floatVoltage := 5400, floatReturn := 5100, warmReduction := 96, absorbEnd := 200, absorbTime := 4, bulkTime := 10,
    t1 := 0, t2 := 1000, t3 := 4500, t4 := 5500, zoneHyst := 200, v1 := 4800, v2 := 4700, v3 := 4600, v4 := 4500,
    shedHyst := 50, coldLevel := 1, hotLevel := 2 }

/-- R131: the built-in Pump Settings of each channel. -/
def builtinPump : PumpSettings := ⟨600, 900, 1000, 40, 300, 25, 100, 2, .normal⟩

/-- R16: the built-in Line Settings. -/
def builtinLine : LineSettings := ⟨10, 63⟩

/-- R37: the built-in Management Settings. -/
def builtinManagement : ManagementSettings := ⟨30, .both, false⟩

/-- The twelve built-in tables (section 10.2.1). -/
def builtinTables : Tables :=
  { actions := builtinActions, scan := builtinScan, cals := builtinCals, curves := List.replicate 4 builtinCurve,
    polls := List.replicate 12 builtinPoll, conds := builtinConds, sheds := List.replicate 4 0, supply := builtinSupply,
    pumps := ⟨builtinPump, builtinPump⟩, line := builtinLine, idles := List.replicate 8 false, mgmt := builtinManagement }

end Sys2Proof.Machine
end

