-- ==== Sys2Proof/Machine/Operands.lean ====
section
/-! DEFINITION. The operand forms of the line: the span frame, its header, the messages of its message area (sections
1.1 to 1.3, R2, R3, R5), taken apart and built. -/

namespace Sys2Proof.Machine

/-- A management message: its header fields and its payload; the length field is the payload's length (section 1.2). -/
structure Message where
  type : Byte
  dst : Byte
  src : Byte
  hop : Byte
  tag : Byte
  payload : List Byte
  deriving DecidableEq, Repr

/-- The space a message takes: 6 plus its length. -/
def Message.size (m : Message) : Nat := 6 + m.payload.length

/-- The type code, bits 0 to 2 of the type byte. -/
def Message.typeCode (m : Message) : Nat := m.type.toNat % 8

/-- The bytes of a message: the 6 header bytes, then the payload. -/
def Message.bytes (m : Message) : List Byte :=
  [m.type, m.dst, m.src, m.hop, m.tag, byteOf m.payload.length] ++ m.payload

/-- The message types the part knows (section 1.2). -/
def typeCommand : Nat := 1
/-- REPLY. -/
def typeReply : Nat := 2
/-- ALERT. -/
def typeAlert : Nat := 3
/-- BEAT. -/
def typeBeat : Nat := 4
/-- SURVEY. -/
def typeSurvey : Nat := 5

/-- R3: the next message of a message area, with what follows it; none when the next message is malformed. The tests are
in R3's order: header within the used length, length at most 64, payload within it, address and hop fields at most 63. -/
def nextMessage (l : List Byte) : Option (Message × List Byte) :=
  if l.length < 6 then none
  else if 64 < byteAt l 5 then none
  else if l.length < 6 + byteAt l 5 then none
  else if 63 < byteAt l 1 ∨ 63 < byteAt l 2 ∨ 63 < byteAt l 3 then none
  else some (⟨l.getD 0 0, l.getD 1 0, l.getD 2 0, l.getD 3 0, l.getD 4 0, (l.drop 6).take (byteAt l 5)⟩, l.drop (6 + byteAt l 5))

/-- R3: the well-formed messages of the used part of a message area, in order, and whether a malformed one ended it.
The fuel is the number of bytes; each message takes at least 6. -/
def parseMessages : Nat → List Byte → List Message × Bool
  | _, [] => ([], false)
  | 0, _ => ([], true)
  | n + 1, l =>
    match nextMessage l with
    | none => ([], true)
    | some (m, rest) => let r := parseMessages n rest; (m :: r.1, r.2)

/-- The sync bytes 7Ah, C3h, 5Eh. -/
def syncPattern : List Byte := [0x7A, 0xC3, 0x5E]

/-- The length of a span frame. -/
def frameLength : Nat := 384

/-- The message area of a frame: 370 bytes. -/
def areaLength : Nat := 370

/-- The header of a span frame (section 1.1). -/
structure Header where
  number : Nat
  sender : Byte
  ufm : Bool
  rfm : Bool
  launchValid : Bool
  ufmOrigin : Byte
  launch : Int
  used : Nat
  deriving DecidableEq, Repr

/-- The marks byte: bit 0 UFM, bit 1 RFM, bit 2 launch-valid, bits 3 to 7 sent as 0. -/
def Header.marks (h : Header) : Byte := byteOf (bit h.ufm + 2 * bit h.rfm + 4 * bit h.launchValid)

/-- The nine header bytes. -/
def Header.bytes (h : Header) : List Byte :=
  bytes16 h.number ++ [h.sender, h.marks, h.ufmOrigin] ++ bytesSigned h.launch ++ bytes16 h.used

/-- The header of a received frame; bits 3 to 7 of the marks byte are ignored. -/
def frameHeader (f : List Byte) : Header :=
  { number := halfAt f 3, sender := f.getD 5 0, ufm := (f.getD 6 0).getLsbD 0, rfm := (f.getD 6 0).getLsbD 1,
    launchValid := (f.getD 6 0).getLsbD 2, ufmOrigin := f.getD 7 0, launch := signedAt f 8, used := halfAt f 10 }

/-- The used part of a received frame's message area. -/
def frameUsed (f : List Byte) : List Byte := ((f.drop 12).take areaLength).take (frameHeader f).used

/-- The first three bytes are the sync pattern. -/
def syncGood (f : List Byte) : Bool := f.take 3 == syncPattern

/-- R2: the CRC over offsets 3 to 381 equals the received CRC field, high byte first. -/
def crcGood (f : List Byte) : Bool := (crc16 ((f.drop 3).take 379)).toNat == halfAt f 382

/-- A frame of 384 bytes with good sync and good CRC (R8). -/
def goodFrame (f : List Byte) : Bool := f.length == frameLength && syncGood f && crcGood f

/-- A frame of 384 bytes with good sync and bad CRC (R8). -/
def badCrcFrame (f : List Byte) : Bool := f.length == frameLength && syncGood f && !crcGood f

/-- The 384 bytes of a frame: sync, header, the messages, fill 00h, CRC high byte first (R1, R2). -/
def buildFrame (h : Header) (area : List Byte) : List Byte :=
  let covered := h.bytes ++ padTo areaLength area
  syncPattern ++ covered ++ bytes16 (crc16 covered).toNat

/-- A message the hut originates (R5): bits 3 to 7 of the type byte 0. -/
def originate (type : Nat) (dst src : Byte) (hop : Nat) (tag : Byte) (payload : List Byte) : Message :=
  ⟨byteOf type, dst, src, byteOf hop, tag, payload⟩

/-- The address of the head station a side faces: 62 for A, 63 for B. -/
def headAddress : Side → Byte
  | .a => 62
  | .b => 63

/-- The head station a source address names, if any. -/
def headOf (src : Byte) : Option Side :=
  if src = 62 then some .a else if src = 63 then some .b else none

/-- The port on the other side. -/
def otherSide : Side → Side
  | .a => .b
  | .b => .a

/-- R4: the destination class of a message at a hut of own address `own` (0 when unaddressed). -/
def destClass (own dst : Byte) : DestClass :=
  if dst = own ∧ own ≠ 0 then .mine
  else if dst = 61 then .all
  else if dst = 62 ∨ dst = 63 then .head
  else .other

/-- R4: the own address a reading of ADDR0 to ADDR5 gives. -/
def ownAddress (pins : BitVec 6) : Byte :=
  if 1 ≤ pins.toNat ∧ pins.toNat ≤ 60 then pins.setWidth 8 else 0

end Sys2Proof.Machine
end

