-- ==== Sys2Proof/Machine/TwoWire.lean ====
section
/-! DEFINITION. The part's side of a two-wire bus, bit by bit: the sensor bus and the EEPROM port (R74, R75, R82, R161, R163). -/

namespace Sys2Proof.Machine

/-- One thing the part does on a two-wire bus (R74): a start or a stop condition, a bit it sends, the acknowledge clock of
a byte it sent, a bit it receives, a clock pulse with the data line released (R82), and letting both lines go (R75, R81). -/
inductive BusSignal where
  | start
  | stop
  | send (bit : Bool)
  | awaitAcknowledge
  | receive
  | pulse
  | release
  deriving DecidableEq, Repr

/-- What the part does with the two open-drain lines: true releases a line, false pulls it low (4.1). -/
structure BusLines where
  clock : Bool
  data : Bool
  deriving DecidableEq, Repr

/-- R74: how the part drives the lines for a signal, moment by moment. A bit's data line is set while the clock is low and
held while it is high; a start condition is data going low, a stop condition data going high, while the clock is high. -/
def BusSignal.lines : BusSignal → List BusLines
  | .start => [⟨true, true⟩, ⟨true, false⟩, ⟨false, false⟩]
  | .stop => [⟨false, false⟩, ⟨true, false⟩, ⟨true, true⟩]
  | .send b => [⟨false, b⟩, ⟨true, b⟩, ⟨false, b⟩]
  | .awaitAcknowledge | .receive | .pulse => [⟨false, true⟩, ⟨true, true⟩, ⟨false, true⟩]
  | .release => [⟨true, true⟩]

/-- R74: whether the part reads the data line back in a signal: where it releases the line in a 1 bit, a start or a stop. -/
def BusSignal.readsBack : BusSignal → Bool
  | .start | .stop => true
  | .send b => b
  | .awaitAcknowledge | .receive | .pulse | .release => false

/-- R74, R75: whether the data line can be lost at the signal of an index. -/
def readsBackAt (l : List BusSignal) (n : Nat) : Bool := (l[n]?).any BusSignal.readsBack

/-- R74: a byte sent, most significant bit first, and the clock on which its receiver acknowledges. -/
def sendByte (b : Byte) : List BusSignal := (List.range 8).map (fun i => .send (b.getMsbD i)) ++ [.awaitAcknowledge]

/-- R74: a byte received, and the part's acknowledge: data pulled low, or left high to not-acknowledge. -/
def receiveByte (acknowledge : Bool) : List BusSignal := List.replicate 8 .receive ++ [.send (!acknowledge)]

/-- A read transaction of R75: the device's address, the bytes of its register code, and the data length. -/
structure BusRead where
  address : Nat
  register : List Byte
  length : Nat
  deriving DecidableEq, Repr

/-- The phases of a read transaction in order (R75). -/
def readPhases : List BusPhase := [.start, .addressWrite, .register, .repeatedStart, .addressRead, .data, .stop]

/-- R75: what the part does in a phase of a read transaction. -/
def BusRead.phase (r : BusRead) : BusPhase → List BusSignal
  | .start | .repeatedStart => [.start]
  | .addressWrite => sendByte (byteOf (r.address * 2))
  | .register => r.register.flatMap sendByte
  | .addressRead => sendByte (byteOf (r.address * 2 + 1))
  | .data => (List.replicate (r.length - 1) (receiveByte true)).flatten ++ receiveByte false
  | .stop => [.stop]

/-- R75: a whole read transaction. -/
def BusRead.signals (r : BusRead) : List BusSignal := readPhases.flatMap r.phase

/-- R75: a read transaction up to its `n`-th signal of a phase. -/
def BusRead.upTo (r : BusRead) (ph : BusPhase) (n : Nat) : List BusSignal :=
  (readPhases.takeWhile (· != ph)).flatMap r.phase ++ (r.phase ph).take n

/-- R75: what the part did in a read transaction that failed: after a not-acknowledge a stop condition, after a lost data
line both lines released without a stop. -/
def BusRead.failed (r : BusRead) : ReadFailure → List BusSignal
  | .notAcknowledged ph n => r.upTo ph (n + 1) ++ [.stop]
  | .lostDataLine ph n => r.upTo ph n ++ [.release]

/-- R74, R75: whether a read transaction can fail so: a not-acknowledge on an acknowledge clock of the device's, a lost data
line where the part reads it back. -/
def BusRead.mayFail (r : BusRead) : ReadFailure → Bool
  | .notAcknowledged ph n => (r.phase ph)[n]? == some .awaitAcknowledge
  | .lostDataLine ph n => readsBackAt (r.phase ph) n

/-- The read transaction of a poll entry (R75). -/
def PollEntry.busRead (e : PollEntry) : BusRead := ⟨e.addr, [byteOf e.register], e.length⟩

/-- R161: the sequential read of the settings image: device 54h, memory address 0 in two bytes, 1625 bytes. -/
def imageBusRead : BusRead := ⟨0x54, bytes16 0, imageLength⟩

/-- R163: a write transaction of these bytes, the device address first. -/
def writeSignals (bytes : List Byte) : List BusSignal := [.start] ++ bytes.flatMap sendByte ++ [.stop]

/-- R82, R84: nine clock pulses, then a stop condition. -/
def recoverySignals : List BusSignal := List.replicate 9 .pulse ++ [.stop]

end Sys2Proof.Machine
end

