-- ==== Sys2Proof/Machine/Blocks.lean ====
section
/-! DEFINITION. The state of each block (section 2.2 of the scope file) as plain data, and its value after power-on reset
and the reset pin. Times are absolute, in microseconds of the model's clock. -/

namespace Sys2Proof.Machine

/-! Line interfaces and the Relay Engine's per-port state (chapter 1). -/

/-- The sync state of a line receiver (1.4). -/
inductive SyncState where
  | hunt
  | confirm
  | sync
  deriving DecidableEq, Repr

/-- The line state of a port (R9). -/
inductive LineState where
  | ok
  | degraded
  | lost
  deriving DecidableEq, Repr

/-- The point value of a line state (R9). -/
def LineState.code : LineState → Nat
  | .ok => 0
  | .degraded => 1
  | .lost => 2

/-- A message of an insert queue; `restartReply` marks the reply whose leaving starts a pending RESTART (R53). -/
structure Queued where
  msg : Message
  restartReply : Bool
  deriving DecidableEq, Repr

/-- The state of one port: its receiver, window and line state (R6 to R10), transmit timer, frame number and insert queue
(R1, R19, R25), header record and RFM run count (R11), relay buffer of the messages received on it (R14: port A's is the
A→B buffer, port B's the B→A buffer), the counters (R3, R13, R14, R20), and the frame it last sent (R1; empty for none).
`pos` is the position of the stream the receiver works at: where the search goes on in HUNT, p in CONFIRM, where the next
frame is expected in SYNC. -/
structure LinePort where
  sync : SyncState
  missed : Nat
  pos : Nat
  window : Nat
  lastWindow : Nat
  windowAt : Nat
  lineState : LineState
  transmitAt : Nat
  frameNumber : BitVec 16
  queue : List Queued
  ufm : Bool
  ufmOrigin : Byte
  rfm : Bool
  rfmRun : Nat
  relay : List Message
  hopExpired : Nat
  malformed : Nat
  slip : Nat
  alertsLost : Nat
  replyLost : Nat
  sent : List Byte
  deriving DecidableEq, Repr

/-- R10, R14, R20, R26: a port after power-on reset or the reset pin taken at time `t`. -/
def LinePort.powerOn (t : Nat) : LinePort :=
  { sync := .hunt, missed := 0, pos := 0, window := 0, lastWindow := 0, windowAt := t + seconds 1, lineState := .lost,
    transmitAt := t + millis 1, frameNumber := 0, queue := [], ufm := false, ufmOrigin := 0, rfm := false, rfmRun := 0,
    relay := [], hopExpired := 0, malformed := 0, slip := 0, alertsLost := 0, replyLost := 0, sent := [] }

/-! The Management Agent (chapter 2). -/

/-- What a handed message is (R12). -/
inductive HandedKind where
  | command
  | beat
  deriving DecidableEq, Repr

/-- A message the Relay Engine has handed to the Management Agent (R12). -/
structure Handed where
  kind : HandedKind
  sender : Sender
  payload : List Byte
  deriving DecidableEq, Repr

/-- A pending RESTART: the port of its reply, and whether that reply has been placed in a frame or rejected (R53). -/
structure RestartPending where
  port : Side
  due : Bool
  deriving DecidableEq, Repr

/-- The Management Agent's state (chapter 2): a contact timer holds its expiry, none when expired; an output forcing is
none for AUTO; the shed forcing is none for AUTO; `store` is the store-in-flight flag with the sender of its command. -/
structure Agent where
  control : Option Side
  contacts : Pair (Option Nat)
  lock : Bool
  hutTime : BitVec 32
  timeSet : Bool
  secondAt : Nat
  outForce : List (Option Bool)
  shedForce : Option Nat
  pumpForce : Duo (Option Mode)
  store : Option Sender
  restart : Option RestartPending
  deriving DecidableEq, Repr

/-- The built-in contact window of 30 minutes (R34). -/
def builtinWindow : Nat := seconds (60 * 30)

/-- R54: the agent after power-on reset or the reset pin taken at time `t`. -/
def Agent.powerOn (t : Nat) : Agent :=
  { control := none, contacts := ⟨some (t + builtinWindow), some (t + builtinWindow)⟩, lock := false, hutTime := 0,
    timeSet := false, secondAt := t + seconds 1, outForce := List.replicate 7 none, shedForce := none,
    pumpForce := ⟨none, none⟩, store := none, restart := none }

/-! The Sampling Unit (chapter 3). -/

/-- The settle state of a channel (R61). -/
inductive Settle where
  | discard
  | seed
  | filtering
  deriving DecidableEq, Repr

/-- The conversion in flight: the slot it belongs to and its completion time (R55). -/
structure Conversion where
  slot : Nat
  doneAt : Nat
  deriving DecidableEq, Repr

/-- The Sampling Unit's state: the next period start (none while stopped), the conversion in flight (none outside a
scan), and each channel's settle state and filter accumulator. -/
structure Sampling where
  periodAt : Option Nat
  conversion : Option Conversion
  settle : List Settle
  accumulator : List Int
  deriving DecidableEq, Repr

/-- R72: the Sampling Unit after every kind of reset. -/
def Sampling.atReset : Sampling := ⟨none, none, List.replicate 16 .discard, List.replicate 16 0⟩

/-! The Sensor Poll Unit (chapter 4). -/

/-- The run state of a poll entry (R77). -/
inductive PollState where
  | idle
  | due
  | active
  | waitingRetry
  | failed
  deriving DecidableEq, Repr

/-- The run state, attempt count and next-due or retry time of a poll entry (R77). -/
structure PollRun where
  state : PollState
  attempts : Nat
  time : Option Nat
  deriving DecidableEq, Repr

/-- The bus state (chapter 4). -/
inductive BusState where
  | idle
  | busy
  | fault
  deriving DecidableEq, Repr

/-- What an operation on the sensor bus is: a read transaction (R75), a recovery (R82) or the nine clocks and stop after
autoload (R84). -/
inductive BusOpKind where
  | read
  | recovery
  | startup
  deriving DecidableEq, Repr

/-- The operation in flight: the entry it serves, with the fields it began with, and its discard mark (R83). -/
structure BusOp where
  kind : BusOpKind
  index : Nat
  entry : PollEntry
  discard : Bool
  deriving DecidableEq, Repr

/-- The Sensor Poll Unit's state; `watch` is the clock watch of R81 (off from each reset until the nine pulses are done),
`driven` what the part put on the bus in the last operation that ended. -/
structure Poll where
  bus : BusState
  op : Option BusOp
  runs : List PollRun
  watch : Bool
  driven : List BusSignal
  deriving DecidableEq, Repr

/-- R84: the Sensor Poll Unit after every kind of reset. -/
def Poll.atReset : Poll := ⟨.idle, none, List.replicate 12 ⟨.idle, 0, none⟩, false, []⟩

/-! The Point Table (chapter 5). -/

/-- The validity of a point (R85). -/
inductive Validity where
  | valid
  | under
  | over
  | invalid
  deriving DecidableEq, Repr

/-- The code of a validity in a READ POINTS reply (1.3.2). -/
def Validity.code : Validity → Nat
  | .valid => 0
  | .under => 1
  | .over => 2
  | .invalid => 3

/-- A point record (R85). -/
structure Point where
  value : Int
  validity : Validity
  age : Nat
  deriving DecidableEq, Repr

/-- A launch record: launch power, arrival time, and whether its launch expiry has been taken (R89). -/
structure Launch where
  power : Int
  arrivedAt : Nat
  expired : Bool
  deriving DecidableEq, Repr

/-- A discrete input: raw level, debounced level, and the expiry of its debounce timer while it runs (R94). -/
structure Input where
  raw : Bool
  debounced : Bool
  timer : Option Nat
  deriving DecidableEq, Repr

/-- The Point Table's state (chapter 5): 46 records, the staleness deadlines of points 0 to 27, the age timer's next
expiry, the launch record of each port, the eight discrete inputs. -/
structure PointTable where
  recs : List Point
  deadlines : List (Option Nat)
  ageAt : Nat
  launch : Pair (Option Launch)
  inputs : List Input
  deriving DecidableEq, Repr

/-- The record of a measurement no writer has written since the reset (R97). -/
def unwritten : Point := ⟨0, .invalid, 0⟩

/-- A valid record of age 0. -/
def fresh (v : Int) : Point := ⟨v, .valid, 0⟩

/-- R97: points 30 to 45 after power-on reset or the reset pin. -/
def derivedAtPowerOn : List Point :=
  [fresh 0, fresh 0, fresh 2, fresh 2, fresh 0, fresh 0, fresh 0, fresh 0, fresh 2, fresh 0, fresh 0, fresh 0, fresh 0,
   fresh 0, fresh 0, fresh 1]

/-- R94, R95, R97: the Point Table after power-on reset or the reset pin at time `t`, with the levels at IN0 to IN7. -/
def PointTable.powerOn (t : Nat) (levels : Byte) : PointTable :=
  { recs := List.replicate 30 unwritten ++ derivedAtPowerOn, deadlines := List.replicate 28 none, ageAt := t + millis 100,
    launch := ⟨none, none⟩,
    inputs := (List.range 8).map (fun i => ⟨levels.getLsbD i, false, some (t + millis 50)⟩) }

/-! The Condition Engine and the Alarm Reporter (chapters 6 and 7). -/

/-- The run state of a condition (R101). -/
inductive RunState where
  | idle
  | clear
  | setPending
  | raised
  | clearPending
  deriving DecidableEq, Repr

/-- The run state and count of a condition (R101). -/
structure CondRun where
  state : RunState
  count : Nat
  deriving DecidableEq, Repr

/-- The Condition Engine's state (chapter 6): run states and counts, the next pass (none while the pass timer is
stopped), and its three outputs as last handed. -/
structure Engine where
  runs : List CondRun
  passAt : Option Nat
  shedRequest : Nat
  reduce : Duo Bool
  outRequest : BitVec 7
  deriving DecidableEq, Repr

/-- R117, R118: the run state an entry starts from. -/
def startRun (c : Condition) : CondRun := ⟨if c.enable then .clear else .idle, 0⟩

/-- R117: the engine after every kind of reset. -/
def Engine.atReset : Engine := ⟨builtinConds.map startRun, none, 0, ⟨false, false⟩, 0⟩

/-- The status of a standing entry (R120). -/
inductive AlarmStatus where
  | raised
  | cleared
  deriving DecidableEq, Repr

/-- An entry of the Standing Alarm List (R120). -/
structure Standing where
  index : Nat
  severity : Severity
  point : Nat
  latching : Bool
  report : Bool
  raiseTime : BitVec 32
  timeSet : Bool
  value : Int
  status : AlarmStatus
  acknowledged : Bool
  suppressed : Bool
  withheld : Bool
  deriving DecidableEq, Repr

/-! Pump Control and the Control Port (chapter 8). -/

/-- The state of a pump channel (R133). -/
inductive PumpState where
  | off
  | startWait
  | ramp
  | run
  | reduced
  | probe
  | fault
  deriving DecidableEq, Repr

/-- The point value of a pump state (5.2). -/
def PumpState.code : PumpState → Nat
  | .off => 0
  | .startWait => 1
  | .ramp => 2
  | .run => 3
  | .reduced => 4
  | .probe => 5
  | .fault => 6

/-- A pump channel (chapter 8): state, mode, commanded current, the effective target held, the settings in use, and the
expiry of each timer while it runs. -/
structure Pump where
  state : PumpState
  mode : Mode
  current : Nat
  target : Nat
  inUse : PumpSettings
  startAt : Option Nat
  rampAt : Option Nat
  probeAt : Option Nat
  durationAt : Option Nat
  statusAt : Option Nat
  deriving DecidableEq, Repr

/-- R142: a channel after power-on reset or the reset pin. -/
def Pump.powerOn : Pump := ⟨.off, .off, 0, 0, builtinPump, none, none, none, none, none⟩

/-- A device of the Control Port (R143), named by its select line. -/
inductive Device where
  | pumpAB
  | pumpBA
  | charger
  deriving DecidableEq, Repr

/-- The registers of the devices: the first four are a pump driver's, the last four the charger's (R143). -/
inductive Register where
  | setpoint
  | clamp
  | enable
  | statusRead
  | currentLimit
  | voltageTarget
  | chargeEnable
  | chargeStatus
  deriving DecidableEq, Repr

/-- The register code of R143. -/
def Register.code : Register → Nat
  | .setpoint => 1
  | .clamp => 2
  | .enable => 3
  | .statusRead => 4
  | .currentLimit => 8
  | .voltageTarget => 9
  | .chargeEnable => 10
  | .chargeStatus => 11

/-- The class of a pending word (R144). -/
inductive WordClass where
  | safety
  | pump
  | charger
  deriving DecidableEq, Repr

/-- The rank of a class: safety above pump above charger (R144, R145); the lower number goes first. -/
def WordClass.rank : WordClass → Nat
  | .safety => 0
  | .pump => 1
  | .charger => 2

/-- A word of the pending set (R144). -/
structure PortWord where
  device : Device
  register : Register
  value : Nat
  cls : WordClass
  deriving DecidableEq, Repr

/-- The transfer in flight: the device selected, the 16-bit word that the shift register began with, and its completion time
(R143). -/
structure Transfer where
  device : Device
  word : BitVec 16
  doneAt : Nat
  deriving DecidableEq, Repr

/-- One thing the part does on the Control Port (R143): a device's select asserted or released, and a clock, with the bit
presented on data out and the bit sampled on data in. -/
inductive PortSignal where
  | assertSelect (d : Device)
  | clock (presented sampled : Bool)
  | releaseSelect (d : Device)
  deriving DecidableEq, Repr

/-- The Control Port's state: the pending word set, oldest first, the transfer in flight (R144, R145), and what the part did
on the port in the last transfer that ended (R143). -/
structure ControlPort where
  words : List PortWord
  transfer : Option Transfer
  driven : List PortSignal
  deriving DecidableEq, Repr

/-- R142, R145, R159: the Control Port after power-on reset or the reset pin at time `t`: emptied, then SETPOINT 0 and
ENABLE 0 for AB, the same for BA, and the charger's ENABLE 0 placed; the first is in flight at once. That Pump Control's
words come before the charger's is the model's choice (log entry 21). -/
def ControlPort.powerOn (t : Nat) : ControlPort :=
  { words := [⟨.pumpAB, .enable, 0, .pump⟩, ⟨.pumpBA, .setpoint, 0, .pump⟩, ⟨.pumpBA, .enable, 0, .pump⟩,
      ⟨.charger, .chargeEnable, 0, .charger⟩],
    transfer := some ⟨.pumpAB, 0x1000#16, t + 16⟩, driven := [] }

/-! The Supply Manager and the Output Resolver (chapter 9). -/

/-- The PV input state (R148). -/
inductive PvState where
  | absent
  | settling
  | testing
  | qualified
  | retryWait
  | lockedOut
  deriving DecidableEq, Repr

/-- The point value of a PV state (R148). -/
def PvState.code : PvState → Nat
  | .absent => 0
  | .settling => 1
  | .testing => 2
  | .qualified => 3
  | .retryWait => 4
  | .lockedOut => 5

/-- The battery zone (R151). -/
inductive Zone where
  | cold
  | cool
  | normal
  | warm
  | hot
  deriving DecidableEq, Repr

/-- The point value of a zone (R151). -/
def Zone.code : Zone → Nat
  | .cold => 0
  | .cool => 1
  | .normal => 2
  | .warm => 3
  | .hot => 4

/-- The charge stage (R152). -/
inductive Stage where
  | off
  | bulk
  | absorb
  | float
  | halted
  | fault
  deriving DecidableEq, Repr

/-- The Supply Manager's state (chapter 9). `stageTime` is the accumulated time of the stage timer in half seconds
(R153); `inUse` is the copy of the Supply Settings it works from (R159); `handed` is set while a channel in RUN or PROBE
has not yet acted on the effective shed level handed at a RESTART (log entry 40). -/
structure Supply where
  inUse : SupplySettings
  checkAt : Option Nat
  pv : PvState
  failures : Nat
  voc : Int
  settleAt : Option Nat
  testAt : Option Nat
  retryAt : Option Nat
  hold : Int
  limit : Nat
  derated : Bool
  noSag : Nat
  zone : Zone
  stage : Stage
  stageTime : Nat
  voltageLevel : Nat
  zoneLevel : Nat
  brownHold : Nat
  level : Nat
  handed : Bool
  deriving DecidableEq, Repr

/-- R159: the Supply Manager after power-on reset or the reset pin. -/
def Supply.powerOn : Supply :=
  { inUse := builtinSupply, checkAt := none, pv := .absent, failures := 0, voc := 0, settleAt := none, testAt := none,
    retryAt := none, hold := 0, limit := 0, derated := false, noSag := 0, zone := .normal, stage := .off, stageTime := 0,
    voltageLevel := 0, zoneLevel := 0, brownHold := 0, level := 0, handed := false }

/-- A pulse in progress: its fixed level and its end (R158). -/
structure Pulse where
  level : Bool
  endAt : Nat
  deriving DecidableEq, Repr

/-- The Output Resolver's state: the copies of the Shed Table and the Output Settings it works from (R159), the pulse in
progress of each of OUT0 to OUT6, the levels of those pins, and the level of OUT7. -/
structure Outputs where
  sheds : List (BitVec 7)
  idles : List Bool
  pulses : List (Option Pulse)
  levels : List Bool
  testLoad : Bool
  deriving DecidableEq, Repr

/-- R159: the outputs after power-on reset or the reset pin. -/
def Outputs.powerOn : Outputs :=
  ⟨List.replicate 4 0, List.replicate 8 false, List.replicate 7 none, List.replicate 7 false, false⟩

/-! The Settings Loader (chapter 10). -/

/-- The settings source (R162). -/
inductive Source where
  | stored
  | defaults
  deriving DecidableEq, Repr

/-- The code of a settings source (1.3.2, point 45). -/
def Source.code : Source → Nat
  | .stored => 0
  | .defaults => 1

/-- An autoload in progress (R161): whether a RESTART started it, the number of address retries so far, the time of the
next one (none once the EEPROM has acknowledged), its deadline, and when its read began (none while the EEPROM has not
acknowledged a retry), which gives its read position. -/
structure Autoload where
  afterRestart : Bool
  retries : Nat
  retryAt : Option Nat
  deadline : Nat
  readAt : Option Nat
  deriving DecidableEq, Repr

/-- R161: an autoload started by a reset at time `t`. -/
def Autoload.start (t : Nat) (afterRestart : Bool) : Autoload :=
  ⟨afterRestart, 0, some (t + millis 1), t + millis 100, some t⟩

/-- The autoload's read position at time `t`: how many of the image's bytes its read has come past. R161 says that they are
read in about 45 ms; that they come at an even rate within it is the model's choice (log entry 43). -/
def Autoload.position (t : Nat) (l : Autoload) : Option Nat :=
  l.readAt.map (fun t0 => min imageLength (imageLength * (t - t0) / millis 45))

/-- Where a store stands within its step (R163): its page write is being sent, its write cycle is being polled (next
address attempt, timeout), or the image is being read back. -/
inductive StorePhase where
  | writing
  | cycle (pollAt timeoutAt : Nat)
  | readBack
  deriving DecidableEq, Repr

/-- A store in progress: its image buffer, its step 1 to 52, and the phase of the step (R163). -/
structure Store where
  buffer : List Byte
  step : Nat
  phase : StorePhase
  deriving DecidableEq, Repr

/-- The Settings Loader's state: settings source, the autoload and the store in progress, and what the part put on the
EEPROM port in the last transaction that ended (chapter 10, R161). -/
structure Loader where
  source : Source
  autoload : Option Autoload
  store : Option Store
  driven : List BusSignal
  deriving DecidableEq, Repr

/-- R165: the Settings Loader after a reset at time `t`. -/
def Loader.atReset (t : Nat) (afterRestart : Bool) : Loader := ⟨.defaults, some (Autoload.start t afterRestart), none, []⟩

end Sys2Proof.Machine
end

