-- ==== Sys2Proof/Machine/State.lean ====
section
/-! DEFINITION. The state of the machine, the reasons a step can stop, and the state after reset. -/

namespace Sys2Proof.Machine

/-- Why a step stops with a fault: the manual gives the part no event that stops it, so no constructor. -/
inductive Fault where
  deriving DecidableEq, Repr

/-- Why a command is refused. -/
inductive Refusal where
  /-- Raised by exec alone, for a command without a meaning (safe: the model stops); no command is left so. -/
  | notModelled (mnemonic : String)
  /-- Raised when the operands spell another row's event: a good-frame arrival whose frame is not good, a sync pattern
  found where the bytes differ from it, an UNKNOWN_COMMAND whose payload names a command (safe: the model stops). -/
  | operandsOfAnotherRow
  deriving DecidableEq, Repr

/-- The state of the CJ2460 and of the settings EEPROM it writes. `now` is the model's clock in microseconds, `pending`
the commands waiting, `inbox` the management messages handed and not yet taken (R12, R27), `brownOuts` the brown-out
events handed and not yet taken (R71, R154), `eeprom` the EEPROM's bytes in canonical form (Machine/Memory.lean), and
`cuts` the model's count of the free values drawn for EEPROM content in doubt (R164). -/
structure State where
  now : Nat
  pending : List Instr
  inbox : List Handed
  brownOuts : List Int
  ownAddr : Byte
  ports : Pair LinePort
  tables : Tables
  agent : Agent
  sampling : Sampling
  poll : Poll
  points : PointTable
  engine : Engine
  alarms : List Standing
  pumps : Duo Pump
  port : ControlPort
  supply : Supply
  outputs : Outputs
  loader : Loader
  eeprom : List Host.Cell
  cuts : Nat
  deriving DecidableEq, Repr

/-- The machine right after power-on reset at time 0, with ADDR0 to ADDR5 reading 1 and IN0 to IN7 low (DESIGN CHOICE,
log entry 1: the manual gives the pins no value). -/
def State.reset : State :=
  { now := 0, pending := [], inbox := [], brownOuts := [], ownAddr := ownAddress 1, ports := ⟨LinePort.powerOn 0, LinePort.powerOn 0⟩,
    tables := builtinTables, agent := Agent.powerOn 0, sampling := Sampling.atReset, poll := Poll.atReset,
    points := PointTable.powerOn 0 0, engine := Engine.atReset, alarms := [], pumps := ⟨Pump.powerOn, Pump.powerOn⟩,
    port := ControlPort.powerOn 0, supply := Supply.powerOn, outputs := Outputs.powerOn, loader := Loader.atReset 0 false,
    eeprom := [], cuts := 0 }

end Sys2Proof.Machine
end

