-- ==== Sys2Proof/Machine/Flags.lean ====
section
/-! DEFINITION. Status and flag bytes (1.3.2, 1.3.3) and the tests and conversions that compute a flag or a validity:
linear and curve conversion (R65, R68), the filter (R69), the condition tests (R104 to R107). -/

namespace Sys2Proof.Machine

/-- The status of a reply (1.3.2). -/
inductive Status where
  | done
  | partially
  | notController
  | locked
  | badTable
  | badIndex
  | badValue
  | busy
  | disabled
  | failed
  | unknown
  deriving DecidableEq, Repr

/-- The status code (1.3.2). -/
def Status.code : Status → Nat
  | .done => 0
  | .partially => 1
  | .notController => 2
  | .locked => 3
  | .badTable => 4
  | .badIndex => 5
  | .badValue => 6
  | .busy => 7
  | .disabled => 8
  | .failed => 9
  | .unknown => 10

/-- The code of a control side: 0 NONE, 1 HEAD_A, 2 HEAD_B. -/
def controlCode : Option Side → Nat
  | none => 0
  | some .a => 1
  | some .b => 2

/-- The flags byte of a standing entry in READ STANDING (1.3.2). -/
def Standing.flags (e : Standing) : Byte :=
  byteOf (bit e.timeSet + 2 * bit (e.status = .cleared) + 4 * bit e.acknowledged + 8 * bit e.suppressed + 16 * bit e.withheld)

/-- The 9 bytes of a standing entry in READ STANDING (1.3.2). -/
def Standing.bytes (e : Standing) : List Byte :=
  [byteOf e.index, byteOf e.severity.code] ++ bytes32 e.raiseTime.toNat ++ bytesSigned e.value ++ [e.flags]

/-- The transitions an alert reports (1.3.3). -/
inductive Transition where
  | raised
  | cleared
  | reconfigured
  | raisedLate
  deriving DecidableEq, Repr

/-- The code of a transition. -/
def Transition.code : Transition → Nat
  | .raised => 1
  | .cleared => 2
  | .reconfigured => 3
  | .raisedLate => 4

/-- The 12-byte alert record of an entry (1.3.3, R127): the flags byte holds time-unset, latching, acknowledged. -/
def alertRecord (e : Standing) (t : Transition) (value : Int) (time : BitVec 32) (timeSet acknowledged : Bool) (count : Nat) :
    List Byte :=
  [byteOf e.index, byteOf t.code, byteOf e.severity.code, byteOf e.point] ++ bytesSigned value ++ bytes32 time.toNat ++
    [byteOf (bit (!timeSet) + 2 * bit e.latching + 4 * bit acknowledged), byteOf count]

/-- Division by a positive divisor, rounded half away from zero (R65, R68). -/
def roundHalfAway (num den : Int) : Int := if 0 ≤ num then (num + den / 2) / den else -((-num + den / 2) / den)

/-- The range of a point value. -/
def clampPoint (x : Int) : Int := saturate (-32768) 32767 x

/-- R65: linear conversion, with the validity of the saturation. -/
def linear (gain : Nat) (offset x : Int) : Int × Validity :=
  let v := roundHalfAway (x * gain) 1024 + offset
  (clampPoint v, if 32767 < v then .over else if v < -32768 then .under else .valid)

/-- R68, between breakpoints: the value at code `c` on the segment from the first breakpoint of the list that holds it. -/
def interpolate (c : Int) : List (Nat × Int) → Int
  | (c0, v0) :: (c1, v1) :: l =>
    if c = c0 then v0
    else if c < c1 then v0 + roundHalfAway ((v1 - v0) * (c - c0)) ((c1 : Int) - c0)
    else interpolate c ((c1, v1) :: l)
  | [(_, v0)] => v0
  | [] => 0

/-- R68: curve conversion of a code over the breakpoints in use. -/
def curveConvert (pts : List (Nat × Int)) (c : Nat) : Int × Validity :=
  let first := pts.headD (0, 0)
  let last := pts.getLastD (0, 0)
  if c < first.1 then (first.2, .under)
  else if last.1 < c then (last.2, .over)
  else (interpolate c pts, .valid)

/-- R65, R68: the engineering value of a channel's code. -/
def convert (curves : List Curve) (cal : Calibration) (code : Nat) : Int × Validity :=
  match cal.mode with
  | .linear => linear cal.gain cal.offset code
  | .curve => curveConvert (curves.getD cal.curve builtinCurve).used code

/-- R69: the filter's next accumulator; the quotient is rounded down. -/
def filterStep (avg v : Int) (k : Nat) : Int := avg + (v - avg) / (2 ^ k : Nat)

/-- The 16-bit pattern of a value (R98, R106). -/
def pattern (v : Int) : BitVec 16 := BitVec.ofInt 16 v

/-- R104 to R107: whether an entry's test is set-true on a record. -/
def setTrue (c : Condition) (p : Point) : Bool :=
  match c.kind with
  | .above => c.setLevel < p.value
  | .below => p.value < c.setLevel
  | .mtch => (pattern p.value &&& pattern c.clearLevel) == pattern c.setLevel
  | .noMatch => (pattern p.value &&& pattern c.clearLevel) != pattern c.setLevel
  | .invalid => p.validity == .invalid

/-- R104 to R107: whether an entry's test is clear-true on a record. -/
def clearTrue (c : Condition) (p : Point) : Bool :=
  match c.kind with
  | .above => p.value < c.clearLevel
  | .below => c.clearLevel < p.value
  | .mtch => (pattern p.value &&& pattern c.clearLevel) != pattern c.setLevel
  | .noMatch => (pattern p.value &&& pattern c.clearLevel) == pattern c.setLevel
  | .invalid => p.validity != .invalid

/-- R103: whether an entry is held at a pass on a record. -/
def held (c : Condition) (p : Point) : Bool := c.kind != .invalid && p.validity == .invalid

/-- The result of one entry's row of R102 at a pass: nothing to report, a raise, or a clear. -/
inductive Turn where
  | none
  | raises
  | clears
  deriving DecidableEq, Repr

/-- R102, R103: the run state and count of an entry after a pass, and whether it raises or clears there. -/
def passRow (c : Condition) (r : CondRun) (p : Point) : CondRun × Turn :=
  if held c p then (r, .none)
  else
    match r.state with
    | .idle => (r, .none)
    | .clear =>
      if setTrue c p then (if c.qualifySet ≤ 1 then (⟨.raised, 0⟩, .raises) else (⟨.setPending, 1⟩, .none)) else (⟨.clear, 0⟩, .none)
    | .setPending =>
      if setTrue c p then
        (if c.qualifySet ≤ r.count + 1 then (⟨.raised, 0⟩, .raises) else (⟨.setPending, r.count + 1⟩, .none))
      else (⟨.clear, 0⟩, .none)
    | .raised =>
      if clearTrue c p then (if c.qualifyClear ≤ 1 then (⟨.clear, 0⟩, .clears) else (⟨.clearPending, 1⟩, .none)) else (⟨.raised, 0⟩, .none)
    | .clearPending =>
      if clearTrue c p then
        (if c.qualifyClear ≤ r.count + 1 then (⟨.clear, 0⟩, .clears) else (⟨.clearPending, r.count + 1⟩, .none))
      else (⟨.raised, 0⟩, .none)

/-- A condition stands while it is RAISED or CLEAR_PENDING (6.2). -/
def CondRun.stands (r : CondRun) : Bool := r.state == .raised || r.state == .clearPending

end Sys2Proof.Machine
end

