-- ==== Sys2Proof/Machine/PumpOps.lean ====
section
/-! DEFINITION. What a pump channel does at each of its events (R132 to R141) and the Control Port's placing and choosing
of words (R143 to R145), on the channel and the port alone. -/

namespace Sys2Proof.Machine

/-- R143: the outgoing word, register code in the upper four bits, value in the lower twelve. -/
def PortWord.bits (w : PortWord) : BitVec 16 := BitVec.ofNat 16 (w.register.code * 4096 + w.value % 4096)

/-- The higher-ranking of two classes (R144). -/
def WordClass.higher (x y : WordClass) : WordClass := if x.rank ≤ y.rank then x else y

/-- R144: placing a word: over the pending word of the same device and register, in its place and with the higher class,
or at the end. -/
def joinWord (w : PortWord) : List PortWord → List PortWord
  | [] => [w]
  | x :: l =>
    if x.device = w.device ∧ x.register = w.register then ⟨x.device, x.register, w.value, x.cls.higher w.cls⟩ :: l
    else x :: joinWord w l

/-- The oldest word of a class, with the others. -/
def takeClass (c : WordClass) : List PortWord → Option (PortWord × List PortWord)
  | [] => none
  | x :: l =>
    if x.cls = c then some (x, l)
    else
      match takeClass c l with
      | some (y, r) => some (y, x :: r)
      | none => none

/-- R145: the word the arbiter chooses: safety words first, then pump words, then charger words, the oldest of its class. -/
def chooseWord (l : List PortWord) : Option (PortWord × List PortWord) :=
  match takeClass .safety l with
  | some r => some r
  | none =>
    match takeClass .pump l with
    | some r => some r
    | none => takeClass .charger l

/-- R145: with no transfer in flight, the chosen word leaves the set and its transfer starts, 16 µs long (R143). -/
def ControlPort.arbitrate (t : Nat) (p : ControlPort) : ControlPort :=
  match p.transfer with
  | some _ => p
  | none =>
    match chooseWord p.words with
    | some (w, rest) => { p with words := rest, transfer := some ⟨w.device, w.bits, t + 16⟩ }
    | none => p

/-- Placing one word (R144), the arbiter choosing at a placement into an idle port (R145). -/
def ControlPort.place (t : Nat) (w : PortWord) (p : ControlPort) : ControlPort :=
  ControlPort.arbitrate t { p with words := joinWord w p.words }

/-- Placing words in order. -/
def ControlPort.placeAll (t : Nat) : List PortWord → ControlPort → ControlPort
  | [], p => p
  | w :: l, p => ControlPort.placeAll t l (p.place t w)

/-- A word for the channel's pump driver. -/
structure PumpWord where
  register : Register
  value : Nat
  cls : WordClass
  deriving DecidableEq, Repr

/-- A channel after an event, with the words Pump Control places for it, in order. -/
structure PumpResult where
  pump : Pump
  words : List PumpWord
  deriving DecidableEq, Repr

/-- The device of a channel's driver. -/
def driver : Channel → Device
  | .ab => .pumpAB
  | .ba => .pumpBA

/-- A channel's word as a word of the pending set. -/
def PumpWord.on (c : Channel) (w : PumpWord) : PortWord := ⟨driver c, w.register, w.value, w.cls⟩

/-- R133: the effective target from the settings in use, the mode and the effective shed level. -/
def effectiveTarget (t : PumpSettings) (m : Mode) (level : Nat) : Nat :=
  let base :=
    match m with
    | .off => 0
    | .normal => t.normal
    | .boost => if 2 ≤ level then t.normal else t.boost
  let base := if level = 4 then min base t.economy else base
  min base t.ceiling

/-- R135: entry into RAMP; a channel already at its target goes to RUN at that event, with no word. -/
def Pump.enterRamp (now : Nat) (p : Pump) : Pump :=
  if p.current = p.target then { p with state := .run, startAt := none, rampAt := none }
  else { p with state := .ramp, startAt := none, rampAt := some (now + millis 10) }

/-- R133: the effective target computed afresh and held. -/
def Pump.aim (level : Nat) (p : Pump) : Pump := { p with target := effectiveTarget p.inUse p.mode level }

/-- R133: what a channel does by state on a change of its target: RUN and PROBE act on it at once. -/
def Pump.follow (now : Nat) (p : Pump) : PumpResult :=
  match p.state with
  | .run => ⟨p.enterRamp now, []⟩
  | .probe => ⟨{ p with current := p.target }, [⟨.setpoint, p.target, .pump⟩]⟩
  | .off | .startWait | .ramp | .reduced | .fault => ⟨p, []⟩

/-- R133: the effective target computed afresh, and what a change of it does in each state. -/
def Pump.retarget (now level : Nat) (p : Pump) : PumpResult :=
  if (p.aim level).target = p.target then ⟨p, []⟩ else (p.aim level).follow now

/-- R133: a channel acts on a target taken earlier, where it does not run at it yet (log entry 40). -/
def Pump.catchUp (now : Nat) (p : Pump) : PumpResult := if p.current = p.target then ⟨p, []⟩ else p.follow now

/-- R137, R138, R139: into REDUCED: the lesser of the safe level and the commanded current, one safety SETPOINT, the probe
timer started. -/
def Pump.reduce (now : Nat) (p : Pump) : PumpResult :=
  let i := min p.inUse.safe p.current
  ⟨{ p with
      state := .reduced, current := i, startAt := none, rampAt := none, durationAt := none,
      probeAt := some (now + seconds p.inUse.probeInterval) }, [⟨.setpoint, i, .safety⟩]⟩

/-- R137, R139: an appearance of a trigger source. -/
def Pump.appearance (now : Nat) (p : Pump) : PumpResult :=
  match p.state with
  | .ramp | .run | .probe => p.reduce now
  | .off | .startWait | .reduced | .fault => ⟨p, []⟩

/-- R134: into START_WAIT with a mode, from OFF or FAULT. -/
def Pump.startWait (now level : Nat) (m : Mode) (p : Pump) : PumpResult :=
  ⟨{ p with
      state := .startWait, mode := m, current := 0, target := effectiveTarget p.inUse m level,
      startAt := some (now + seconds 5), rampAt := none, probeAt := none, durationAt := none,
      statusAt := some (p.statusAt.getD (now + seconds 1)) },
    [⟨.setpoint, 0, .pump⟩, ⟨.clamp, p.inUse.ceiling, .pump⟩, ⟨.enable, 1, .pump⟩]⟩

/-- R140: into OFF from any other state. -/
def Pump.stop (level : Nat) (p : Pump) : PumpResult :=
  ⟨{ p with
      state := .off, mode := .off, current := 0, target := effectiveTarget p.inUse .off level, startAt := none,
      rampAt := none, probeAt := none, durationAt := none, statusAt := none },
    [⟨.setpoint, 0, .pump⟩, ⟨.enable, 0, .pump⟩]⟩

/-- R140: a mode request. -/
def Pump.modeRequest (now level : Nat) (m : Mode) (p : Pump) : PumpResult :=
  match m, p.state with
  | .off, .off => ⟨p, []⟩
  | .off, _ => p.stop level
  | m, .off => p.startWait now level m
  | m, .fault => p.startWait now level m
  | m, _ => Pump.retarget now level { p with mode := m }

/-- R141: a driver reply with the fault bit set. -/
def Pump.driverFault (p : Pump) : PumpResult :=
  match p.state with
  | .off | .fault => ⟨p, []⟩
  | .startWait | .ramp | .run | .reduced | .probe =>
    ⟨{ p with state := .fault, current := 0, startAt := none, rampAt := none, probeAt := none, durationAt := none },
      [⟨.setpoint, 0, .safety⟩, ⟨.enable, 0, .pump⟩]⟩

/-- R132, steps 1 to 4: new settings in use. -/
def Pump.settingsChange (now level : Nat) (t : PumpSettings) (p : Pump) : PumpResult :=
  let tooHigh := t.ceiling < p.current
  let i1 := if tooHigh then t.ceiling else p.current
  let w1 : List PumpWord := if tooHigh then [⟨.setpoint, i1, .safety⟩] else []
  let unsafeLevel := p.state = .reduced ∧ t.safe < i1
  let i2 := if unsafeLevel then t.safe else i1
  let w2 : List PumpWord := if unsafeLevel then [⟨.setpoint, i2, .safety⟩] else []
  let w3 : List PumpWord := if t.ceiling = p.inUse.ceiling then [] else [⟨.clamp, t.ceiling, .pump⟩]
  let r := Pump.retarget now level { p with inUse := t, current := i2 }
  ⟨r.pump, w1 ++ w2 ++ w3 ++ r.words⟩

/-- R134: the start timer's expiry, with or without a safety trigger present. -/
def Pump.startExpiry (now : Nat) (trigger : Bool) (p : Pump) : PumpResult :=
  if trigger then p.reduce now else ⟨p.enterRamp now, []⟩

/-- R135: one expiry of the ramp timer. -/
def Pump.rampStep (now : Nat) (p : Pump) : PumpResult :=
  let gap := if p.current ≤ p.target then p.target - p.current else p.current - p.target
  if gap ≤ p.inUse.rampStep then
    ⟨{ p with state := .run, current := p.target, rampAt := none }, [⟨.setpoint, p.target, .pump⟩]⟩
  else
    let i := if p.current < p.target then p.current + p.inUse.rampStep else p.current - p.inUse.rampStep
    ⟨{ p with current := i, rampAt := some (now + millis 10) }, [⟨.setpoint, i, .pump⟩]⟩

/-- R138: the probe timer's expiry. -/
def Pump.probeExpiry (now : Nat) (p : Pump) : PumpResult :=
  ⟨{ p with state := .probe, current := p.target, probeAt := none, durationAt := some (now + seconds p.inUse.probeDuration) },
    [⟨.setpoint, p.target, .pump⟩]⟩

/-- R138: the end of a probe. -/
def Pump.probeEnd (now : Nat) (trigger : Bool) (p : Pump) : PumpResult :=
  if trigger then p.reduce now else ⟨{ p with state := .run, durationAt := none }, []⟩

/-- R141: one expiry of the status-read timer, due at `t`. -/
def Pump.statusRead (t : Nat) (p : Pump) : PumpResult :=
  ⟨{ p with statusAt := some (t + seconds 1) }, [⟨.statusRead, 0, .pump⟩]⟩

/-- R142: the words placed for a channel at a RESTART. -/
def Pump.restartWords (p : Pump) : List PumpWord :=
  [⟨.setpoint, p.current, if p.state = .reduced then .safety else .pump⟩, ⟨.clamp, p.inUse.ceiling, .pump⟩,
    ⟨.enable, if p.state = .off ∨ p.state = .fault then 0 else 1, .pump⟩]

end Sys2Proof.Machine
end

