-- ==== Sys2Proof/Machine/Ops.lean ====
section
/-! DEFINITION. The named operations several blocks share: the clock, point writes and span loss, insert queues and
replies, Control Port placements, output resolution, the effective shed level, the pump channels and their triggers. -/

namespace Sys2Proof.Machine

/-! The clock. -/

/-- Time has come to `t`: the clock never goes back. -/
def State.reach (t : Nat) (s : State) : State := { s with now := max s.now t }

/-! Points (chapter 5). -/

/-- The record of a point. -/
def State.point (s : State) (i : Nat) : Point := s.points.recs.getD i unwritten

/-- R87: the staleness deadline a write of point `i` at this moment sets. -/
def State.deadline (s : State) (i : Nat) : Nat :=
  if i < 16 then s.now + millis (10 * s.tables.scan.period)
  else s.now + seconds (3 * (s.tables.polls.getD (i - 16) builtinPoll).period + 1)

/-- R85, R87: a write of a point: value and validity replaced, age 0, the deadline set or, at a write INVALID, removed. -/
def PointTable.write (dl i : Nat) (v : Int) (x : Validity) (p : PointTable) : PointTable :=
  { p with
    recs := p.recs.set i ⟨v, x, 0⟩,
    deadlines := p.deadlines.set i (if x = .invalid then none else some dl) }

/-- A write of a point by its writer. -/
def writePoint (i : Nat) (v : Int) (x : Validity) (s : State) : State :=
  { s with points := s.points.write (s.deadline i) i v x }

/-- A write INVALID that leaves the value as it stands (R85). -/
def invalidate (i : Nat) (s : State) : State := writePoint i (s.point i).value .invalid s

/-- The input power point of a side's span: 0 or 2. -/
def inputPoint : Side → Nat
  | .a => 0
  | .b => 2

/-- The span loss point of a side: 28 or 29. -/
def lossPoint : Side → Nat
  | .a => 28
  | .b => 29

/-- R90: the span loss of a side from its launch record and input power: none for INVALID. -/
def spanLossOf (l : Option Launch) (p : Point) : Option Int :=
  match l with
  | some l => if l.expired = true ∨ p.validity = .invalid then none else some (clampPoint (l.power - p.value))
  | none => none

/-- R90, R91: the span loss of a side recomputed and written. -/
def spanLoss (x : Side) (s : State) : State :=
  match spanLossOf (s.points.launch.get x) (s.point (inputPoint x)) with
  | some v => writePoint (lossPoint x) v .valid s
  | none => invalidate (lossPoint x) s

/-- R91: an update of point `i` recomputes the span loss it is an input of. -/
def afterUpdate (i : Nat) (s : State) : State :=
  if i = 0 then spanLoss .a s else if i = 2 then spanLoss .b s else s

/-! Insert queues (R19 to R21). -/

/-- The most messages an insert queue holds. -/
def queueCap : Nat := 24

/-- R19, R20: a message offered to a port's insert queue: at the tail, or dropped and counted. -/
def LinePort.offer (alert : Bool) (q : Queued) (p : LinePort) : LinePort :=
  if p.queue.length < queueCap then { p with queue := p.queue ++ [q] }
  else if alert then { p with alertsLost := countUp 255 p.alertsLost }
  else { p with replyLost := countUp 255 p.replyLost }

/-- A message offered to the insert queue of a side. -/
def offer (x : Side) (alert : Bool) (q : Queued) (ports : Pair LinePort) : Pair LinePort :=
  ports.set x ((ports.get x).offer alert q)

/-- R21: the port a reply to this sender is offered to. -/
def replyPort (m : Sender) : Side := (headOf m.source).getD m.port

/-- R5: the REPLY to a sender, with its command code, status and result. -/
def replyMessage (s : State) (m : Sender) (code : Byte) (st : Status) (result : List Byte) : Message :=
  originate typeReply m.source s.ownAddr s.tables.line.hopBudget m.tag ([code, byteOf st.code] ++ result)

/-- A reply offered to its insert queue (R21, R27). -/
def sendReply (m : Sender) (code : Byte) (st : Status) (result : List Byte) (s : State) : State :=
  { s with ports := offer (replyPort m) false ⟨replyMessage s m code st result, false⟩ s.ports }

/-! Words for the Control Port. -/

/-- Words placed in order. -/
def placeWords (l : List PortWord) (s : State) : State := { s with port := s.port.placeAll s.now l }

/-! Outputs (R156 to R158). -/

/-- R156: whether an output is in the shed-off set of a level: the union of the entries with index below it. -/
def shedOff (sheds : List (BitVec 7)) (level o : Nat) : Bool := (sheds.take level).any (fun v => v.getLsbD o)

/-- R157, steps 2 to 5: the level of an output without its pulse. -/
def State.baseLevel (s : State) (o : Nat) : Bool :=
  match s.agent.outForce.getD o none with
  | some v => v
  | none =>
    if shedOff s.outputs.sheds s.supply.level o then false
    else if s.engine.outRequest.getLsbD o then true
    else s.outputs.idles.getD o false

/-- R157: the level of an output: its pulse's, or the level without the pulse. -/
def State.outLevel (s : State) (o : Nat) : Bool :=
  match s.outputs.pulses.getD o none with
  | some p => p.level
  | none => s.baseLevel o

/-- R157: every output of OUT0 to OUT6 resolved afresh. -/
def resolveOutputs (s : State) : State :=
  { s with outputs := { s.outputs with levels := (List.range 7).map s.outLevel } }

/-- R158: a pulse started on an output, its level the inverse of the level without it, its end at a duration later. -/
def startPulse (o duration : Nat) (s : State) : State :=
  resolveOutputs { s with outputs := { s.outputs with pulses := s.outputs.pulses.set o (some ⟨!s.baseLevel o, s.now + duration⟩) } }

/-- R115, R158: a condition's pulse request of 1000 ms, dropped while the output has a pulse in progress. -/
def pulseRequest (o : Nat) (s : State) : State :=
  match s.outputs.pulses.getD o none with
  | some _ => s
  | none => startPulse o (millis 1000) s

/-! Pump channels (chapter 8). -/

/-- The state point of a channel: 41 or 42. -/
def pumpPoint : Channel → Nat
  | .ab => 41
  | .ba => 42

/-- A channel's event taken: the channel replaced, its words placed, its state point written when the state changed (R133). -/
def applyPump (c : Channel) (r : PumpResult) (s : State) : State :=
  { s with
    pumps := s.pumps.set c r.pump,
    port := s.port.placeAll s.now (r.words.map (PumpWord.on c)),
    points :=
      if r.pump.state = (s.pumps.get c).state then s.points
      else s.points.write (s.deadline (pumpPoint c)) (pumpPoint c) r.pump.state.code .valid }

/-- R133: the effective targets of both channels computed afresh, AB before BA (the model's choice, log entry 38). -/
def retargetPumps (s : State) : State :=
  let s1 := applyPump .ab ((s.pumps.get .ab).retarget s.now s.supply.level) s
  applyPump .ba ((s1.pumps.get .ba).retarget s1.now s1.supply.level) s1

/-- R140: a mode request taken by a channel. -/
def modeRequest (c : Channel) (m : Mode) (s : State) : State :=
  applyPump c ((s.pumps.get c).modeRequest s.now s.supply.level m) s

/-- The three trigger sources of a channel (R136). -/
structure Sources where
  condition : Bool
  returnMark : Bool
  line : Bool
  deriving DecidableEq, Repr

/-- The side a channel's amplifier launches toward: B for AB, A for BA (R136). -/
def farSide : Channel → Side
  | .ab => .b
  | .ba => .a

/-- R136: which sources of a channel are present. -/
def sources (s : State) (c : Channel) : Sources :=
  ⟨s.engine.reduce.get c, decide ((s.ports.get (farSide c)).rfmRun = 3), decide ((s.ports.get (farSide c)).lineState = .lost)⟩

/-- R136: the safety trigger of a channel. -/
def trigger (s : State) (c : Channel) : Bool :=
  (sources s c).condition || (sources s c).returnMark || (sources s c).line

/-- R136: an appearance: some source went from absent to present. -/
def appeared (before after : Sources) : Bool :=
  (!before.condition && after.condition) || (!before.returnMark && after.returnMark) || (!before.line && after.line)

/-- R137, R139: a channel takes the appearances between an earlier state and this one; a disappearance changes nothing. -/
def reactTo (before : State) (c : Channel) (s : State) : State :=
  if appeared (sources before c) (sources s c) then applyPump c ((s.pumps.get c).appearance s.now) s else s

/-- Both channels take them, AB before BA (the model's choice, log entry 38). -/
def reactBoth (before s : State) : State := reactTo before .ba (reactTo before .ab s)

/-! The effective shed level (R155). -/

/-- R155: the effective shed level from its forcing or its four sources. -/
def State.shedLevel (s : State) : Nat :=
  match s.agent.shedForce with
  | some n => n
  | none => max (max s.supply.voltageLevel s.supply.zoneLevel) (max s.engine.shedRequest s.supply.brownHold)

/-- R155: the level recomputed: a change is written to point 39 and handed to Pump Control, then to the Output Resolver. -/
def recomputeShed (s : State) : State :=
  if s.shedLevel = s.supply.level then s
  else
    resolveOutputs (retargetPumps (writePoint 39 s.shedLevel .valid { s with supply := { s.supply with level := s.shedLevel } }))

/-- R133: both channels take the target of an effective shed level, without acting on it yet. -/
def aimPumps (s : State) : State :=
  { s with pumps := ⟨s.pumps.ab.aim s.supply.level, s.pumps.ba.aim s.supply.level⟩ }

/-- R155, R159: the level recomputed at a RESTART: a change is written to point 39 and handed to Pump Control, whose channels
take their targets at this event (R133); a channel in RUN or PROBE, whose state and current the reset keeps (R97, R142), acts
on it afterwards (log entry 40). Then the outputs are resolved afresh. -/
def recomputeAtRestart (s : State) : State :=
  resolveOutputs
    (if s.shedLevel = s.supply.level then s
     else
       aimPumps (writePoint 39 s.shedLevel .valid { s with supply := { s.supply with level := s.shedLevel, handed := true } }))

/-- R133: the channels act on the effective shed level handed at a RESTART, AB before BA (log entries 38 and 40). -/
def takeHandedLevel (s : State) : State :=
  let s1 := { s with supply := { s.supply with handed := false } }
  let s2 := applyPump .ab ((s1.pumps.get .ab).catchUp s1.now) s1
  applyPump .ba ((s2.pumps.get .ba).catchUp s2.now) s2

/-! The Condition Engine's outputs (R112 to R116). -/

/-- The entries with their run states, in index order. -/
def entriesOfEngine (t : Tables) (runs : List CondRun) : List (Condition × CondRun) := t.conds.zip runs

/-- The actions of the standing entries. -/
def standingActions (t : Tables) (runs : List CondRun) : List CondAction :=
  ((entriesOfEngine t runs).filter (fun e => e.2.stands)).map (fun e => e.1.action)

/-- R112: the highest SHED level among the standing entries, 0 when there is none. -/
def shedRequestOf : List CondAction → Nat
  | [] => 0
  | .shed n :: l => max n (shedRequestOf l)
  | _ :: l => shedRequestOf l

/-- R113: whether a channel is in the reduce-trigger set. -/
def reduceOf (c : Channel) (l : List CondAction) : Bool := l.any (fun act => decide (act = .reduce c))

/-- R114: the output-on request set. -/
def outRequestOf : List CondAction → BitVec 7
  | [] => 0
  | .output n :: l => (1#7 <<< n) ||| outRequestOf l
  | _ :: l => outRequestOf l

/-- R116: the engine's outputs recomputed and each change handed, in the order shed request, reduce-trigger set,
output-on request set. -/
def handOutputs (s : State) : State :=
  let acts := standingActions s.tables s.engine.runs
  let s1 := recomputeShed { s with engine := { s.engine with shedRequest := shedRequestOf acts } }
  let s2 := reactBoth s1 { s1 with engine := { s1.engine with reduce := ⟨reduceOf .ab acts, reduceOf .ba acts⟩ } }
  resolveOutputs { s2 with engine := { s2.engine with outRequest := outRequestOf acts } }

end Sys2Proof.Machine
end

