-- ==== Sys2Proof/Machine/AlarmOps.lean ====
section
/-! DEFINITION. The Alarm Reporter (chapter 7): the Standing Alarm List, the reports it takes, the alerts it builds and
offers. -/

namespace Sys2Proof.Machine

/-- R128, R5: the ALERT of a record built for a port. -/
def alertMessage (s : State) (x : Side) (record : List Byte) : Message :=
  originate typeAlert (headAddress x) s.ownAddr s.tables.line.hopBudget 0 record

/-- R128: an alert record offered once to each side the report sides name. -/
def deliver (record : List Byte) (s : State) : State :=
  let toA := fun (p : Pair LinePort) => offer .a true ⟨alertMessage s .a record, false⟩ p
  let toB := fun (p : Pair LinePort) => offer .b true ⟨alertMessage s .b record, false⟩ p
  { s with
    ports :=
      match s.tables.mgmt.sides with
      | .a => toA s.ports
      | .b => toB s.ports
      | .both => toB (toA s.ports) }

/-- A raise report (R109). -/
structure Raise where
  index : Nat
  entry : Condition
  value : Int
  suppressed : Bool
  deriving DecidableEq, Repr

/-- R121: the entry a raise report builds, at the agent's hut time. -/
def standingOf (r : Raise) (s : State) : Standing :=
  { index := r.index, severity := r.entry.severity, point := r.entry.point, latching := r.entry.latching,
    report := r.entry.report, raiseTime := s.agent.hutTime, timeSet := s.agent.timeSet, value := r.value, status := .raised,
    acknowledged := false, suppressed := r.suppressed, withheld := r.entry.report && r.suppressed }

/-- The list without a condition's entry; the others keep their order. -/
def without (i : Nat) (l : List Standing) : List Standing := l.filter (fun e => e.index != i)

/-- The entry of a condition, if the list holds one. -/
def entryOf (i : Nat) (l : List Standing) : Option Standing := l.find? (fun e => e.index == i)

/-- R121: a raise report taken: a CLEARED entry of the condition removed, the new one at the tail, an alert RAISED unless
withheld or unreported. -/
def takeRaise (r : Raise) (s : State) : State :=
  let e := standingOf r s
  let s1 := { s with alarms := without r.index s.alarms ++ [e] }
  if e.report && !e.withheld then
    deliver (alertRecord e .raised e.value e.raiseTime e.timeSet false s1.alarms.length) s1
  else s1

/-- R122: the list after the clear of entry `e`: removed, or CLEARED in its place when latching and not acknowledged. -/
def clearEntry (e : Standing) (l : List Standing) : List Standing :=
  if e.latching && !e.acknowledged then
    l.map (fun x => if x.index = e.index then { x with status := .cleared } else x)
  else without e.index l

/-- R122: a clear report taken, with the point value of the pass. -/
def takeClear (i : Nat) (value : Int) (s : State) : State :=
  match entryOf i s.alarms with
  | none => s
  | some e =>
    let s1 := { s with alarms := clearEntry e s.alarms }
    if e.report && !e.withheld then
      deliver (alertRecord e .cleared value s.agent.hutTime s.agent.timeSet e.acknowledged s1.alarms.length) s1
    else s1

/-- R123: a reconfigure report taken. -/
def takeReconfigure (i : Nat) (s : State) : State :=
  match entryOf i s.alarms with
  | none => s
  | some e =>
    let s1 := { s with alarms := without i s.alarms }
    if e.report && !e.withheld then
      deliver (alertRecord e .reconfigured e.value s.agent.hutTime s.agent.timeSet e.acknowledged s1.alarms.length) s1
    else s1

/-- R124: the suppressed state of a standing condition taken: the entry follows it, and a withheld entry found not
suppressed gets its alert RAISED_LATE. -/
def takeSuppression (i : Nat) (sup : Bool) (s : State) : State :=
  match entryOf i s.alarms with
  | none => s
  | some e =>
    if e.status = .raised then
      let late := !sup && e.withheld
      let s1 := { s with alarms := s.alarms.map (fun x =>
                  if x.index = i then { x with suppressed := sup, withheld := x.withheld && sup } else x) }
      if late then deliver (alertRecord e .raisedLate e.value e.raiseTime e.timeSet false s1.alarms.length) s1 else s1
    else s

/-- R125: one entry acknowledged: a RAISED entry is marked, a CLEARED entry goes. -/
def ackEntry (e : Standing) : Option Standing :=
  match e.status with
  | .raised => some { e with acknowledged := true }
  | .cleared => none

/-- R125: an acknowledgement of one condition (`some i`) or of ALL (`none`). -/
def acknowledge (which : Option Nat) (l : List Standing) : List Standing :=
  l.filterMap (fun e => if which = none ∨ which = some e.index then ackEntry e else some e)

end Sys2Proof.Machine
end

