-- ==== Sys2Proof/Machine/RelayOps.lean ====
section
/-! DEFINITION. The line receivers' shared operations and the Relay Engine (chapter 1): line state, header record, message
actions, SURVEY, relay buffers, the filling of a transmitted frame. -/

namespace Sys2Proof.Machine

/-- The port of a side. -/
def State.at (s : State) (x : Side) : LinePort := s.ports.get x

/-- The port of a side replaced. -/
def State.setPort (x : Side) (p : LinePort) (s : State) : State := { s with ports := s.ports.set x p }

/-! Line state (R9). -/

/-- R9: the line state of a port against a degrade threshold. -/
def LinePort.lineStateNow (threshold : Nat) (p : LinePort) : LineState :=
  if p.sync = .sync then (if threshold ≤ p.lastWindow then .degraded else .ok) else .lost

/-- The line-state point of a side: 32 or 33. -/
def linePoint : Side → Nat
  | .a => 32
  | .b => 33

/-- R9: the line state re-evaluated; a change is held and written to its point. -/
def reevaluate (x : Side) (s : State) : State :=
  let l := (s.at x).lineStateNow s.tables.line.threshold
  if l = (s.at x).lineState then s
  else writePoint (linePoint x) l.code .valid (s.setPort x { s.at x with lineState := l })

/-- R7, R8: the most errored frames one window counts (R9). -/
def windowCap : Nat := 1000

/-- R7: what a receiver in SYNC does at a boundary without sync: the frame is errored, the third miss in a row sends it to
HUNT, searching on behind the three bytes that missed. -/
def LinePort.miss (p : LinePort) : LinePort :=
  let q := { p with window := countUp windowCap p.window }
  if 3 ≤ p.missed + 1 then { q with sync := .hunt, missed := 0, pos := p.pos + 3 }
  else { q with missed := p.missed + 1, pos := p.pos + frameLength }

/-- R7, R9: a missed sync taken by the port; when the receiver leaves SYNC the line state is re-evaluated, and Pump Control
takes what that changes. -/
def takeMiss (x : Side) (s : State) : State :=
  let s1 := s.setPort x (s.at x).miss
  if (s1.at x).sync = .sync then s1 else reactBoth s (reevaluate x s1)

/-! The message actions (R12 to R18). -/

/-- What the handling of one frame's messages reads of the rest of the part: own address, Message Action Table, initial hop
budget, and the survey entry this hut appends. -/
structure RelayView where
  own : Byte
  actions : List Action
  hopBudget : Nat
  surveyEntry : List Byte
  deriving DecidableEq, Repr

/-- What the handling of a frame's messages changes: the ports and the messages handed to the agent. -/
structure RelayIO where
  ports : Pair LinePort
  inbox : List Handed
  deriving DecidableEq, Repr

/-- R14: the sizes of the messages of a relay buffer. -/
def bufferTotal (l : List Message) : Nat := (l.map Message.size).sum

/-- The most bytes a relay buffer holds (R14). -/
def relayCap : Nat := 740

/-- R13, R14: a message to be forwarded that was received on this port: hop-expired, slip, or at the tail of the relay
buffer with its hop budget one less. -/
def LinePort.forward (m : Message) (p : LinePort) : LinePort :=
  if m.hop = 0 then { p with hopExpired := countUp 65535 p.hopExpired }
  else if bufferTotal p.relay + m.size ≤ relayCap then { p with relay := p.relay ++ [{ m with hop := m.hop - 1 }] }
  else { p with slip := countUp 65535 p.slip }

/-- A SURVEY payload is consistent when its entry count is at most 15 and its length 3 plus 4 times the count (1.3.3). -/
def surveyConsistent (l : List Byte) : Bool := 3 ≤ l.length && byteAt l 1 ≤ 15 && l.length == 3 + 4 * byteAt l 1

/-- R17: the payload of a SURVEY after this hut's append test: an entry appended, the truncated flag set, or unchanged. -/
def surveyAppend (v : RelayView) (l : List Byte) : List Byte :=
  if surveyConsistent l && v.own != 0 && byteAt l 0 < v.own.toNat then
    if byteAt l 1 ≤ 14 then
      [l.getD 0 0, byteOf (byteAt l 1 + 1), l.getD 2 0] ++ l.drop 3 ++ v.surveyEntry
    else [l.getD 0 0, l.getD 1 0, l.getD 2 0 ||| 1] ++ l.drop 3
  else l

/-- R12: a COMMAND or BEAT handed to the agent with its class and arrival port. -/
def handOff (k : HandedKind) (x : Side) (c : DestClass) (m : Message) (r : RelayIO) : RelayIO :=
  { r with inbox := r.inbox ++ [⟨k, ⟨m.src, m.tag, c, x⟩, m.payload⟩] }

/-- A message received on a side forwarded (R13, R14). -/
def forward (x : Side) (m : Message) (r : RelayIO) : RelayIO :=
  { r with ports := r.ports.set x ((r.ports.get x).forward m) }

/-- R18: a consumed SURVEY returned through the insert queue of the port facing the head that sent it, or dropped. -/
def surveyReturn (v : RelayView) (m : Message) (r : RelayIO) : RelayIO :=
  match headOf m.src with
  | some h =>
    { r with ports := offer h false ⟨originate typeSurvey m.src v.own v.hopBudget m.tag (surveyAppend v m.payload), false⟩ r.ports }
  | none => r

/-- R12: what the action asks of this hut for one message received on side `x`. -/
def takeMessage (v : RelayView) (x : Side) (m : Message) (r : RelayIO) : RelayIO :=
  let c := destClass v.own m.dst
  let col := match c with | .mine => 0 | .all => 1 | .head => 2 | .other => 3
  match v.actions.getD (4 * m.typeCode + col) .discard with
  | .discard => r
  | .forward => forward x m r
  | .consume =>
    if m.typeCode = typeCommand then (if v.own = 0 then r else handOff .command x c m r)
    else if m.typeCode = typeBeat then handOff .beat x c m r
    else if m.typeCode = typeSurvey then surveyReturn v m r
    else r
  | .copy =>
    if m.typeCode = typeCommand then forward x m (if v.own = 0 then r else handOff .command x c m r)
    else if m.typeCode = typeBeat then forward x m (handOff .beat x c m r)
    else if m.typeCode = typeSurvey then
      forward x (if m.hop = 0 then m else { m with payload := surveyAppend v m.payload }) r
    else forward x m r

/-- The messages of a frame taken in order. -/
def takeMessages (v : RelayView) (x : Side) : List Message → RelayIO → RelayIO
  | [], r => r
  | m :: l, r => takeMessages v x l (takeMessage v x m r)

/-- R17: this hut's survey entry: own address, line states, effective shed level, standing count. -/
def surveyEntryOf (s : State) : List Byte :=
  [s.ownAddr, byteOf (s.ports.a.lineState.code + 4 * s.ports.b.lineState.code), byteOf s.supply.level, byteOf s.alarms.length]

/-- The Relay Engine's view at a frame's arrival. -/
def relayView (s : State) : RelayView := ⟨s.ownAddr, s.tables.actions, s.tables.line.hopBudget, surveyEntryOf s⟩

/-- R3: a malformed message, or a used length past 370, counted on the receiving port. -/
def LinePort.countMalformed (p : LinePort) : LinePort := { p with malformed := countUp 65535 p.malformed }

/-- The UFM point of a side: 34 or 35. -/
def ufmPoint : Side → Nat
  | .a => 34
  | .b => 35

/-- The RFM point of a side: 36 or 37. -/
def rfmPoint : Side → Nat
  | .a => 36
  | .b => 37

/-- R7, R8, R11: the port at the arrival of a good frame: missed-sync count 0, the next boundary, the header record, the
RFM run count. -/
def LinePort.record (h : Header) (p : LinePort) : LinePort :=
  { p with
    missed := 0, pos := p.pos + frameLength, ufm := h.ufm, ufmOrigin := h.ufmOrigin, rfm := h.rfm,
    rfmRun := if h.rfm then countUp 3 p.rfmRun else 0 }

/-- R89: a launch hand-off: the record replaced, the side's span loss recomputed. -/
def takeLaunch (x : Side) (power : Int) (s : State) : State :=
  spanLoss x { s with points := { s.points with launch := s.points.launch.set x (some ⟨power, s.now, false⟩) } }

/-- R11: what the header of a good frame says about the line, recorded; a source of a pump channel that appears or
disappears is taken at this event (R136). -/
def takeHeader (x : Side) (h : Header) (s : State) : State :=
  let s1 := s.setPort x ((s.at x).record h)
  let s2 := writePoint (rfmPoint x) (bit h.rfm) .valid (writePoint (ufmPoint x) (bit h.ufm) .valid s1)
  reactBoth s (if h.launchValid then takeLaunch x h.launch s2 else s2)

/-- R3, R12: the messages of a good frame, as the view at its arrival has them handled. -/
def takeArea (x : Side) (f : List Byte) (s : State) : State :=
  if areaLength < (frameHeader f).used then s.setPort x (s.at x).countMalformed
  else
    let ms := parseMessages (frameUsed f).length (frameUsed f)
    let r := takeMessages (relayView s) x ms.1 ⟨s.ports, s.inbox⟩
    { s with
      ports := if ms.2 then r.ports.set x (r.ports.get x).countMalformed else r.ports,
      inbox := r.inbox }

/-- R11, R12: the arrival of a good frame, one event. -/
def takeFrame (x : Side) (f : List Byte) (s : State) : State := takeArea x f (takeHeader x (frameHeader f) s)

/-! The transmitted frame (R22 to R25). -/

/-- R22: from the head of a source, the messages that fit in the room, and what stays; the first that does not fit stops
its source. -/
def fillFrom {α : Type} (size : α → Nat) : Nat → List α → List α × List α
  | _, [] => ([], [])
  | room, x :: l =>
    if size x ≤ room then
      let r := fillFrom size (room - size x) l
      (x :: r.1, r.2)
    else ([], x :: l)

/-- What a transmit event of a side takes from its two sources and leaves in them (R22). -/
structure Fill where
  relayed : List Message
  relayLeft : List Message
  inserted : List Queued
  queueLeft : List Queued
  deriving DecidableEq, Repr

/-- R22: the relay buffer of the opposite port's traffic first, then this port's insert queue, within 370 bytes. -/
def fillFrame (s : State) (x : Side) : Fill :=
  let a := fillFrom Message.size areaLength (s.at (otherSide x)).relay
  let b := fillFrom (fun q : Queued => q.msg.size) (areaLength - bufferTotal a.1) (s.at x).queue
  ⟨a.1, a.2, b.1, b.2⟩

/-- The message area of the frame, messages packed from its start. -/
def Fill.area (f : Fill) : List Byte := (f.relayed ++ f.inserted.map Queued.msg).flatMap Message.bytes

/-- R24: the point whose value a side's launch field carries: the amplifier that launches toward it. -/
def launchPoint : Side → Nat
  | .a => 3
  | .b => 1

/-- R23, R24, R25: the header of the frame a side sends. -/
def formHeader (s : State) (x : Side) (used : Nat) : Header :=
  let far := s.at (otherSide x)
  let out := s.point (launchPoint x)
  let lost := far.sync != .sync
  { number := (s.at x).frameNumber.toNat, sender := s.ownAddr, ufm := lost || far.ufm, rfm := (s.at x).sync != .sync,
    launchValid := out.validity != .invalid,
    ufmOrigin := if lost then s.ownAddr else if far.ufm then far.ufmOrigin else 0,
    launch := if out.validity = .invalid then 0 else out.value, used := used }

/-- R53: whether a pending restart's reply is among the messages a frame takes from an insert queue; then it is due. -/
def restartAfter (f : Fill) : Option RestartPending → Option RestartPending
  | some r => if f.inserted.any (fun q => q.restartReply) then some { r with due := true } else some r
  | none => none

/-- R22 to R25: a transmit event of a side. -/
def transmit (x : Side) (s : State) : State :=
  let f := fillFrame s x
  let frame := buildFrame (formHeader s x f.area.length) f.area
  let far := s.at (otherSide x)
  let p := s.at x
  { s with
    ports := (s.ports.set (otherSide x) { far with relay := f.relayLeft }).set x
      { p with
        queue := f.queueLeft, frameNumber := p.frameNumber + 1, sent := frame, transmitAt := p.transmitAt + millis 1 },
    agent := { s.agent with restart := restartAfter f s.agent.restart } }

end Sys2Proof.Machine
end

