-- ==== Sys2Proof/Machine/AgentOps.lean ====
section
/-! DEFINITION. The Management Agent's shared operations (chapter 2): the contact monitor, the decoding of a COMMAND up to
the tests particular to it, replies, and the checks every WRITE ENTRY passes. -/

namespace Sys2Proof.Machine

/-! The contact monitor (R34 to R36). -/

/-- R35: the contact state of the two timers: 0 both heads, 1 Head A only, 2 Head B only, 3 autonomous. -/
def contactCode (c : Pair (Option Nat)) : Nat :=
  match c.a, c.b with
  | some _, some _ => 0
  | some _, none => 1
  | none, some _ => 2
  | none, none => 3

/-- The contact timers replaced; a change of contact state is written to point 43 (R35). -/
def setContacts (c : Pair (Option Nat)) (s : State) : State :=
  { s with
    agent := { s.agent with contacts := c },
    points :=
      if contactCode c = contactCode s.agent.contacts then s.points
      else s.points.write (s.deadline 43) 43 (contactCode c) .valid }

/-- The contact window in force (R34, R37). -/
def State.window (s : State) : Nat := seconds (60 * s.tables.mgmt.window)

/-- R34: the contact timer of a head restarted. -/
def contactRestart (h : Side) (s : State) : State := setContacts (s.agent.contacts.set h (some (s.now + s.window))) s

/-- A handed message leaves the inbox when it is the one at its front (R27: messages are taken in the order handed). -/
def dequeue (h : Handed) (s : State) : State :=
  match s.inbox with
  | x :: l => if x = h then { s with inbox := l } else s
  | [] => s

/-- R27: a management message taken: out of the inbox, and the contact restart of its source when that is a head station. -/
def takeManaged (h : Handed) (s : State) : State :=
  match headOf h.sender.source with
  | some x => contactRestart x (dequeue h s)
  | none => dequeue h s

/-- R29: the sender holds the control side. -/
def holdsControl (m : Sender) (s : State) : Bool :=
  match headOf m.source with
  | some h => s.agent.control == some h
  | none => false

/-! Commands (R28 to R31). -/

/-- What a command of class MINE comes to: the state after it, and its reply's status and result; none for the command
that is answered later. -/
structure Answer where
  state : State
  reply : Option (Status × List Byte)
  deriving DecidableEq, Repr

/-- An answer that changes nothing. -/
def Answer.refuse (st : Status) (s : State) : Answer := ⟨s, some (st, [])⟩

/-- An answer DONE without a result. -/
def Answer.done (s : State) : Answer := ⟨s, some (.done, [])⟩

/-- R30, tests 3 to 5: a payload shorter than the fixed part, a pending restart, the control side of a controlled command. -/
def earlyRefusal (fixed : Nat) (controlled : Bool) (m : Sender) (payload : List Byte) (s : State) : Option Status :=
  if payload.length < fixed then some .badValue
  else if s.agent.restart.isSome then some .busy
  else if controlled && !holdsControl m s then some .notController
  else none

/-- The reply of an answer offered (R27). -/
def giveAnswer (m : Sender) (code : Byte) (a : Answer) : State :=
  match a.reply with
  | some (st, r) => sendReply m code st r a.state
  | none => a.state

/-- R27, R30: a COMMAND with an assigned code taken. In an unaddressed hut no COMMAND is taken (R12, log entry 9); one of
a class other than MINE has no effect but the contact restart here. -/
def command (code : Byte) (fixed : Nat) (controlled : Bool) (m : Sender) (payload : List Byte) (body : State → Answer)
    (s : State) : State :=
  let h : Handed := ⟨.command, m, payload⟩
  if s.ownAddr = 0 then dequeue h s
  else
    let s1 := takeManaged h s
    match m.cls with
    | .mine =>
      match earlyRefusal fixed controlled m payload s1 with
      | some st => sendReply m code st [] s1
      | none => giveAnswer m code (body s1)
    | .all | .head | .other => s1

/-- R31: whether a broadcast is executed: no restart pending, no autoload, the sender in control, its payload whole. -/
def broadcastRuns (fixed : Nat) (m : Sender) (payload : List Byte) (s : State) : Bool :=
  !s.agent.restart.isSome && !s.loader.autoload.isSome && holdsControl m s && decide (fixed ≤ payload.length)

/-- R30, R31: a controlled command that is honoured when broadcast: of class MINE as any command, its arguments failing a
test answered BAD_VALUE; of class ALL executed without a reply when its broadcast form passes. -/
def commandOrBroadcast (code : Byte) (fixed : Nat) (m : Sender) (payload : List Byte) (argsGood broadcastGood : Bool)
    (effect : State → State) (s : State) : State :=
  match m.cls with
  | .all =>
    let h : Handed := ⟨.command, m, payload⟩
    if s.ownAddr = 0 then dequeue h s
    else
      let s1 := takeManaged h s
      if broadcastRuns fixed m payload s1 && broadcastGood then effect s1 else s1
  | .mine | .head | .other =>
    command code fixed true m payload (fun s1 => if argsGood then Answer.done (effect s1) else Answer.refuse .badValue s1) s

/-! WRITE ENTRY (R43, R44). -/

/-- R44: the safety lock test of a write of entry `i` of table `id` with the entry bytes given. -/
def lockRefuses (id i : Nat) (entry : List Byte) (s : State) : Bool :=
  let reduces := fun (x : CondAction) => decide (x = .reduce .ab ∨ x = .reduce .ba)
  s.agent.lock &&
    (id == 9 || (id == 6 && (reduces (s.tables.conds.getD i builtinUnused).action || byteAt entry 14 == 2 || byteAt entry 14 == 3)))

/-- R43, steps 3 to 8, after the tests of R30: `owner` is the owning block's taking of the entry, none for its refusal. -/
def writeBody (id : Nat) (args : List Byte) (owner : Nat → List Byte → State → Option State) (s : State) : Answer :=
  let i := byteAt args 0
  let entry := (args.drop 1).take (entrySize id)
  if args.length < 1 + entrySize id then .refuse .badValue s
  else if entryCount id ≤ i then .refuse .badIndex s
  else if s.loader.autoload.isSome then .refuse .busy s
  else if lockRefuses id i entry s then .refuse .locked s
  else if s.agent.store.isSome then .refuse .busy s
  else
    match owner i entry s with
    | some t => .done t
    | none => .refuse .badValue s

/-- The command code of WRITE ENTRY. -/
def writeCode : Byte := 0x05

/-- R43: a WRITE ENTRY to table `id`; `args` are the payload bytes after the table id. -/
def writeEntry (id : Nat) (m : Sender) (args : List Byte) (owner : Nat → List Byte → State → Option State) (s : State) : State :=
  command writeCode 3 true m ([writeCode, byteOf id] ++ args) (writeBody id args owner) s

end Sys2Proof.Machine
end

