-- ==== Sys2Proof/Config.lean ====
section
/-! DEFINITION. The values the manual leaves open: opaque constants without a body, so that nothing can be proved of
them but what holds for every value. -/

namespace Sys2Proof

/-- A byte of an EEPROM page whose content is in doubt after a page write was cut (R164): the first argument counts the
cuts, the second is the EEPROM address. -/
opaque Config.doubtfulByte : Nat → Nat → Byte

/-- Whether a reset that cuts the first page write of a store does so after the EEPROM has acknowledged the first data
byte (R164): the argument counts the cuts. The model's events do not show that moment. -/
opaque Config.firstByteAcknowledged : Nat → Bool

/-- The signature field a page 0 holds where its doubtful bytes would spell the signature C2h 46h although R164 says that
no valid signature is left: any of the 65535 other patterns, numbered in order. The argument counts the cuts. -/
opaque Config.otherSignature : Nat → Fin 65535

end Sys2Proof
end

