-- ==== Sys2Proof/Machine/Memory.lean ====
section
/-! DEFINITION. The settings EEPROM: 8 KiB of bytes at addresses 0 to 8191, in 32-byte pages (chapter 10). Its content is a
list of cells with strictly rising addresses and no cell equal to what an unlisted address reads as. -/

namespace Sys2Proof.Machine

/-- What an EEPROM address that is not listed reads as: FFh, an erased byte (DESIGN CHOICE, log entry 12: the manual gives
no content of an EEPROM nothing was stored in; unsafe). -/
def erased : Byte := 0xFF

/-- The byte at an EEPROM address. -/
def readByte : List Host.Cell → Nat → Byte
  | [], _ => erased
  | (k, v) :: l, a => if k = a then v else readByte l a

/-- Writing a byte, keeping the canonical form: cells stay in address order, and writing FFh removes the cell. -/
def writeByte : List Host.Cell → Nat → Byte → List Host.Cell
  | [], a, v => if v = erased then [] else [(a, v)]
  | (k, w) :: l, a, v =>
    if a < k then (if v = erased then (k, w) :: l else (a, v) :: (k, w) :: l)
    else if a = k then (if v = erased then l else (a, v) :: l)
    else (k, w) :: writeByte l a v

/-- Writing consecutive bytes. -/
def writeBytes : List Host.Cell → Nat → List Byte → List Host.Cell
  | m, _, [] => m
  | m, a, b :: l => writeBytes (writeByte m a b) (a + 1) l

/-- Reading `n` consecutive bytes. -/
def readBytes (m : List Host.Cell) (a n : Nat) : List Byte := (List.range n).map (fun i => readByte m (a + i))

/-- The canonical form: addresses strictly rising, and no cell holding what an unlisted address reads as. -/
def canonical (m : List Host.Cell) : Bool :=
  chain (fun x y => x.1 < y.1) m && m.all (fun c => c.2 != erased)

/-- The page a step of a store writes (R163): page 0 at step 1, pages 1 to 50 at steps 2 to 51, page 0 again at step 52. -/
def stepPage (step : Nat) : Nat := if step = 52 then 0 else step - 1

/-- The 32 data bytes of a step (R163): the page's image bytes, filled up with 00h, and at step 1 with 00h 00h in place of
the signature. -/
def stepData (buffer : List Byte) (step : Nat) : List Byte :=
  let page := padTo 32 (buffer.drop (32 * stepPage step))
  if step = 1 then [0x00, 0x00] ++ page.drop 2 else page

/-- The bytes of a step's page write transaction (R163): device address 54h for writing, the 2-byte page address, the 32
data bytes. -/
def stepTransaction (buffer : List Byte) (step : Nat) : List Byte :=
  [0xA8] ++ bytes16 (32 * stepPage step) ++ stepData buffer step

/-- The image bytes the EEPROM holds, addresses 0 to 1624. -/
def storedImage (m : List Host.Cell) : List Byte := readBytes m 0 imageLength

/-- The page's 32 bytes after a cut of its write, content in doubt: free values (R164). -/
def doubtfulPage (cuts page : Nat) : List Byte := (List.range 32).map (fun i => Config.doubtfulByte cuts (32 * page + i))

/-- The image's bytes behind its signature, content in doubt: free values (R164). -/
def doubtfulContent (cuts : Nat) : List Byte := (List.range (imageLength - 2)).map (fun i => Config.doubtfulByte cuts (2 + i))

/-- The bytes of a signature field other than C2h 46h, a free choice (R164). -/
def otherSignature (cuts : Nat) : List Byte :=
  let n := (Config.otherSignature cuts).val
  bytes16 (if n < 0xC246 then n else n + 1)

/-- A doubtful page 0 without a valid signature (R164): where it would read C2h 46h it holds another pattern there. -/
def unsigned (cuts : Nat) (l : List Byte) : List Byte :=
  if l.take 2 = [0xC2, 0x46] then otherSignature cuts ++ l.drop 2 else l

/-- The EEPROM after a step's page write went wrong once data had been sent: the page in doubt, no valid signature (R164). -/
def spoilPage (m : List Host.Cell) (cuts step : Nat) : List Host.Cell :=
  let page := doubtfulPage cuts (stepPage step)
  writeBytes m (32 * stepPage step) (if stepPage step = 0 then unsigned cuts page else page)

end Sys2Proof.Machine
end

