-- ==== Sys2Proof/Machine/PollOps.lean ====
section
/-! DEFINITION. The Sensor Poll Unit (chapter 4): grants, readings, failures, recovery. -/

namespace Sys2Proof.Machine

/-- The poll entry of an index. -/
def Tables.pollEntry (t : Tables) (i : Nat) : PollEntry := t.polls.getD i builtinPoll

/-- The run of an entry. -/
def Poll.run (p : Poll) (i : Nat) : PollRun := p.runs.getD i ⟨.idle, 0, none⟩

/-- The run of an entry replaced. -/
def Poll.setRun (i : Nat) (r : PollRun) (p : Poll) : Poll := { p with runs := p.runs.set i r }

/-- R78: the DUE entry of lowest index. -/
def Poll.firstDue (p : Poll) : Option Nat := (List.range 12).find? (fun i => (p.run i).state == .due)

/-- R78: a grant, when the bus has no operation in flight and an entry is DUE: its read transaction in bus state IDLE, a
recovery in bus state FAULT. -/
def Poll.grant (t : Tables) (p : Poll) : Poll :=
  match p.op, p.firstDue with
  | none, some i =>
    let q := p.setRun i ⟨.active, (p.run i).attempts, none⟩
    if p.bus = .fault then { q with op := some ⟨.recovery, i, t.pollEntry i, false⟩ }
    else { q with bus := .busy, op := some ⟨.read, i, t.pollEntry i, false⟩ }
  | _, _ => p

/-- The unit's grant at an event (R78). -/
def takeGrant (s : State) : State := { s with poll := s.poll.grant s.tables }

/-- R79: the reading of a raw value: masked, taken as signed where the entry says so. -/
def readingOf (e : PollEntry) (raw : Nat) : Int :=
  let r := raw &&& e.mask
  if e.signed then toSigned r else (r : Int)

/-- The raw reading of the data bits, in the order the sensor drove them: most significant first, the first of two bytes
the high one (R74, R75). -/
def rawOf (bits : List Bool) : Nat := bits.foldl (fun n b => n * 2 + bit b) 0

/-- The poll point of an entry. -/
def pollPoint (i : Nat) : Nat := 16 + i

/-- The bus freed after a read ended: IDLE, no operation, with what the part had driven. -/
def Poll.freed (driven : List BusSignal) (p : Poll) : Poll := { p with bus := .idle, op := none, driven := driven }

/-- R79: a successful, unmarked read of entry `i`. -/
def readSuccess (i : Nat) (e : PollEntry) (bits : List Bool) (s : State) : State :=
  let v := linear e.gain e.offset (readingOf e (rawOf bits))
  let s1 := writePoint (pollPoint i) v.1 v.2 s
  { s1 with poll := s1.poll.setRun i ⟨.idle, 0, some (s1.now + seconds e.period)⟩ }

/-- R80: a failed, unmarked read of entry `i`. -/
def readFailed (i : Nat) (e : PollEntry) (s : State) : State :=
  let n := (s.poll.run i).attempts
  if n < e.retryLimit then
    { s with poll := s.poll.setRun i ⟨.waitingRetry, n + 1, some (s.now + millis 10)⟩ }
  else
    invalidate (pollPoint i) { s with poll := s.poll.setRun i ⟨.failed, 0, some (s.now + seconds e.period)⟩ }

/-- R77, R80: an entry whose time has come becomes DUE; the attempt count stands. -/
def becomeDue (i : Nat) (s : State) : State :=
  takeGrant { s with poll := s.poll.setRun i ⟨.due, (s.poll.run i).attempts, none⟩ }

/-- R81: the run of entry `i` at a bus fault. -/
def faultRun (now : Nat) (e : PollEntry) (r : PollRun) : PollRun :=
  match r.state with
  | .active | .due | .waitingRetry => ⟨.failed, 0, some (now + seconds e.period)⟩
  | .idle | .failed => r

/-- The poll points written INVALID in index order, `n` of them from point 16 on. -/
def invalidatePolls : Nat → State → State
  | 0, s => s
  | n + 1, s => invalidate (pollPoint n) (invalidatePolls n s)

/-- R81: the bus fault event. The manual does not say how far an abandoned operation had come: what it put on the bus is
not recorded, and `driven` keeps the operation before it (the model's choice, log entry 25). -/
def takeBusFault (s : State) : State :=
  invalidatePolls 12
    { s with
      poll := { s.poll with
        bus := .fault, op := none,
        runs := (List.range 12).map (fun i => faultRun s.now (s.tables.pollEntry i) (s.poll.run i)) } }

/-- R82, R83: the completion of a recovery with both lines read. A marked one leaves its entry and starts no read at this
event (log entry 18). -/
def takeRecovery (op : BusOp) (high : Bool) (s : State) : State :=
  let free : Poll := { s.poll with op := none, driven := recoverySignals }
  if high then
    if op.discard then { s with poll := { free with bus := .idle } }
    else
      { s with
        poll := { free.setRun op.index ⟨.active, 0, none⟩ with
          bus := .busy, op := some ⟨.read, op.index, s.tables.pollEntry op.index, false⟩ } }
  else
    let r := if op.discard then free else free.setRun op.index ⟨.failed, 0, some (s.now + seconds op.entry.period)⟩
    takeGrant { s with poll := r }

/-- R83: an accepted write of entry `i`. -/
def takePollWrite (i : Nat) (e : PollEntry) (s : State) : State :=
  let mark := fun (o : BusOp) => if o.index = i ∧ o.kind ≠ .startup then { o with discard := true } else o
  let run : PollRun := if e.inUse then ⟨.due, 0, none⟩ else ⟨.idle, 0, none⟩
  let s1 := { s with
              tables := { s.tables with polls := s.tables.polls.set i e },
              poll := { s.poll.setRun i run with op := s.poll.op.map mark } }
  takeGrant (invalidate (pollPoint i) s1)

/-- R84: the nine clocks done: every entry in use becomes DUE, the watch starts, the first grant is made. -/
def takeStartup (s : State) : State :=
  takeGrant
    { s with
      poll := { s.poll with
        op := none, watch := true, driven := recoverySignals,
        runs := (List.range 12).map (fun i =>
          if (s.tables.pollEntry i).inUse then ⟨.due, 0, none⟩ else s.poll.run i) } }

end Sys2Proof.Machine
end

