-- ==== Sys2Proof/Machine/SamplingOps.lean ====
section
/-! DEFINITION. The Sampling Unit (chapter 3): scans, settling, the conversion event. -/

namespace Sys2Proof.Machine

/-- The time of one conversion: 20 µs (R55). -/
def conversionTime : Nat := 20

/-- The channel of a slot of the Scan List. -/
def ScanTable.channelOf (t : ScanTable) (slot : Nat) : Nat := t.channels.getD slot 0

/-- Whether a channel stands in the Scan List. -/
def ScanTable.holds (t : ScanTable) (ch : Nat) : Bool := (t.channels.take t.count).contains ch

/-- R59: the conversion of the slot after this one, or none when it was the last. -/
def nextConversion (t : ScanTable) (now slot : Nat) : Option Conversion :=
  if slot + 1 < t.count then some ⟨slot + 1, now + conversionTime⟩ else none

/-- R58: a scan begins at slot 0. -/
def startScan (now : Nat) (u : Sampling) : Sampling := { u with conversion := some ⟨0, now + conversionTime⟩ }

/-- R61: the channels a test picks set to DISCARD. -/
def discardChannels (pick : Nat → Bool) (u : Sampling) : Sampling :=
  { u with settle := (List.range 16).map (fun ch => if pick ch then .discard else u.settle.getD ch .discard) }

/-- R64, R67: the conversion in flight abandoned when its channel is picked, the next slot's started. -/
def abandon (t : ScanTable) (now : Nat) (pick : Nat → Bool) (u : Sampling) : Sampling :=
  match u.conversion with
  | some k => if pick (t.channelOf k.slot) then { u with conversion := nextConversion t now k.slot } else u
  | none => u

/-- R62, R69, R70: a kept conversion of channel `ch`: the accumulator seeded or filtered, the point written with it and the
validity of the sample. -/
def keepSample (ch : Nat) (v : Int × Validity) (seeding : Bool) (s : State) : State :=
  let k := (s.tables.cals.getD ch ⟨.linear, 1024, 0, 0, 2⟩).shift
  let avg := if seeding then v.1 else filterStep (s.sampling.accumulator.getD ch 0) v.1 k
  let s1 := { s with
              sampling := { s.sampling with
                settle := s.sampling.settle.set ch .filtering, accumulator := s.sampling.accumulator.set ch avg } }
  afterUpdate ch (writePoint ch avg v.2 s1)

/-- R71: the fast brown-out compare of an AN8 sample: an event handed when it is below the threshold. -/
def brownOutCompare (ch : Nat) (v : Int) (s : State) : State :=
  if ch = 8 ∧ v < s.supply.inUse.brownOut then { s with brownOuts := s.brownOuts ++ [v] } else s

/-- R62: the code of a completed conversion of channel `ch` handled. -/
def handleCode (ch : Nat) (code : Nat) (s : State) : State :=
  let v := convert s.tables.curves (s.tables.cals.getD ch ⟨.linear, 1024, 0, 0, 2⟩) code
  match s.sampling.settle.getD ch .discard with
  | .discard => { s with sampling := { s.sampling with settle := s.sampling.settle.set ch .seed } }
  | .seed => keepSample ch v true (brownOutCompare ch v.1 s)
  | .filtering => keepSample ch v false (brownOutCompare ch v.1 s)

/-- R59, R62: the conversion event of a slot. -/
def conversionDone (slot code : Nat) (s : State) : State :=
  let s1 := handleCode (s.tables.scan.channelOf slot) code s
  { s1 with sampling := { s1.sampling with conversion := nextConversion s1.tables.scan s1.now slot } }

end Sys2Proof.Machine
end

