-- ==== Sys2Proof/Machine/SupplyOps.lean ====
section
/-! DEFINITION. The Supply Manager (chapter 9): the PV input machine, the charge limit, the zone, the charge stage and its
words, the shed sources, on the supply's own state; and taking its result into the machine. -/

namespace Sys2Proof.Machine

/-- A record is usable for a test when it is not INVALID (R148, R152, R154). -/
def Point.usable (p : Point) : Bool := p.validity != .invalid

/-- R146: the array rating of an array code, in 0.01 A. -/
def arrayRating (code : Nat) : Nat := 1000 * (code + 1)

/-- COLD or HOT. -/
def Zone.extreme (z : Zone) : Bool := z == .cold || z == .hot

/-- The stages in which the charger is enabled (R152). -/
def Stage.enabled (g : Stage) : Bool := g == .bulk || g == .absorb || g == .float

/-- R153: the charge current: the limit in NORMAL, half of it rounded down in COOL and WARM; 0 in COLD and HOT, where the
charger is not enabled. -/
def Supply.chargeCurrent (u : Supply) : Nat :=
  match u.zone with
  | .normal => u.limit
  | .cool | .warm => u.limit / 2
  | .cold | .hot => 0

/-- R152: the voltage target of the stage. -/
def Supply.voltageTarget (u : Supply) : Int :=
  match u.stage with
  | .bulk | .absorb => u.inUse.absorbVoltage
  | .float => if u.zone = .warm then u.inUse.floatVoltage - u.inUse.warmReduction else u.inUse.floatVoltage
  | .off | .halted | .fault => 0

/-- A charger word. -/
def chargerWord (r : Register) (v : Nat) : PortWord := ⟨.charger, r, v, .charger⟩

/-- CURRENT_LIMIT in 0.1 A steps (R153). -/
def currentWord (u : Supply) : PortWord := chargerWord .currentLimit (u.chargeCurrent / 10)

/-- VOLTAGE_TARGET in 0.02 V steps (R153). -/
def voltageWord (u : Supply) : PortWord := chargerWord .voltageTarget (u.voltageTarget / 2).toNat

/-- R153: the words an event places that takes the supply from `u` to `v`, but for STATUS_READ. That CURRENT_LIMIT goes before
VOLTAGE_TARGET when both change, and that a limit changed by the event that leaves the enabled stages places no word, is
the model's choice (log entry 41). -/
def chargeWords (u v : Supply) : List PortWord :=
  if v.stage.enabled then
    if u.stage.enabled then
      (if u.chargeCurrent = v.chargeCurrent then [] else [currentWord v]) ++
        (if u.voltageTarget = v.voltageTarget then [] else [voltageWord v])
    else [currentWord v, voltageWord v, chargerWord .chargeEnable 1]
  else if u.stage.enabled then [chargerWord .chargeEnable 0]
  else []

/-- R148: leaving a PV state stops its timers. -/
def Supply.stopTimers (u : Supply) : Supply := { u with settleAt := none, testAt := none, retryAt := none }

/-- R148, R152: the array below presence: ABSENT with failure count 0; every stage but FAULT goes OFF when PV leaves
QUALIFIED. -/
def Supply.toAbsent (u : Supply) : Supply :=
  { u.stopTimers with
    pv := .absent, failures := 0,
    stage := if u.pv = .qualified ∧ u.stage ≠ .fault then .off else u.stage }

/-- R148: into SETTLING at time `t`. -/
def Supply.toSettling (t : Nat) (u : Supply) : Supply :=
  { u.stopTimers with pv := .settling, settleAt := some (t + seconds 1) }

/-- R152: into BULK with its timer at 0. -/
def Supply.toBulk (u : Supply) : Supply := { u with stage := .bulk, stageTime := 0 }

/-- R150: the charge limit steps of one supply check on point 10's value. -/
def Supply.limitStep (v : Int) (u : Supply) : Supply :=
  if v < u.hold then { u with limit := max 200 (u.limit - 100), derated := true, noSag := 0 }
  else if u.noSag + 1 < 60 then { u with noSag := u.noSag + 1 }
  else
    let n := min (arrayRating u.inUse.arrayCode) (u.limit + 100)
    { u with noSag := 0, limit := n, derated := if n = arrayRating u.inUse.arrayCode then false else u.derated }

/-- R148: the PV input step of a supply check taken at time `t`. -/
def Supply.pvStep (t : Nat) (p10 : Point) (u : Supply) : Supply :=
  if !p10.usable then u
  else if p10.value < u.inUse.presence then (if u.pv = .absent then u else u.toAbsent)
  else
    match u.pv with
    | .absent => u.toSettling t
    | .qualified => u.limitStep p10.value
    | .settling | .testing | .retryWait | .lockedOut => u

/-- R151: the zone of a temperature from the zone held; a threshold crossed toward NORMAL must be passed by the hysteresis. -/
def zoneOf (g : SupplySettings) (z : Zone) (t : Int) : Zone :=
  let h := g.zoneHyst
  let a1 := if z = .cold then g.t1 + h else g.t1
  let a2 := if z = .cold ∨ z = .cool then g.t2 + h else g.t2
  let a3 := if z = .warm ∨ z = .hot then g.t3 - h else g.t3
  let a4 := if z = .hot then g.t4 - h else g.t4
  if t < a1 then .cold else if t < a2 then .cool else if t ≤ a3 then .normal else if t ≤ a4 then .warm else .hot

/-- R151: the zone level. -/
def zoneLevelOf (g : SupplySettings) : Zone → Nat
  | .cold => g.coldLevel
  | .hot => g.hotLevel
  | .cool | .normal | .warm => 0

/-- R151: the zone step of a supply check. -/
def Supply.zoneStep (p12 : Point) (u : Supply) : Supply :=
  if p12.usable then
    let z := zoneOf u.inUse u.zone p12.value
    if z = u.zone then u else { u with zone := z, zoneLevel := zoneLevelOf u.inUse z }
  else u

/-- R153: what the stage timer gains at a check, in half seconds: 1 s, or 0.5 s while derated or in COOL or WARM. -/
def Supply.gain (u : Supply) : Nat := if u.derated = true ∨ u.zone = .cool ∨ u.zone = .warm then 1 else 2

/-- Hours in half seconds. -/
def halfSeconds (hours : Nat) : Nat := hours * 7200

/-- R152: the test of BULK: point 8 at or above the absorb voltage. -/
def Supply.absorbReached (p8 : Point) (u : Supply) : Bool := p8.usable && u.inUse.absorbVoltage ≤ p8.value

/-- R152: the test of ABSORB: point 9 below the absorb end current. -/
def Supply.absorbEnds (p9 : Point) (u : Supply) : Bool := p9.usable && p9.value < u.inUse.absorbEnd

/-- R153: whether the bulk timer expires at this check: BULK, not halted by the zone, its test not met, the total reached. -/
def Supply.bulkExpires (p8 : Point) (u : Supply) : Bool :=
  u.stage == .bulk && !u.zone.extreme && !u.absorbReached p8 && halfSeconds u.inUse.bulkTime ≤ u.stageTime + u.gain

/-- R153: whether the absorb timer expires at this check. -/
def Supply.absorbExpires (p9 : Point) (u : Supply) : Bool :=
  u.stage == .absorb && !u.zone.extreme && !u.absorbEnds p9 && halfSeconds u.inUse.absorbTime ≤ u.stageTime + u.gain

/-- R152, R153: the charge stage step of a supply check; the moves on the zone first, then the test, then the timer, and
one move a check (log entry 16). -/
def Supply.stageStep (p8 p9 : Point) (u : Supply) : Supply :=
  match u.stage with
  | .bulk =>
    if u.zone.extreme then { u with stage := .halted }
    else if u.absorbReached p8 then { u with stage := .absorb, stageTime := 0 }
    else if u.bulkExpires p8 then { u with stage := .fault, stageTime := u.stageTime + u.gain }
    else { u with stageTime := u.stageTime + u.gain }
  | .absorb =>
    if u.zone.extreme then { u with stage := .halted }
    else if u.absorbEnds p9 then { u with stage := .float }
    else if u.absorbExpires p9 then { u with stage := .float, stageTime := u.stageTime + u.gain }
    else { u with stageTime := u.stageTime + u.gain }
  | .float =>
    if u.zone.extreme then { u with stage := .halted }
    else if p8.usable && p8.value < u.inUse.floatReturn then u.toBulk
    else u
  | .halted => if u.zone.extreme then u else u.toBulk
  | .off | .fault => u

/-- The highest n from 1 to `k` with the battery below Vn raised by `off`, or 0 (R154). -/
def levelBelow (g : SupplySettings) (off v : Int) : Nat → Nat
  | 0 => 0
  | n + 1 =>
    let threshold :=
      match n with
      | 0 => g.v1
      | 1 => g.v2
      | 2 => g.v3
      | _ => g.v4
    if v < threshold + off then n + 1 else levelBelow g off v n

/-- R154: the voltage level after a check with the battery at `v` and a level held. -/
def voltageLevelOf (g : SupplySettings) (held : Nat) (v : Int) : Nat :=
  let u := levelBelow g 0 v 4
  if held ≤ u then u else levelBelow g g.shedHyst v held

/-- R154: the voltage level and the brown-out hold at a check; an INVALID point 8 holds both (log entry 17). -/
def Supply.shedStep (p8 : Point) (u : Supply) : Supply :=
  if p8.usable then
    { u with
      voltageLevel := voltageLevelOf u.inUse u.voltageLevel p8.value,
      brownHold := if u.brownHold = 4 ∧ u.inUse.brownOutRelease ≤ p8.value then 0 else u.brownHold }
  else u

/-- The supply before the charge stage step of a check (R147): array, charge limit and zone. -/
def Supply.beforeStage (t : Nat) (p10 p12 : Point) (u : Supply) : Supply := (u.pvStep t p10).zoneStep p12

/-- R147: a supply check on its four records, in the order of its steps. -/
def Supply.check (t : Nat) (p8 p9 p10 p12 : Point) (u : Supply) : Supply :=
  ((u.beforeStage t p10 p12).stageStep p8 p9).shedStep p8

/-- R150, R152: the entry to QUALIFIED. -/
def Supply.toQualified (u : Supply) : Supply :=
  let stage :=
    if u.stage = .off ∨ u.stage = .fault then (if u.zone.extreme then .halted else .bulk) else u.stage
  { u.stopTimers with
    pv := .qualified, failures := 0, hold := max u.inUse.floor (u.voc * 80 / 100),
    limit := arrayRating u.inUse.arrayCode, derated := false, noSag := 0, stage := stage,
    stageTime := if stage = .bulk then 0 else u.stageTime }

/-- R148: the settle timer's expiry at time `t`. -/
def Supply.settleExpiry (t : Nat) (p10 : Point) (u : Supply) : Supply :=
  if !p10.usable then u.toSettling t
  else if p10.value < u.inUse.presence then u.toAbsent
  else { u.stopTimers with pv := .testing, voc := p10.value, testAt := some (t + millis 100) }

/-- R149: the test timer's expiry at time `t`. -/
def Supply.testExpiry (t : Nat) (p10 : Point) (u : Supply) : Supply :=
  if !p10.usable then u.toSettling t
  else if u.inUse.floor ≤ p10.value then u.toQualified
  else if u.failures + 1 < 5 then
    { u.stopTimers with pv := .retryWait, failures := u.failures + 1, retryAt := some (t + seconds 4) }
  else { u.stopTimers with pv := .lockedOut, failures := u.failures + 1 }

/-- R148, R50: a requalify request. -/
def Supply.requalify (t : Nat) (u : Supply) : Supply :=
  if u.pv = .lockedOut then { u.toSettling t with failures := 0 } else u

/-- R152, R50: a restart request. -/
def Supply.restartCharge (u : Supply) : Supply :=
  if u.stage = .fault then
    if u.pv = .qualified then (if u.zone.extreme then { u with stage := .halted } else u.toBulk)
    else { u with stage := .off }
  else u

/-- R152: a charger reply with the fault bit set. -/
def Supply.chargerFault (u : Supply) : Supply :=
  match u.stage with
  | .bulk | .absorb | .float | .halted => { u with stage := .fault }
  | .off | .fault => u

/-- R146: new Supply Settings applied. -/
def Supply.adopt (g : SupplySettings) (u : Supply) : Supply :=
  let r := arrayRating g.arrayCode
  let q := decide (u.pv = .qualified)
  let n := if q then min r u.limit else u.limit
  { u with
    inUse := g, limit := n, derated := if q then decide (n < r) else u.derated,
    hold := if q then max g.floor u.hold else u.hold, zoneLevel := zoneLevelOf g u.zone }

/-- The Supply Manager's event taken: its state replaced, points 38 and 40 written when zone and PV state changed (R93),
OUT7 high exactly in TESTING (R149), the words placed. -/
def applySupply (v : Supply) (extra : List PortWord) (s : State) : State :=
  let z := if v.zone = s.supply.zone then s.points else s.points.write (s.deadline 38) 38 v.zone.code .valid
  { s with
    supply := v,
    points := if v.pv = s.supply.pv then z else z.write (s.deadline 40) 40 v.pv.code .valid,
    outputs := { s.outputs with testLoad := v.pv == .testing },
    port := s.port.placeAll s.now (chargeWords s.supply v ++ extra) }

/-- An event of the Supply Manager with the effective shed level recomputed once at its end (log entry 15). -/
def takeSupply (v : Supply) (extra : List PortWord) (s : State) : State := recomputeShed (applySupply v extra s)

/-- R147: the supply before the charge stage step of a check on the state's records. -/
def State.supplyBeforeStage (s : State) : Supply := s.supply.beforeStage s.now (s.point 10) (s.point 12)

/-- R147: a supply check. That its STATUS_READ goes by the stage after the check's moves, and is placed after the check's
other words, is the model's choice (R153; log entry 41). -/
def checkSupply (s : State) : State :=
  let v := s.supply.check s.now (s.point 8) (s.point 9) (s.point 10) (s.point 12)
  takeSupply v (if v.stage = .off then [] else [chargerWord .chargeStatus 0]) s

/-- R147: the supply check's timer taken: the clock at its expiry, the next one a second later. -/
def checkDue (t : Nat) (s : State) : State :=
  let s1 := s.reach t
  { s1 with supply := { s1.supply with checkAt := some (t + seconds 1) } }

end Sys2Proof.Machine
end

