-- ==== Sys2Proof/Machine/LoaderOps.lean ====
section
/-! DEFINITION. The Settings Loader (chapter 10): adopting tables, the end of autoload, what it drives on the EEPROM port, the
steps of a store and its end. -/

namespace Sys2Proof.Machine

/-! Adopting tables: what an accepted write of a supply table does (R146, R156), also taken at the end of autoload (R159). -/

/-- R146: new Supply Settings in use. -/
def adoptSupply (g : SupplySettings) (s : State) : State := takeSupply (s.supply.adopt g) [] s

/-- R156: a new Shed Table and new Output Settings in use, every output resolved afresh. -/
def adoptOutputs (sheds : List (BitVec 7)) (idles : List Bool) (s : State) : State :=
  resolveOutputs { s with outputs := { s.outputs with sheds := sheds, idles := idles } }

/-- R132: a channel takes new settings in use. -/
def adoptPump (c : Channel) (t : PumpSettings) (s : State) : State :=
  applyPump c ((s.pumps.get c).settingsChange s.now s.supply.level t) s

/-- R142: after power-on or the reset pin, a channel without a pump mode forcing takes its stored mode. -/
def applyStoredMode (c : Channel) (s : State) : State :=
  match s.agent.pumpForce.get c with
  | some _ => s
  | none => modeRequest c (s.tables.pumps.get c).storedMode s

/-! The end of autoload (R162). -/

/-- R162: the tables in force and the settings source, point 45 written. -/
def installTables (t : Option Tables) (s : State) : State :=
  let src : Source := if t.isSome then .stored else .defaults
  writePoint 45 src.code .valid
    { s with tables := t.getD s.tables, loader := { s.loader with source := src, autoload := none } }

/-- R73, R84, R118: sampling starts with a period start at once, the nine clocks of the sensor bus start, the run states
are set and the pass timer starts. -/
def startBlocks (s : State) : State :=
  { s with
    sampling := { startScan s.now s.sampling with periodAt := some (s.now + millis s.tables.scan.period) },
    poll := { s.poll with op := some ⟨.startup, 0, builtinPoll, false⟩ },
    engine := { s.engine with runs := s.tables.conds.map startRun, passAt := some (s.now + millis 100) } }

/-- R142: Pump Control takes its settings in use, and after power-on or the reset pin its stored mode; the settings of both
channels before either mode, AB before BA (the model's choice, log entry 38). -/
def startPumps (afterRestart : Bool) (s : State) : State :=
  let s1 := adoptPump .ba s.tables.pumps.ba (adoptPump .ab s.tables.pumps.ab s)
  if afterRestart then s1 else applyStoredMode .ba (applyStoredMode .ab s1)

/-- R159: the Supply Manager takes its tables, and after power-on or the reset pin starts its supply check timer. -/
def startSupply (afterRestart : Bool) (s : State) : State :=
  let s1 := adoptOutputs s.tables.sheds s.tables.idles (adoptSupply s.tables.supply s)
  if afterRestart then s1 else { s1 with supply := { s1.supply with checkAt := some (s1.now + seconds 1) } }

/-- R162: the end of autoload, with the tables of a good image or none. R142, R159 and R162 give no order among the owners at
this one event: that Pump Control goes before the Supply Manager is the model's choice (log entry 45). -/
def endAutoload (afterRestart : Bool) (t : Option Tables) (s : State) : State :=
  startSupply afterRestart (startPumps afterRestart (startBlocks (installTables t s)))

/-- R161, R164: what the part did on the EEPROM port in a read of the image that ended so. That a failure of checks 2 to 4
does not cut the sequential read short, though the image is checked as it is read, is the model's choice (log entry 44). -/
def imageSignals : EepromRead → List BusSignal
  | .stored | .returned _ => imageBusRead.signals
  | .lost f => imageBusRead.failed f

/-- R161, R163: an attempt to address the EEPROM, ended by a stop. -/
def addressSignals : List BusSignal := writeSignals [0xA8]

/-- R163: the whole page write of the step a store is at. -/
def stepSignals (st : Store) : List BusSignal := writeSignals (stepTransaction st.buffer st.step)

/-- R161, R163: what the part did on the EEPROM port in a page write: all of it; the bytes up to the one not acknowledged and
a stop; or the signals before a lost data line, then both lines released. -/
def pageSignals (st : Store) : PageWrite → List BusSignal
  | .acknowledged => stepSignals st
  | .refusedAt k => (stepSignals st).take (1 + 9 * (k + 1)) ++ [.stop]
  | .lostDataLine n => (stepSignals st).take n ++ [.release]

/-- R161, R163: what the part did on the EEPROM port in an address that polls a write cycle. -/
def pollSignals : AddressPoll → List BusSignal
  | .acknowledged | .notAcknowledged => addressSignals
  | .lostDataLine n => addressSignals.take n ++ [.release]

/-- What the part did in the transaction of the EEPROM port that ended. -/
def State.drove (l : List BusSignal) (s : State) : State := { s with loader := { s.loader with driven := l } }

/-- What a sequential read of the image returns (R161, R164). -/
def imageRead (m : List Host.Cell) : EepromRead → Option (List Byte)
  | .stored => some (storedImage m)
  | .returned l => some l
  | .lost _ => none

/-- R161: what an autoload's read comes to: the tables of an image that passes every check. -/
def autoloaded (m : List Host.Cell) (r : EepromRead) : Option Tables :=
  match imageRead m r with
  | some img => acceptImage img
  | none => none

/-! Storing (R163, R164). -/

/-- R51, R164: the end of a store: store-in-flight cleared, the STORE SETTINGS reply built and offered. -/
def endStore (good : Bool) (s : State) : State :=
  let s1 := { s with agent := { s.agent with store := none }, loader := { s.loader with store := none } }
  match s.agent.store with
  | some m => sendReply m 0x10 (if good then .done else .failed) [] s1
  | none => s1

/-- R164: the page of a step in doubt after data had been sent, no valid signature. -/
def spoil (step : Nat) (s : State) : State := { s with eeprom := spoilPage s.eeprom s.cuts step, cuts := s.cuts + 1 }

/-- R164: the page of a step in doubt after its write was cut: page 0 of step 52 with or without a signature, before it no
valid signature. -/
def cutPage (step : Nat) (s : State) : State :=
  if step = 52 then { s with eeprom := writeBytes s.eeprom 0 (doubtfulPage s.cuts 0), cuts := s.cuts + 1 } else spoil step s

/-- R164: what a power-on reset or reset pin leaves in the EEPROM when it cuts a store. -/
def cutStore (s : State) : State :=
  match s.loader.store with
  | none => s
  | some st =>
    match st.phase with
    | .readBack => s
    | .writing =>
      if st.step = 1 ∧ Config.firstByteAcknowledged s.cuts = false then { s with cuts := s.cuts + 1 } else cutPage st.step s
    | .cycle _ _ => cutPage st.step s

/-- R164: the signature present but the content in doubt: the image's other bytes are free values (log entry 13). -/
def doubtContent (s : State) : State :=
  { s with eeprom := writeBytes s.eeprom 2 (doubtfulContent s.cuts), cuts := s.cuts + 1 }

/-- R163: the acknowledge that ends a step's write cycle: the page holds the step's data, and the next step's page write
or the read-back starts. -/
def commitStep (st : Store) (s : State) : State :=
  { s with
    eeprom := writeBytes s.eeprom (32 * stepPage st.step) (stepData st.buffer st.step),
    loader := { s.loader with
      store := some (if st.step < 52 then ⟨st.buffer, st.step + 1, .writing⟩ else ⟨st.buffer, st.step, .readBack⟩) } }

end Sys2Proof.Machine
end

