-- ==== Sys2Proof/Machine/Resets.lean ====
section
/-! DEFINITION. The three resets (R10, R26, R53, R54, R72, R84, R97, R117, R120, R142, R145, R159, R165). -/

namespace Sys2Proof.Machine

/-- The outcome of every command: a next state. -/
abbrev Result := Host.Outcome State Fault Refusal

/-- Power-on reset, to which the reset pin is identical (section 5.6): every block at its power-on values with its timers
started at this moment, the pins read, the EEPROM as a cut store leaves it (R164), an autoload started. -/
def powerOn (addr : BitVec 6) (inputs : Byte) (s : State) : State :=
  let t := s.now
  let e := cutStore s
  { State.reset with
    now := t, pending := s.pending, ownAddr := ownAddress addr, ports := ⟨LinePort.powerOn t, LinePort.powerOn t⟩,
    agent := Agent.powerOn t, points := PointTable.powerOn t inputs, port := ControlPort.powerOn t,
    loader := Loader.atReset t false, eeprom := e.eeprom, cuts := e.cuts }

/-- POWER_ON_RESET (R10). -/
def execPowerOnReset (addr : BitVec 6) (inputs : Byte) (s : State) : Result := .next (powerOn addr inputs s)

/-- RESET_PIN (R10): identical to power-on reset. -/
def execResetPin (addr : BitVec 6) (inputs : Byte) (s : State) : Result := .next (powerOn addr inputs s)

/-- R10, R20, R26: a port at a RESTART: its insert queue emptied and its counters 0, all else as it was. -/
def LinePort.atRestart (p : LinePort) : LinePort :=
  { p with queue := [], hopExpired := 0, malformed := 0, slip := 0, alertsLost := 0, replyLost := 0 }

/-- R54: the agent at a RESTART at time `t`; lock, hut time, time-set flag and one-second timer stand. -/
def Agent.atRestart (t : Nat) (u : Agent) : Agent :=
  { Agent.powerOn t with lock := u.lock, hutTime := u.hutTime, timeSet := u.timeSet, secondAt := u.secondAt }

/-- R97: the point records at a RESTART. -/
def recsAtRestart (l : List Point) : List Point :=
  ((List.replicate 30 unwritten ++ l.drop 30).set 43 (fresh 0)).set 45 (fresh 1)

/-- R97: the Point Table at a RESTART; launch records, inputs and the age timer stand. -/
def PointTable.atRestart (p : PointTable) : PointTable :=
  { p with recs := recsAtRestart p.recs, deadlines := List.replicate 28 none }

/-- R142, R159: the words placed again once the Control Port has been emptied: AB's, BA's, the charger's (Pump Control
before the Supply Manager: the model's choice, log entry 21). -/
def restartWords (s : State) : List PortWord :=
  s.pumps.ab.restartWords.map (PumpWord.on .ab) ++ s.pumps.ba.restartWords.map (PumpWord.on .ba) ++
    (if s.supply.stage.enabled then [currentWord s.supply, voltageWord s.supply, chargerWord .chargeEnable 1]
     else [chargerWord .chargeEnable 0])

/-- R53: the RESTART reset, with ADDR0 to ADDR5 read again. Each channel keeps its state and current (R97, R142) and takes the
target of a changed effective shed level (R133; log entry 40). -/
def restartReset (addr : BitVec 6) (s : State) : State :=
  let t := s.now
  let s1 : State :=
    { s with
      inbox := [], brownOuts := [], ownAddr := ownAddress addr, ports := ⟨s.ports.a.atRestart, s.ports.b.atRestart⟩,
      tables := builtinTables, agent := s.agent.atRestart t, sampling := Sampling.atReset, poll := Poll.atReset,
      points := s.points.atRestart, engine := Engine.atReset, alarms := [],
      port := ControlPort.placeAll t (restartWords s) ⟨[], none, []⟩,
      outputs := { s.outputs with pulses := List.replicate 7 none }, loader := Loader.atReset t true }
  recomputeAtRestart s1

/-- RESTART_RESET (R53): the pending RESTART takes effect once its reply has been placed in a frame or rejected. -/
def execRestartReset (addr : BitVec 6) (s : State) : Result :=
  match s.agent.restart with
  | some r => .next (if r.due then restartReset addr s else s)
  | none => .next s

end Sys2Proof.Machine
end

