-- ==== Sys2Proof/WellFormed.lean ====
section
/-! DEFINITION. Which commands are well formed: their operands spell their own row's event (section 1.1 to 1.3, R3, R6 to
R8, R30, R75). Whether the event can occur in a state is not asked here. -/

namespace Sys2Proof

/-- A sender's source is an address 0 to 63 (R3). -/
def Sender.good (m : Sender) : Bool := m.source.toNat ≤ 63

/-- A payload of at most `n` bytes after what its row fixes. -/
def argsWithin (n : Nat) (m : Sender) (l : List Byte) : Bool := m.good && l.length ≤ n

/-- The arguments of a command with an assigned code: at most 63 bytes after the code. -/
def commandArgs (m : Sender) (l : List Byte) : Bool := argsWithin 63 m l

/-- The arguments of a WRITE ENTRY after its table id: at most 62 bytes. -/
def writeArgs (m : Sender) (l : List Byte) : Bool := argsWithin 62 m l

/-- Three bytes are the sync pattern (R6). -/
def isSync (b0 b1 b2 : Byte) : Bool := [b0, b1, b2] == Machine.syncPattern

/-- A payload that names no command: empty, or an unassigned code (R30). -/
def namesNoCommand (l : List Byte) : Bool :=
  match l with
  | [] => true
  | c :: _ => c == 0 || 0x11#8 < c

/-- A table id outside 1 to 12, or none given (R43). -/
def otherTable (l : List Byte) : Bool :=
  match l with
  | [] => true
  | t :: _ => t == 0 || 12#8 < t

/-- Whether some sensor's read can fail so: a not-acknowledge of one of the three bytes the part sends, on its ninth clock
(R75). Where a data line can be lost depends on the bits sent, so on the entry. -/
def ReadFailure.inPhase : ReadFailure → Bool
  | .notAcknowledged .addressWrite n | .notAcknowledged .register n | .notAcknowledged .addressRead n => n == 8
  | .notAcknowledged .start _ | .notAcknowledged .repeatedStart _ | .notAcknowledged .data _ | .notAcknowledged .stop _ => false
  | .lostDataLine _ _ => true

/-- The ends an EEPROM read can have: a failure at a signal at which it can happen (R75, R161). -/
def EepromRead.inPhase : EepromRead → Bool
  | .stored | .returned _ => true
  | .lost f => Machine.imageBusRead.mayFail f

/-- The ends the read of an autoload can have: the not-acknowledge of the device address is an address retry's (R161). That
a data line lost in the start condition or the device address, before the first byte is over (check 5 names what comes
after it), is answered by no retry but ends the autoload as a failure like a later one is the model's choice (log entry 42). -/
def EepromRead.afterAddress (r : EepromRead) : Bool :=
  match r with
  | .lost (.notAcknowledged .addressWrite _) => false
  | .lost _ | .stored | .returned _ => r.inPhase

/-- The well-formed commands. -/
def Instr.wellFormed : Instr → Bool
  | .powerOnReset _ _ => true
  | .resetPin _ _ => true
  | .restartReset _ => true
  | .transmitEvent _ => true
  | .syncPatternFound _ _ b0 b1 b2 => isSync b0 b1 b2
  | .confirmCheck _ _ _ _ => true
  | .missedSync _ b0 b1 b2 => !isSync b0 b1 b2
  | .lossOfSync _ b0 b1 b2 => !isSync b0 b1 b2
  | .erroredFrame _ f => Machine.badCrcFrame f
  | .goodFrameArrival _ f => Machine.goodFrame f
  | .rfmRunCountReached _ f => Machine.goodFrame f && (Machine.frameHeader f).rfm
  | .windowTimerExpiry _ => true
  | .identify m l => commandArgs m l
  | .claim m l => commandArgs m l
  | .release m l => commandArgs m l
  | .readEntry m l => commandArgs m l
  | .readPoints m l => commandArgs m l
  | .readStanding m l => commandArgs m l
  | .writeMessageAction m l => writeArgs m l
  | .writeScanList m l => writeArgs m l
  | .writeChannelCalibration m l => writeArgs m l
  | .writeConversionCurve m l => writeArgs m l
  | .writePollEntry m l => writeArgs m l
  | .writeCondition m l => writeArgs m l
  | .writeShedTable m l => writeArgs m l
  | .writeSupplySettings m l => writeArgs m l
  | .writePumpSettings m l => writeArgs m l
  | .writeLineSettings m l => writeArgs m l
  | .writeOutputSettings m l => writeArgs m l
  | .writeManagementSettings m l => writeArgs m l
  | .writeEntryOtherTable m l => commandArgs m l && otherTable l
  | .ackAlarm m l => commandArgs m l
  | .forceOutput m l => commandArgs m l
  | .forceShed m l => commandArgs m l
  | .pumpMode m l => commandArgs m l
  | .pulseOutput m l => commandArgs m l
  | .requalifySupply m l => commandArgs m l
  | .chargeRestart m l => commandArgs m l
  | .setLock m l => commandArgs m l
  | .storeSettings m l => commandArgs m l
  | .restart m l => commandArgs m l
  | .unknownCommand m l => argsWithin 64 m l && namesNoCommand l && m.cls == .mine
  | .ignoredCommand m l => argsWithin 64 m l && m.cls != .mine
  | .beat m l => argsWithin 64 m l
  | .contactTimerExpiry _ => true
  | .hutTimeTick => true
  | .autoloadAddressRetry _ => true
  | .autoloadReadDone r => r.afterAddress
  | .autoloadDeadline => true
  | .pageWriteDone _ => true
  | .pageAckPoll _ => true
  | .pageWriteTimeout => true
  | .readBackDone r => r.inPhase
  | .scanPeriodStart => true
  | .conversionEvent _ => true
  | .brownOutEvent v => -32768 ≤ v && v ≤ 32767
  | .startupPulsesDone => true
  | .transactionSuccess l => l.length == 8 || l.length == 16
  | .transactionFailure f => f.inPhase
  | .nextDueTime _ => true
  | .retryTime _ => true
  | .busFault => true
  | .recoveryComplete _ _ => true
  | .ageTimerExpiry => true
  | .stalenessDeadline _ => true
  | .launchExpiry _ => true
  | .inputRawChange _ _ => true
  | .debounceTimerExpiry _ => true
  | .pass => true
  | .qualifySetReached _ => true
  | .qualifyClearReached _ => true
  | .startTimerExpiry _ => true
  | .rampTimerExpiry _ => true
  | .probeTimerExpiry _ => true
  | .probeDurationExpiry _ => true
  | .statusReadTimerExpiry _ => true
  | .transferComplete _ => true
  | .supplyCheck => true
  | .noSagCountReached => true
  | .bulkTimerExpiry => true
  | .absorbTimerExpiry => true
  | .settleTimerExpiry => true
  | .testTimerExpiry => true
  | .retryTimerExpiry => true
  | .pulseEnd _ => true

end Sys2Proof
end

