-- ==== Sys2Proof/Machine/Commands.lean ====
section
/-! DEFINITION. The controlled commands, the commands that are not executed, BEAT, and the agent's own timers (chapter 2). -/

namespace Sys2Proof.Machine

/-- The condition an ACK ALARM argument names: none for FFh, ALL. -/
def ackTarget (v : Nat) : Option Nat := if v = 255 then none else some v

/-- ACK_ALARM (R49, R125); as a broadcast only with FFh (R31). -/
def execAckAlarm (m : Sender) (args : List Byte) (s : State) : Result :=
  let v := byteAt args 0
  .next (commandOrBroadcast 0x08 2 m (0x08 :: args) (decide (v ≤ 63 ∨ v = 255)) (v == 255)
    (fun s1 => { s1 with alarms := acknowledge (ackTarget v) s1.alarms }) s)

/-- The forcing a FORCE OUTPUT setting names: 0 OFF, 1 ON, 2 AUTO. -/
def forcingOf (v : Nat) : Option Bool := if v = 0 then some false else if v = 1 then some true else none

/-- R45: an output's forcing set, the output resolved at once. -/
def setOutputForcing (o : Nat) (f : Option Bool) (s : State) : State :=
  resolveOutputs { s with agent := { s.agent with outForce := s.agent.outForce.set o f } }

/-- FORCE_OUTPUT (R45). -/
def execForceOutput (m : Sender) (args : List Byte) (s : State) : Result :=
  .next (command 0x09 3 true m (0x09 :: args) (fun s1 =>
    if 6 < byteAt args 0 ∨ 2 < byteAt args 1 then .refuse .badValue s1
    else .done (setOutputForcing (byteAt args 0) (forcingOf (byteAt args 1)) s1)) s)

/-- R46: the shed forcing set, the effective shed level recomputed at once. -/
def setShedForcing (f : Option Nat) (s : State) : State := recomputeShed { s with agent := { s.agent with shedForce := f } }

/-- FORCE_SHED (R46), honoured when broadcast (R31). -/
def execForceShed (m : Sender) (args : List Byte) (s : State) : Result :=
  let v := byteAt args 0
  let good := decide (v ≤ 4 ∨ v = 255)
  .next (commandOrBroadcast 0x0A 2 m (0x0A :: args) good good (setShedForcing (if v = 255 then none else some v)) s)

/-- The mode of a PUMP MODE argument. -/
def modeOf (v : Nat) : Mode := if v = 0 then .off else if v = 1 then .normal else .boost

/-- R47: a channel's pump mode forcing set and the mode request handed. -/
def setPumpForcing (c : Channel) (md : Mode) (s : State) : State :=
  modeRequest c md { s with agent := { s.agent with pumpForce := s.agent.pumpForce.set c (some md) } }

/-- R47: the channels a PUMP MODE names, AB before BA. -/
def forcePumps (ch : Nat) (md : Mode) (s : State) : State :=
  if ch = 0 then setPumpForcing .ab md s
  else if ch = 1 then setPumpForcing .ba md s
  else setPumpForcing .ba md (setPumpForcing .ab md s)

/-- PUMP_MODE (R47), honoured when broadcast (R31). -/
def execPumpMode (m : Sender) (args : List Byte) (s : State) : Result :=
  let ch := byteAt args 0
  let md := byteAt args 1
  let good := decide (ch ≤ 2 ∧ md ≤ 2)
  .next (commandOrBroadcast 0x0B 3 m (0x0B :: args) good good (forcePumps ch (modeOf md)) s)

/-- R48: what a PULSE OUTPUT comes to. -/
def pulseBody (args : List Byte) (s : State) : Answer :=
  let o := byteAt args 0
  let d := halfAt args 1
  if s.tables.mgmt.remote = false then .refuse .disabled s
  else if 6 < o ∨ d < 100 ∨ 5000 < d then .refuse .badValue s
  else if (s.outputs.pulses.getD o none).isSome then .refuse .busy s
  else .done (startPulse o (millis d) s)

/-- PULSE_OUTPUT (R48). -/
def execPulseOutput (m : Sender) (args : List Byte) (s : State) : Result :=
  .next (command 0x0C 4 true m (0x0C :: args) (pulseBody args) s)

/-- REQUALIFY_SUPPLY (R50, R148). -/
def execRequalifySupply (m : Sender) (args : List Byte) (s : State) : Result :=
  .next (command 0x0D 1 true m (0x0D :: args) (fun s1 => .done (takeSupply (s1.supply.requalify s1.now) [] s1)) s)

/-- CHARGE_RESTART (R50, R152). -/
def execChargeRestart (m : Sender) (args : List Byte) (s : State) : Result :=
  .next (command 0x0E 1 true m (0x0E :: args) (fun s1 => .done (takeSupply s1.supply.restartCharge [] s1)) s)

/-- SET_LOCK (R44). -/
def execSetLock (m : Sender) (args : List Byte) (s : State) : Result :=
  .next (command 0x0F 1 true m (0x0F :: args) (fun s1 => .done { s1 with agent := { s1.agent with lock := true } }) s)

/-- R51, R163: what a STORE SETTINGS comes to: BUSY, or the store begun with its image built and no reply yet. -/
def storeBody (m : Sender) (s : State) : Answer :=
  if s.agent.store.isSome ∨ s.loader.autoload.isSome then .refuse .busy s
  else
    ⟨{ s with
        agent := { s.agent with store := some m },
        loader := { s.loader with store := some ⟨s.tables.image, 1, .writing⟩ } }, none⟩

/-- STORE_SETTINGS (R51). -/
def execStoreSettings (m : Sender) (args : List Byte) (s : State) : Result :=
  .next (command 0x10 1 true m (0x10 :: args) (storeBody m) s)

/-- R53: what a RESTART comes to: BUSY, or its DONE reply offered and restart-pending set; a reply its full queue rejects
makes the reset due at once. -/
def restartBody (m : Sender) (s : State) : Answer :=
  if s.agent.store.isSome ∨ s.loader.autoload.isSome then .refuse .busy s
  else
    let x := replyPort m
    ⟨{ s with
        ports := offer x false ⟨replyMessage s m 0x11 .done [], true⟩ s.ports,
        agent := { s.agent with restart := some ⟨x, decide (queueCap ≤ (s.at x).queue.length)⟩ } }, none⟩

/-- RESTART (R53). -/
def execRestart (m : Sender) (args : List Byte) (s : State) : Result :=
  .next (command 0x11 1 true m (0x11 :: args) (restartBody m) s)

/-- UNKNOWN_COMMAND (R30, tests 1 and 2). -/
def execUnknownCommand (m : Sender) (payload : List Byte) (s : State) : Result :=
  if namesNoCommand payload && m.cls == .mine then
    let h : Handed := ⟨.command, m, payload⟩
    .next (if s.ownAddr = 0 then dequeue h s else sendReply m (payload.headD 0) .unknown [] (takeManaged h s))
  else .refused .operandsOfAnotherRow

/-- R31: whether a COMMAND of class ALL is one of the three broadcasts and is executed here. -/
def broadcastExecutes (m : Sender) (payload : List Byte) (s : State) : Bool :=
  m.cls == .all &&
    ((byteAt payload 0 == 0x08 && byteAt payload 1 == 255 && broadcastRuns 2 m payload s) ||
      (byteAt payload 0 == 0x0A && (byteAt payload 1 ≤ 4 || byteAt payload 1 == 255) && broadcastRuns 2 m payload s) ||
      (byteAt payload 0 == 0x0B && byteAt payload 1 ≤ 2 && byteAt payload 2 ≤ 2 && broadcastRuns 3 m payload s))

/-- IGNORED_COMMAND (R31): nothing but the contact restart. -/
def execIgnoredCommand (m : Sender) (payload : List Byte) (s : State) : Result :=
  if m.cls = .mine then .refused .operandsOfAnotherRow
  else
    let h : Handed := ⟨.command, m, payload⟩
    .next (if broadcastExecutes m payload s then s else if s.ownAddr = 0 then dequeue h s else takeManaged h s)

/-- R38: the hut time set from a BEAT's head time, the one-second timer restarted. -/
def setTime (payload : List Byte) (s : State) : State :=
  if 4 ≤ payload.length then
    { s with
      agent := { s.agent with hutTime := BitVec.ofNat 32 (wordAt payload 0), timeSet := true, secondAt := s.now + seconds 1 } }
  else s

/-- BEAT (R38). -/
def execBeat (m : Sender) (payload : List Byte) (s : State) : Result :=
  .next (setTime payload (takeManaged ⟨.beat, m, payload⟩ s))

/-- R36: the hut becomes autonomous: every head forcing removed, each channel handed its stored mode. R36 gives no order among
the three: that the outputs come first, then the shed level, then the modes, AB before BA, is the model's choice (log entry
38). -/
def autonomy (s : State) : State :=
  let s1 := resolveOutputs { s with agent := { s.agent with outForce := List.replicate 7 none, pumpForce := ⟨none, none⟩ } }
  let s2 := setShedForcing none s1
  let s3 := modeRequest .ab s2.pumps.ab.inUse.storedMode s2
  modeRequest .ba s3.pumps.ba.inUse.storedMode s3

/-- R35: the expiry of a head's contact timer: the timer expired, the control side dropped if that head held it. -/
def contactExpiry (h : Side) (s : State) : State :=
  let s1 := setContacts (s.agent.contacts.set h none) s
  { s1 with agent := { s1.agent with control := if s1.agent.control = some h then none else s1.agent.control } }

/-- CONTACT_TIMER_EXPIRY (R35, R36). -/
def execContactTimerExpiry (h : Side) (s : State) : Result :=
  match s.agent.contacts.get h with
  | some t =>
    let s1 := contactExpiry h (s.reach t)
    .next (if contactCode s1.agent.contacts = 3 then autonomy s1 else s1)
  | none => .next s

/-- HUT_TIME_TICK (R38). -/
def execHutTimeTick (s : State) : Result :=
  let s1 := s.reach s.agent.secondAt
  .next { s1 with agent := { s1.agent with hutTime := s1.agent.hutTime + 1, secondAt := s1.agent.secondAt + seconds 1 } }

end Sys2Proof.Machine
end

