-- ==== Sys2Proof/Machine/ConditionOps.lean ====
section
/-! DEFINITION. The Condition Engine's pass and table write (chapter 6). -/

namespace Sys2Proof.Machine

/-- One entry's part of a pass: its index, its entry, the record it read, its new run, and its transition. -/
structure Visit where
  index : Nat
  entry : Condition
  point : Point
  run : CondRun
  turn : Turn
  deriving DecidableEq, Repr

/-- The Condition Table entry of an index. -/
def Tables.condition (t : Tables) (i : Nat) : Condition := t.conds.getD i builtinUnused

/-- The run of an entry. -/
def Engine.run (e : Engine) (i : Nat) : CondRun := e.runs.getD i ⟨.idle, 0⟩

/-- R108, step 1: the visit of entry `i` on the records as they stand at the pass. -/
def visit (s : State) (i : Nat) : Visit :=
  let c := s.tables.condition i
  let r := passRow c (s.engine.run i) (s.point c.point)
  ⟨i, c, s.point c.point, r.1, r.2⟩

/-- R108, step 1: every entry, in index order. -/
def visits (s : State) : List Visit := (List.range 64).map (visit s)

/-- R110: whether a suppressor is present, from the run states after step 1 and the records of the pass. -/
def present (s : State) (vs : List Visit) : Suppressor → Bool
  | .none => false
  | .condition n => ((vs.map Visit.run).getD n ⟨.idle, 0⟩).stands
  | .ufm .a => (s.point 34).value == 1
  | .ufm .b => (s.point 35).value == 1
  | .lost .a => (s.point 32).value == 2
  | .lost .b => (s.point 33).value == 2

/-- R108, step 3: the report of one visit taken by the Alarm Reporter. -/
def takeVisit (suppressed : Bool) (v : Visit) (s : State) : State :=
  match v.turn with
  | .raises => takeRaise ⟨v.index, v.entry, v.point.value, suppressed⟩ s
  | .clears => takeClear v.index v.point.value s
  | .none => s

/-- The reports of a pass in index order; `base` is the state the pass reads. -/
def takeReports (base : State) (all : List Visit) : List Visit → State → State
  | [], s => s
  | v :: l, s => takeReports base all l (takeVisit (present base all v.entry.suppressor) v s)

/-- R108, step 4: the pulse request of one visit. -/
def pulseOf (v : Visit) (s : State) : State :=
  match v.turn, v.entry.action with
  | .raises, .pulse o => pulseRequest o s
  | _, _ => s

/-- The pulse requests of a pass in index order. -/
def takePulses : List Visit → State → State
  | [], s => s
  | v :: l, s => takePulses l (pulseOf v s)

/-- R108, step 6: the suppressed states of the standing entries handed, in index order. -/
def takeSuppressions (base : State) (all : List Visit) : List Visit → State → State
  | [], s => s
  | v :: l, s =>
    takeSuppressions base all l
      (if v.run.stands then takeSuppression v.index (present base all v.entry.suppressor) s else s)

/-- R108: a pass, taken whole. -/
def takePass (s : State) : State :=
  let vs := visits s
  let s1 := { s with engine := { s.engine with runs := vs.map Visit.run } }
  takeSuppressions s vs vs (handOutputs (takePulses vs (takeReports s vs vs s1)))

/-- R108: the pass timer's expiry at `t` taken: the clock at it, the next pass 100 ms later. -/
def passDue (t : Nat) (s : State) : State :=
  let s1 := s.reach t
  { s1 with engine := { s1.engine with passAt := some (t + millis 100) } }

/-- R100: an accepted write of entry `i`. -/
def takeConditionWrite (i : Nat) (c : Condition) (s : State) : State :=
  let latched := (entryOf i s.alarms).any (fun e => e.status == .cleared)
  let s1 := if (s.engine.run i).stands || latched then takeReconfigure i s else s
  handOutputs
    { s1 with
      tables := { s1.tables with conds := s1.tables.conds.set i c },
      engine := { s1.engine with runs := s1.engine.runs.set i (startRun c) } }

end Sys2Proof.Machine
end

