-- ==== Sys2Proof/Machine/Conditions.lean ====
section
/-! DEFINITION. The events of the Condition Engine (chapter 6): the pass, and the two of its transitions that have a row of
their own (log entry 6). -/

namespace Sys2Proof.Machine

/-- PASS (R108). -/
def execPass (s : State) : Result :=
  match s.engine.passAt with
  | some t => .next (takePass (passDue t s))
  | none => .next s

/-- QUALIFY_SET_REACHED (R102): the pass at which entry `i` raises. -/
def execQualifySetReached (i : Fin 64) (s : State) : Result :=
  match s.engine.passAt with
  | some t => .next (if (visit s i).turn = .raises then takePass (passDue t s) else s)
  | none => .next s

/-- QUALIFY_CLEAR_REACHED (R102): the pass at which entry `i` clears. -/
def execQualifyClearReached (i : Fin 64) (s : State) : Result :=
  match s.engine.passAt with
  | some t => .next (if (visit s i).turn = .clears then takePass (passDue t s) else s)
  | none => .next s

end Sys2Proof.Machine
end

