-- ==== Sys2Proof/Machine/Line.lean ====
section
/-! DEFINITION. The events of the line ports (chapter 1): transmit, receive, the error window. -/

namespace Sys2Proof.Machine

/-- TRANSMIT_EVENT (R22 to R25). -/
def execTransmitEvent (p : Side) (s : State) : Result := .next (transmit p (s.reach (s.at p).transmitAt))

/-- SYNC_PATTERN_FOUND (R6): a receiver in HUNT searching at or before the position goes to CONFIRM and holds it. -/
def execSyncPatternFound (p : Side) (pos : Nat) (b0 b1 b2 : Byte) (s : State) : Result :=
  if isSync b0 b1 b2 then
    .next (if (s.at p).sync = .hunt ∧ (s.at p).pos ≤ pos then s.setPort p { s.at p with sync := .confirm, pos := pos } else s)
  else .refused .operandsOfAnotherRow

/-- R6: the compare of a receiver in CONFIRM with the three bytes at position p + 384. -/
def LinePort.confirm (found : Bool) (q : LinePort) : LinePort :=
  if found then { q with sync := .sync, missed := 0, pos := q.pos + frameLength } else { q with sync := .hunt, pos := q.pos + 1 }

/-- R6, R9: the compare taken; when the receiver enters SYNC the line state is re-evaluated. -/
def takeConfirm (p : Side) (found : Bool) (s : State) : State :=
  let s1 := s.setPort p ((s.at p).confirm found)
  if found then reactBoth s (reevaluate p s1) else s1

/-- CONFIRM_CHECK (R6). -/
def execConfirmCheck (p : Side) (b0 b1 b2 : Byte) (s : State) : Result :=
  .next (if (s.at p).sync = .confirm then takeConfirm p (isSync b0 b1 b2) s else s)

/-- MISSED_SYNC (R7). -/
def execMissedSync (p : Side) (b0 b1 b2 : Byte) (s : State) : Result :=
  if isSync b0 b1 b2 then .refused .operandsOfAnotherRow
  else .next (if (s.at p).sync = .sync then takeMiss p s else s)

/-- LOSS_OF_SYNC (R7): the miss that brings the missed-sync count to 3. -/
def execLossOfSync (p : Side) (b0 b1 b2 : Byte) (s : State) : Result :=
  if isSync b0 b1 b2 then .refused .operandsOfAnotherRow
  else .next (if (s.at p).sync = .sync ∧ (s.at p).missed + 1 = 3 then takeMiss p s else s)

/-- R8: a frame with good sync and bad CRC: counted in the window, nothing else recorded. -/
def LinePort.errored (q : LinePort) : LinePort :=
  { q with window := countUp windowCap q.window, missed := 0, pos := q.pos + frameLength }

/-- ERRORED_FRAME (R8). -/
def execErroredFrame (p : Side) (frame : List Byte) (s : State) : Result :=
  if badCrcFrame frame then .next (if (s.at p).sync = .sync then s.setPort p (s.at p).errored else s)
  else .refused .operandsOfAnotherRow

/-- GOOD_FRAME_ARRIVAL (R11, R12). -/
def execGoodFrameArrival (p : Side) (frame : List Byte) (s : State) : Result :=
  if goodFrame frame then .next (if (s.at p).sync = .sync then takeFrame p frame s else s)
  else .refused .operandsOfAnotherRow

/-- RFM_RUN_COUNT_REACHED (R136): the good frame carrying RFM that brings the port's run count to 3. -/
def execRfmRunCountReached (p : Side) (frame : List Byte) (s : State) : Result :=
  if goodFrame frame && (frameHeader frame).rfm then
    .next (if (s.at p).sync = .sync ∧ (s.at p).rfmRun + 1 = 3 then takeFrame p frame s else s)
  else .refused .operandsOfAnotherRow

/-- The errored-frames point of a side: 30 or 31. -/
def windowPoint : Side → Nat
  | .a => 30
  | .b => 31

/-- R9: the end of a window. -/
def LinePort.endWindow (q : LinePort) : LinePort :=
  { q with lastWindow := q.window, window := 0, windowAt := q.windowAt + seconds 1 }

/-- WINDOW_TIMER_EXPIRY (R9). -/
def execWindowTimerExpiry (p : Side) (s : State) : Result :=
  let s1 := s.reach (s.at p).windowAt
  let s2 := writePoint (windowPoint p) (s1.at p).window .valid (s1.setPort p (s1.at p).endWindow)
  .next (reactBoth s (reevaluate p s2))

end Sys2Proof.Machine
end

