-- ==== Sys2Proof/Machine/PointEvents.lean ====
section
/-! DEFINITION. The Point Table's own events (chapter 5): ages, staleness, launch expiry, the discrete inputs. -/

namespace Sys2Proof.Machine

/-- R86: one expiry of the age timer. -/
def PointTable.older (p : PointTable) : PointTable :=
  { p with recs := p.recs.map (fun r => { r with age := countUp 255 r.age }), ageAt := p.ageAt + millis 100 }

/-- AGE_TIMER_EXPIRY (R86). -/
def execAgeTimerExpiry (s : State) : Result :=
  let s1 := s.reach s.points.ageAt
  .next { s1 with points := s1.points.older }

/-- R88: a point gone stale: INVALID, its value and age kept, its deadline removed. -/
def PointTable.stale (i : Nat) (p : PointTable) : PointTable :=
  { p with
    recs := p.recs.set i { p.recs.getD i unwritten with validity := .invalid },
    deadlines := p.deadlines.set i none }

/-- STALENESS_DEADLINE (R88). -/
def execStalenessDeadline (i : Fin 28) (s : State) : Result :=
  match s.points.deadlines.getD i none with
  | some t =>
    let s1 := s.reach t
    .next (afterUpdate i { s1 with points := s1.points.stale i })
  | none => .next s

/-- R89: how long a launch record is fresh. -/
def launchLife : Nat := seconds 2

/-- LAUNCH_EXPIRY (R89). -/
def execLaunchExpiry (p : Side) (s : State) : Result :=
  match s.points.launch.get p with
  | some l =>
    if l.expired then .next s
    else
      let s1 := s.reach (l.arrivedAt + launchLife)
      .next (spanLoss p
        { s1 with points := { s1.points with launch := s1.points.launch.set p (some { l with expired := true }) } })
  | none => .next s

/-- The discrete input of a number. -/
def PointTable.input (p : PointTable) (i : Nat) : Input := p.inputs.getD i ⟨false, false, none⟩

/-- A discrete input replaced. -/
def State.setInput (i : Nat) (n : Input) (s : State) : State :=
  { s with points := { s.points with inputs := s.points.inputs.set i n } }

/-- R94: how long an input must hold. -/
def debounceTime : Nat := millis 50

/-- INPUT_RAW_CHANGE (R94). -/
def execInputRawChange (i : Fin 8) (level : Bool) (s : State) : Result :=
  let n := s.points.input i
  .next (if level = n.raw then s else s.setInput i { n with raw := level, timer := some (s.now + debounceTime) })

/-- R95: the sum of 2 to the power of each input whose debounced level is high; `k` is the first input's number. -/
def inputSum : Nat → List Input → Nat
  | _, [] => 0
  | k, n :: l => bit n.debounced * 2 ^ k + inputSum (k + 1) l

/-- R94: the expiry of an input's debounce timer. -/
def debounce (i : Nat) (s : State) : State :=
  let n := s.points.input i
  if n.raw = n.debounced then s.setInput i { n with timer := none }
  else
    let s1 := s.setInput i { n with timer := none, debounced := n.raw }
    writePoint 44 (inputSum 0 s1.points.inputs) .valid s1

/-- DEBOUNCE_TIMER_EXPIRY (R94, R95). -/
def execDebounceTimerExpiry (i : Fin 8) (s : State) : Result :=
  match (s.points.input i).timer with
  | some t => .next (debounce i (s.reach t))
  | none => .next s

end Sys2Proof.Machine
end

