-- ==== Sys2Proof/Machine/PollEvents.lean ====
section
/-! DEFINITION. The events of the Sensor Poll Unit (chapter 4). -/

namespace Sys2Proof.Machine

/-- STARTUP_PULSES_DONE (R84). -/
def execStartupPulsesDone (s : State) : Result :=
  match s.poll.op with
  | some op => .next (if op.kind = .startup then takeStartup s else s)
  | none => .next s

/-- R79, R83: the completion of a read transaction with its data bits; the result of a marked one is thrown away. -/
def readDone (op : BusOp) (bits : List Bool) (s : State) : State :=
  let s1 := { s with poll := s.poll.freed op.entry.busRead.signals }
  takeGrant (if op.discard then s1 else readSuccess op.index op.entry bits s1)

/-- TRANSACTION_SUCCESS (R79): of a read in flight, with the bits of as many data bytes as its entry's data length. -/
def execTransactionSuccess (bits : List Bool) (s : State) : Result :=
  match s.poll.op with
  | some op => .next (if op.kind = .read ∧ bits.length = 8 * op.entry.length then readDone op bits s else s)
  | none => .next s

/-- R80, R83: the failure of a read transaction. -/
def readLost (op : BusOp) (f : ReadFailure) (s : State) : State :=
  let s1 := { s with poll := s.poll.freed (op.entry.busRead.failed f) }
  takeGrant (if op.discard then s1 else readFailed op.index op.entry s1)

/-- TRANSACTION_FAILURE (R75, R80): of a read in flight that can fail so with the bits it sends (R74); else it is no event of
that read and changes nothing (log entry 3). -/
def execTransactionFailure (f : ReadFailure) (s : State) : Result :=
  if f.inPhase then
    match s.poll.op with
    | some op => .next (if op.kind = .read ∧ op.entry.busRead.mayFail f = true then readLost op f s else s)
    | none => .next s
  else .refused .operandsOfAnotherRow

/-- NEXT_DUE_TIME (R77): of an entry IDLE or FAILED with a next-due time. -/
def execNextDueTime (i : Fin 12) (s : State) : Result :=
  match (s.poll.run i).state, (s.poll.run i).time with
  | .idle, some t => .next (becomeDue i (s.reach t))
  | .failed, some t => .next (becomeDue i (s.reach t))
  | _, _ => .next s

/-- RETRY_TIME (R80): of an entry in WAITING_RETRY. -/
def execRetryTime (i : Fin 12) (s : State) : Result :=
  match (s.poll.run i).state, (s.poll.run i).time with
  | .waitingRetry, some t => .next (becomeDue i (s.reach t))
  | _, _ => .next s

/-- BUS_FAULT (R81): the watch runs from the end of the nine start-up pulses in bus states IDLE and BUSY. -/
def execBusFault (s : State) : Result :=
  .next (if s.poll.watch = true ∧ s.poll.bus ≠ .fault then takeBusFault s else s)

/-- RECOVERY_COMPLETE (R82, R83). -/
def execRecoveryComplete (clockHigh dataHigh : Bool) (s : State) : Result :=
  match s.poll.op with
  | some op => .next (if op.kind = .recovery then takeRecovery op (clockHigh && dataHigh) s else s)
  | none => .next s

end Sys2Proof.Machine
end

