-- ==== Sys2Proof/Machine/SerialPort.lean ====
section
/-! DEFINITION. The serial side of the Control Port, clock by clock (R143, R145): the selects, the one shift register that
gives the word out and takes the reply in. -/

namespace Sys2Proof.Machine

/-- R143, R145: the device whose select is asserted: from a transfer's start to its completion or a reset. -/
def ControlPort.selected (p : ControlPort) : Option Device := p.transfer.map Transfer.device

/-- R143: one clock of the shift register: it presents its most significant bit, and the bit sampled comes in behind the
others. -/
def shiftClock (r : BitVec 16) (sampled : Bool) : BitVec 16 := (r.setWidth 15).concat sampled

/-- R143: what the shift register holds after a clock for each of these sampled bits. -/
def shiftIn (r : BitVec 16) (reply : List Bool) : BitVec 16 := reply.foldl shiftClock r

/-- R143: the clocks of a transfer: at each the bit presented and the bit sampled. -/
def clockSignals (r : BitVec 16) : List Bool → List PortSignal
  | [] => []
  | b :: l => .clock r.msb b :: clockSignals (shiftClock r b) l

/-- R143: a whole transfer: the device's select asserted, its clocks, the select released. -/
def Transfer.signals (x : Transfer) (reply : List Bool) : List PortSignal :=
  [.assertSelect x.device] ++ clockSignals x.word reply ++ [.releaseSelect x.device]

end Sys2Proof.Machine
end

