-- ==== Sys2Proof/Machine/Pumps.lean ====
section
/-! DEFINITION. The events of Pump Control and the Control Port (chapter 8). -/

namespace Sys2Proof.Machine

/-- The pump channel of a state. -/
def State.pump (s : State) (c : Channel) : Pump := s.pumps.get c

/-- START_TIMER_EXPIRY (R134). -/
def execStartTimerExpiry (c : Channel) (s : State) : Result :=
  match (s.pump c).startAt with
  | some t =>
    let s1 := s.reach t
    .next (applyPump c ((s1.pump c).startExpiry s1.now (trigger s1 c)) s1)
  | none => .next s

/-- RAMP_TIMER_EXPIRY (R135). -/
def execRampTimerExpiry (c : Channel) (s : State) : Result :=
  match (s.pump c).rampAt with
  | some t => .next (applyPump c ((s.pump c).rampStep t) (s.reach t))
  | none => .next s

/-- PROBE_TIMER_EXPIRY (R138). -/
def execProbeTimerExpiry (c : Channel) (s : State) : Result :=
  match (s.pump c).probeAt with
  | some t =>
    let s1 := s.reach t
    .next (applyPump c ((s1.pump c).probeExpiry s1.now) s1)
  | none => .next s

/-- PROBE_DURATION_EXPIRY (R138). -/
def execProbeDurationExpiry (c : Channel) (s : State) : Result :=
  match (s.pump c).durationAt with
  | some t =>
    let s1 := s.reach t
    .next (applyPump c ((s1.pump c).probeEnd s1.now (trigger s1 c)) s1)
  | none => .next s

/-- STATUS_READ_TIMER_EXPIRY (R141). -/
def execStatusReadTimerExpiry (c : Channel) (s : State) : Result :=
  match (s.pump c).statusAt with
  | some t => .next (applyPump c ((s.pump c).statusRead t) (s.reach t))
  | none => .next s

/-- R141, R152: what the owner of a device does with a reply word: its fault bit, bit 15, alone counts. -/
def takeReply (d : Device) (reply : BitVec 16) (s : State) : State :=
  if reply.msb then
    match d with
    | .pumpAB => applyPump .ab (s.pump .ab).driverFault s
    | .pumpBA => applyPump .ba (s.pump .ba).driverFault s
    | .charger => takeSupply s.supply.chargerFault [] s
  else s

/-- R145: the end of a transfer in which the part did this on the port: the port is free and the next word is chosen. -/
def endTransfer (driven : List PortSignal) (s : State) : State :=
  { s with port := ControlPort.arbitrate s.now ⟨s.port.words, none, driven⟩ }

/-- TRANSFER_COMPLETE (R143, R145), with the 16 bits the device drove on data in, in order: the owner takes the reply word
they make in the shift register, then the next transfer starts (log entry 35). -/
def execTransferComplete (reply : Vector Bool 16) (s : State) : Result :=
  match s.port.transfer with
  | some x =>
    .next (endTransfer (x.signals reply.toList)
      (takeReply x.device (shiftIn x.word reply.toList) (s.reach x.doneAt)))
  | none => .next s

end Sys2Proof.Machine
end

