-- ==== Sys2Proof/Machine/Reading.lean ====
section
/-! DEFINITION. The open commands and the control side (chapter 2): IDENTIFY, CLAIM, RELEASE, the reads. -/

namespace Sys2Proof.Machine

/-- R39: the 26-byte result of IDENTIFY for a reply on side `x`. -/
def identity (s : State) (x : Side) : List Byte :=
  bytes16 0x2460 ++ [0x01, s.ownAddr, byteOf s.loader.source.code, byteOf (bit s.agent.lock), byteOf (controlCode s.agent.control),
    byteOf (contactCode s.agent.contacts)] ++ bytes16 ((s.at x).frameNumber - 1).toNat ++
    bytes16 s.ports.a.hopExpired ++ bytes16 s.ports.b.hopExpired ++ bytes16 s.ports.a.malformed ++ bytes16 s.ports.b.malformed ++
    bytes16 s.ports.a.slip ++ bytes16 s.ports.b.slip ++
    [byteOf s.ports.a.alertsLost, byteOf s.ports.b.alertsLost, byteOf s.ports.a.replyLost, byteOf s.ports.b.replyLost]

/-- IDENTIFY (R39). -/
def execIdentify (m : Sender) (args : List Byte) (s : State) : Result :=
  .next (command 0x01 1 false m (0x01 :: args) (fun s1 => ⟨s1, some (.done, identity s1 (replyPort m))⟩) s)

/-- R32: what a CLAIM comes to. -/
def claimBody (m : Sender) (s : State) : Answer :=
  match headOf m.source with
  | none => ⟨s, some (.notController, [byteOf (controlCode s.agent.control)])⟩
  | some h =>
    if s.agent.control = none ∨ s.agent.control = some h then
      ⟨{ s with agent := { s.agent with control := some h } }, some (.done, [byteOf (controlCode (some h))])⟩
    else ⟨s, some (.notController, [byteOf (controlCode s.agent.control)])⟩

/-- CLAIM (R32). -/
def execClaim (m : Sender) (args : List Byte) (s : State) : Result :=
  .next (command 0x02 1 false m (0x02 :: args) (claimBody m) s)

/-- R33: what a RELEASE comes to. -/
def releaseBody (m : Sender) (s : State) : Answer :=
  let s1 := if holdsControl m s then { s with agent := { s.agent with control := none } } else s
  ⟨s1, some (.done, [byteOf (controlCode s1.agent.control)])⟩

/-- RELEASE (R33). -/
def execRelease (m : Sender) (args : List Byte) (s : State) : Result :=
  .next (command 0x03 1 false m (0x03 :: args) (releaseBody m) s)

/-- DONE when all asked for is returned, PARTIAL when less is. -/
def readStatus (asked returned : Nat) : Status := if returned = asked then .done else .partially

/-- R40: what a READ ENTRY comes to. -/
def readEntryBody (args : List Byte) (s : State) : Answer :=
  let id := byteAt args 0
  let i := byteAt args 1
  let count := byteAt args 2
  if count = 0 ∨ 4 < count then .refuse .badValue s
  else if id = 0 ∨ 12 < id then .refuse .badTable s
  else if entryCount id ≤ i then .refuse .badIndex s
  else
    let n := min count (min (entryCount id - i) (59 / entrySize id))
    ⟨s, some (readStatus count n, [byteOf id, byteOf i, byteOf n] ++ (((s.tables.entryBytes id).drop i).take n).flatten)⟩

/-- READ_ENTRY (R40). -/
def execReadEntry (m : Sender) (args : List Byte) (s : State) : Result :=
  .next (command 0x04 4 false m (0x04 :: args) (readEntryBody args) s)

/-- The bytes of a point in a READ POINTS reply: value, validity, age (1.3.2). -/
def Point.bytes (p : Point) : List Byte := bytesSigned p.value ++ [byteOf p.validity.code, byteOf p.age]

/-- R41: what a READ POINTS comes to. -/
def readPointsBody (args : List Byte) (s : State) : Answer :=
  let first := byteAt args 0
  let count := byteAt args 1
  if count = 0 ∨ 12 < count then .refuse .badValue s
  else if 45 < first then .refuse .badIndex s
  else
    let n := min count (46 - first)
    ⟨s, some (readStatus count n, [byteOf first, byteOf n] ++ ((s.points.recs.drop first).take n).flatMap Point.bytes)⟩

/-- READ_POINTS (R41). -/
def execReadPoints (m : Sender) (args : List Byte) (s : State) : Result :=
  .next (command 0x06 3 false m (0x06 :: args) (readPointsBody args) s)

/-- R42: what a READ STANDING comes to. -/
def readStandingBody (args : List Byte) (s : State) : Answer :=
  let start := byteAt args 0
  let got := (s.alarms.drop start).take 4
  let more := bit (decide (start + got.length < s.alarms.length))
  ⟨s, some (.done, [byteOf start, byteOf got.length, byteOf more] ++ got.flatMap Standing.bytes)⟩

/-- READ_STANDING (R42). -/
def execReadStanding (m : Sender) (args : List Byte) (s : State) : Result :=
  .next (command 0x07 2 false m (0x07 :: args) (readStandingBody args) s)

end Sys2Proof.Machine
end

