-- ==== Sys2Proof/Machine/SamplingEvents.lean ====
section
/-! DEFINITION. The events of the Sampling Unit (chapter 3), and the brown-out event it hands the Supply Manager (R71,
R154). -/

namespace Sys2Proof.Machine

/-- R58: a period start due at `t`: the next one a scan period later, a scan begun unless one is in progress. -/
def periodStart (t : Nat) (s : State) : State :=
  let s1 := s.reach t
  let u := { s1.sampling with periodAt := some (t + millis s1.tables.scan.period) }
  { s1 with sampling := if u.conversion.isSome then u else startScan s1.now u }

/-- SCAN_PERIOD_START (R58). -/
def execScanPeriodStart (s : State) : Result :=
  match s.sampling.periodAt with
  | some t => .next (periodStart t s)
  | none => .next s

/-- CONVERSION_EVENT (R59, R62). -/
def execConversionEvent (code : BitVec 12) (s : State) : Result :=
  match s.sampling.conversion with
  | some k => .next (conversionDone k.slot code.toNat (s.reach k.doneAt))
  | none => .next s

/-- R154: the brown-out hold set to 4 at the event, the effective shed level recomputed. -/
def takeBrownOut (s : State) : State := recomputeShed { s with supply := { s.supply with brownHold := 4 } }

/-- BROWN_OUT_EVENT (R71, R154): the event handed with the sample `v` leaves the handed events when it stands first there
(log entry 8). -/
def execBrownOutEvent (v : Int) (s : State) : Result :=
  .next (takeBrownOut
    (match s.brownOuts with
     | x :: l => if x = v then { s with brownOuts := l } else s
     | [] => s))

end Sys2Proof.Machine
end

