-- ==== Sys2Proof/Machine/Settings.lean ====
section
/-! DEFINITION. The events of the Settings Loader (chapter 10): the address retries, the end and the deadline of an
autoload, the page writes and the read-back of a store. -/

namespace Sys2Proof.Machine

/-- R161, check 1: the most address retries of an autoload, one a millisecond; the one at 10 ms is the last (log entry 19). -/
def retryCap : Nat := 10

/-- R161, check 1: one address retry due at `t` of autoload `l`: acknowledged, it goes on as the read of the image; else a stop
ends it and no read runs. -/
def addressRetry (l : Autoload) (t : Nat) (acknowledged : Bool) (s : State) : State :=
  if acknowledged then
    { s with
      loader := { s.loader with
        autoload := some { l with retries := l.retries + 1, retryAt := none, readAt := some s.now } } }
  else
    let s1 := s.drove addressSignals
    if retryCap ≤ l.retries + 1 then endAutoload l.afterRestart none s1
    else
      { s1 with
        loader := { s1.loader with
          autoload := some { l with retries := l.retries + 1, retryAt := some (t + millis 1), readAt := none } } }

/-- AUTOLOAD_ADDRESS_RETRY (R161). -/
def execAutoloadAddressRetry (acknowledged : Bool) (s : State) : Result :=
  match s.loader.autoload with
  | some l =>
    match l.retryAt with
    | some t => .next (addressRetry l t acknowledged (s.reach t))
    | none => .next s
  | none => .next s

/-- AUTOLOAD_READ_DONE (R161, R162). That it ends an autoload also while no read runs (`readAt` none: the last retry was not
acknowledged), as the end of an attempt whose acknowledge had no command of its own, is the model's choice (log entry 47). -/
def execAutoloadReadDone (r : EepromRead) (s : State) : Result :=
  if r.afterAddress then
    match s.loader.autoload with
    | some l => .next (endAutoload l.afterRestart (autoloaded s.eeprom r) (s.drove (imageSignals r)))
    | none => .next s
  else .refused .operandsOfAnotherRow

/-- AUTOLOAD_DEADLINE (R161): a read not done within 100 ms of the reset is abandoned as a failure. -/
def execAutoloadDeadline (s : State) : Result :=
  match s.loader.autoload with
  | some l => .next (endAutoload l.afterRestart none (s.reach l.deadline))
  | none => .next s

/-- The store in progress replaced. -/
def State.setStore (st : Store) (s : State) : State := { s with loader := { s.loader with store := some st } }

/-- R163: the loader addresses the EEPROM once every 0.5 ms after a page write's stop. -/
def pollEvery : Nat := 500

/-- R163: the signal of a page write on which its first data byte, the fourth byte, is acknowledged. -/
def firstDataAcknowledge : Nat := 1 + 9 * 3 + 8

/-- R163, R164: the end of a page write transaction: the write cycle is polled, or the store has failed, with the page in
doubt when a data byte (the fourth byte on) had been acknowledged. That a lost data line (R74, R75, R161) fails the store,
and leaves the page as a cut of its write does, is the model's reading: R164 does not name it (log entry 46). -/
def pageWritten (st : Store) (r : PageWrite) (s : State) : State :=
  let s1 := s.drove (pageSignals st r)
  match r with
  | .acknowledged => s1.setStore { st with phase := .cycle (s.now + pollEvery) (s.now + millis 10) }
  | .refusedAt k => if k.val ≤ 3 then endStore false s1 else endStore false (spoil st.step s1)
  | .lostDataLine n => if n ≤ firstDataAcknowledge then endStore false s1 else endStore false (cutPage st.step s1)

/-- R74: whether a page write can end so: a data line is lost where the part reads it back. -/
def pageMayEnd (st : Store) : PageWrite → Bool
  | .acknowledged | .refusedAt _ => true
  | .lostDataLine n => readsBackAt (stepSignals st) n

/-- PAGE_WRITE_DONE (R163, R164): of the page write being sent, as it can end (log entry 3). -/
def execPageWriteDone (r : PageWrite) (s : State) : Result :=
  match s.loader.store with
  | some st =>
    match st.phase with
    | .writing => .next (if pageMayEnd st r then pageWritten st r s else s)
    | .cycle _ _ | .readBack => .next s
  | none => .next s

/-- R163: the end of an address due at `t` that polls a write cycle with timeout `d`: the first acknowledge ends the cycle;
anything else is answered by the next address. That a lost data line is no acknowledge and no failure of the store is the
model's reading (log entry 46). -/
def addressPolled (st : Store) (t d : Nat) (r : AddressPoll) (s : State) : State :=
  match r with
  | .acknowledged => commitStep st s
  | .notAcknowledged | .lostDataLine _ => s.setStore { st with phase := .cycle (t + pollEvery) d }

/-- R74: whether an address of the EEPROM can end so: a data line is lost where the part reads it back. -/
def pollMayEnd : AddressPoll → Bool
  | .acknowledged | .notAcknowledged => true
  | .lostDataLine n => readsBackAt addressSignals n

/-- PAGE_ACK_POLL (R163): of the write cycle being polled, as an address can end (log entry 3). -/
def execPageAckPoll (r : AddressPoll) (s : State) : Result :=
  match s.loader.store with
  | some st =>
    match st.phase with
    | .cycle t d => .next (if pollMayEnd r then addressPolled st t d r ((s.reach t).drove (pollSignals r)) else s)
    | .writing | .readBack => .next s
  | none => .next s

/-- PAGE_WRITE_TIMEOUT (R164): no acknowledge within 10 ms of the stop. -/
def execPageWriteTimeout (s : State) : Result :=
  match s.loader.store with
  | some st =>
    match st.phase with
    | .cycle _ d => .next (endStore false (spoil st.step (s.reach d)))
    | .writing | .readBack => .next s
  | none => .next s

/-- R164: the end of the read-back: success exactly when every byte read equals the buffer's; else the content is in
doubt. -/
def readBack (st : Store) (r : EepromRead) (s : State) : State :=
  let s1 := s.drove (imageSignals r)
  if imageRead s.eeprom r = some st.buffer then endStore true s1 else endStore false (doubtContent s1)

/-- READ_BACK_DONE (R164). -/
def execReadBackDone (r : EepromRead) (s : State) : Result :=
  if r.inPhase then
    match s.loader.store with
    | some st =>
      match st.phase with
      | .readBack => .next (readBack st r s)
      | .writing | .cycle _ _ => .next s
    | none => .next s
  else .refused .operandsOfAnotherRow

end Sys2Proof.Machine
end

