-- ==== Sys2Proof/Machine/SupplyEvents.lean ====
section
/-! DEFINITION. The events of the Supply Manager and the Output Resolver (chapter 9). -/

namespace Sys2Proof.Machine

/-- SUPPLY_CHECK (R147). -/
def execSupplyCheck (s : State) : Result :=
  match s.supply.checkAt with
  | some t => .next (checkSupply (checkDue t s))
  | none => .next s

/-- R150: whether a check on this point 10 brings the no-sag count to 60. -/
def Supply.noSagReached (p10 : Point) (u : Supply) : Bool :=
  u.pv == .qualified && p10.usable && decide (u.inUse.presence ≤ p10.value) && decide (u.hold ≤ p10.value) &&
    decide (u.noSag + 1 = 60)

/-- NO_SAG_COUNT_REACHED (R150): the supply check that brings the no-sag count to 60 (log entry 6). -/
def execNoSagCountReached (s : State) : Result :=
  match s.supply.checkAt with
  | some t => .next (if s.supply.noSagReached (s.point 10) then checkSupply (checkDue t s) else s)
  | none => .next s

/-- BULK_TIMER_EXPIRY (R152, R153): the supply check at which the bulk timer expires (log entry 6). -/
def execBulkTimerExpiry (s : State) : Result :=
  match s.supply.checkAt with
  | some t =>
    let s1 := checkDue t s
    .next (if s1.supplyBeforeStage.bulkExpires (s1.point 8) then checkSupply s1 else s)
  | none => .next s

/-- ABSORB_TIMER_EXPIRY (R152, R153): the supply check at which the absorb timer expires (log entry 6). -/
def execAbsorbTimerExpiry (s : State) : Result :=
  match s.supply.checkAt with
  | some t =>
    let s1 := checkDue t s
    .next (if s1.supplyBeforeStage.absorbExpires (s1.point 9) then checkSupply s1 else s)
  | none => .next s

/-- SETTLE_TIMER_EXPIRY (R148). -/
def execSettleTimerExpiry (s : State) : Result :=
  match s.supply.settleAt with
  | some t =>
    let s1 := s.reach t
    .next (takeSupply (s1.supply.settleExpiry s1.now (s1.point 10)) [] s1)
  | none => .next s

/-- TEST_TIMER_EXPIRY (R149). -/
def execTestTimerExpiry (s : State) : Result :=
  match s.supply.testAt with
  | some t =>
    let s1 := s.reach t
    .next (takeSupply (s1.supply.testExpiry s1.now (s1.point 10)) [] s1)
  | none => .next s

/-- RETRY_TIMER_EXPIRY (R148). -/
def execRetryTimerExpiry (s : State) : Result :=
  match s.supply.retryAt with
  | some t =>
    let s1 := s.reach t
    .next (takeSupply (s1.supply.toSettling s1.now) [] s1)
  | none => .next s

/-- R158: a pulse removed, the outputs resolved afresh. -/
def endPulse (o : Nat) (s : State) : State :=
  resolveOutputs { s with outputs := { s.outputs with pulses := s.outputs.pulses.set o none } }

/-- PULSE_END (R158). -/
def execPulseEnd (o : Fin 7) (s : State) : Result :=
  match s.outputs.pulses.getD o none with
  | some p => .next (endPulse o (s.reach p.endAt))
  | none => .next s

end Sys2Proof.Machine
end

