-- ==== Sys2Proof/Machine/Writing.lean ====
section
/-! DEFINITION. WRITE ENTRY to each table (R43), with the owning block's taking of the entry. -/

namespace Sys2Proof.Machine

/-- R15: the Relay Engine takes a Message Action entry. -/
def ownAction (i : Nat) (e : List Byte) (s : State) : Option State :=
  (readAction i e).map (fun v => { s with tables := { s.tables with actions := s.tables.actions.set i v } })

/-- WRITE_MESSAGE_ACTION (R15). -/
def execWriteMessageAction (m : Sender) (args : List Byte) (s : State) : Result := .next (writeEntry 1 m args ownAction s)

/-- R60: the Sampling Unit takes a Scan List: the conversion in flight abandoned, the scan ended, the list and period
replaced, a channel new to the list set to DISCARD. -/
def takeScanList (t : ScanTable) (s : State) : State :=
  { s with
    tables := { s.tables with scan := t },
    sampling := discardChannels (fun ch => t.holds ch && !s.tables.scan.holds ch) { s.sampling with conversion := none } }

/-- The owner of table 2. -/
def ownScan (_ : Nat) (e : List Byte) (s : State) : Option State := (readScan e).map (fun t => takeScanList t s)

/-- WRITE_SCAN_LIST (R57, R60). -/
def execWriteScanList (m : Sender) (args : List Byte) (s : State) : Result := .next (writeEntry 2 m args ownScan s)

/-- R64: the Sampling Unit takes a channel's calibration. -/
def takeCalibration (i : Nat) (c : Calibration) (s : State) : State :=
  { s with
    tables := { s.tables with cals := s.tables.cals.set i c },
    sampling := abandon s.tables.scan s.now (fun ch => ch == i) (discardChannels (fun ch => ch == i) s.sampling) }

/-- The owner of table 3. -/
def ownCalibration (i : Nat) (e : List Byte) (s : State) : Option State :=
  (readCalibration e).map (fun c => takeCalibration i c s)

/-- WRITE_CHANNEL_CALIBRATION (R63, R64). -/
def execWriteChannelCalibration (m : Sender) (args : List Byte) (s : State) : Result :=
  .next (writeEntry 3 m args ownCalibration s)

/-- Whether a channel's calibration mode is CURVE and names curve `i` (R67). -/
def usesCurve (t : Tables) (i ch : Nat) : Bool :=
  let c := t.cals.getD ch ⟨.linear, 1024, 0, 0, 2⟩
  c.mode == .curve && c.curve == i

/-- R67: the Sampling Unit takes a Conversion Curve. -/
def takeCurve (i : Nat) (c : Curve) (s : State) : State :=
  { s with
    tables := { s.tables with curves := s.tables.curves.set i c },
    sampling := abandon s.tables.scan s.now (usesCurve s.tables i) (discardChannels (usesCurve s.tables i) s.sampling) }

/-- The owner of table 4. -/
def ownCurve (i : Nat) (e : List Byte) (s : State) : Option State := (readCurve e).map (fun c => takeCurve i c s)

/-- WRITE_CONVERSION_CURVE (R66, R67). -/
def execWriteConversionCurve (m : Sender) (args : List Byte) (s : State) : Result := .next (writeEntry 4 m args ownCurve s)

/-- The owner of table 5. -/
def ownPoll (i : Nat) (e : List Byte) (s : State) : Option State := (readPollEntry e).map (fun v => takePollWrite i v s)

/-- WRITE_POLL_ENTRY (R76, R83). -/
def execWritePollEntry (m : Sender) (args : List Byte) (s : State) : Result := .next (writeEntry 5 m args ownPoll s)

/-- The owner of table 6. -/
def ownCondition (i : Nat) (e : List Byte) (s : State) : Option State :=
  (readCondition i e).map (fun c => takeConditionWrite i c s)

/-- WRITE_CONDITION (R99, R100). -/
def execWriteCondition (m : Sender) (args : List Byte) (s : State) : Result := .next (writeEntry 6 m args ownCondition s)

/-- R156: the Output Resolver takes a Shed Table entry. -/
def ownShed (i : Nat) (e : List Byte) (s : State) : Option State :=
  (readShed e).map (fun v =>
    let s1 := { s with tables := { s.tables with sheds := s.tables.sheds.set i v } }
    adoptOutputs s1.tables.sheds s1.outputs.idles s1)

/-- WRITE_SHED_TABLE (R156). -/
def execWriteShedTable (m : Sender) (args : List Byte) (s : State) : Result := .next (writeEntry 7 m args ownShed s)

/-- R146: the Supply Manager takes the Supply Settings. -/
def ownSupply (_ : Nat) (e : List Byte) (s : State) : Option State :=
  (readSupply e).map (fun g => adoptSupply g { s with tables := { s.tables with supply := g } })

/-- WRITE_SUPPLY_SETTINGS (R146). -/
def execWriteSupplySettings (m : Sender) (args : List Byte) (s : State) : Result := .next (writeEntry 8 m args ownSupply s)

/-- The channel of an index of table 9. -/
def channelOf (i : Nat) : Channel := if i = 0 then .ab else .ba

/-- R131, R132: Pump Control takes a channel's Pump Settings. -/
def ownPump (i : Nat) (e : List Byte) (s : State) : Option State :=
  (readPump e).map (fun t =>
    adoptPump (channelOf i) t { s with tables := { s.tables with pumps := s.tables.pumps.set (channelOf i) t } })

/-- WRITE_PUMP_SETTINGS (R131, R132). -/
def execWritePumpSettings (m : Sender) (args : List Byte) (s : State) : Result := .next (writeEntry 9 m args ownPump s)

/-- R16: the Relay Engine takes the Line Settings; both line states are re-evaluated at once. -/
def takeLineSettings (t : LineSettings) (s : State) : State :=
  reactBoth s (reevaluate .b (reevaluate .a { s with tables := { s.tables with line := t } }))

/-- The owner of table 10. -/
def ownLine (_ : Nat) (e : List Byte) (s : State) : Option State := (readLine e).map (fun t => takeLineSettings t s)

/-- WRITE_LINE_SETTINGS (R16). -/
def execWriteLineSettings (m : Sender) (args : List Byte) (s : State) : Result := .next (writeEntry 10 m args ownLine s)

/-- R156: the Output Resolver takes an output's idle state. -/
def ownIdle (i : Nat) (e : List Byte) (s : State) : Option State :=
  (readIdle i e).map (fun v =>
    let s1 := { s with tables := { s.tables with idles := s.tables.idles.set i v } }
    adoptOutputs s1.outputs.sheds s1.tables.idles s1)

/-- WRITE_OUTPUT_SETTINGS (R156). -/
def execWriteOutputSettings (m : Sender) (args : List Byte) (s : State) : Result := .next (writeEntry 11 m args ownIdle s)

/-- R37: the agent takes the Management Settings. -/
def ownManagement (_ : Nat) (e : List Byte) (s : State) : Option State :=
  (readManagement e).map (fun t => { s with tables := { s.tables with mgmt := t } })

/-- WRITE_MANAGEMENT_SETTINGS (R37). -/
def execWriteManagementSettings (m : Sender) (args : List Byte) (s : State) : Result :=
  .next (writeEntry 12 m args ownManagement s)

/-- WRITE_ENTRY_OTHER_TABLE (R43): a table id outside 1 to 12, or a payload too short to hold one; `args` are the bytes
after the command code. -/
def execWriteEntryOtherTable (m : Sender) (args : List Byte) (s : State) : Result :=
  if otherTable args then .next (command writeCode 3 true m (writeCode :: args) (Answer.refuse .badTable) s)
  else .refused .operandsOfAnotherRow

end Sys2Proof.Machine
end

