-- ==== Sys2Proof/Machine/Dispatch.lean ====
section
/-! DEFINITION. What each command does: one arm per constructor of Instr. -/

namespace Sys2Proof.Machine

def exec (i : Instr) (s : State) : Host.Outcome State Fault Refusal :=
  match i with
  | .powerOnReset addr inputs => Sys2Proof.Machine.execPowerOnReset addr inputs s
  | .resetPin addr inputs => Sys2Proof.Machine.execResetPin addr inputs s
  | .restartReset addr => Sys2Proof.Machine.execRestartReset addr s
  | .transmitEvent p => Sys2Proof.Machine.execTransmitEvent p s
  | .syncPatternFound p pos b0 b1 b2 => Sys2Proof.Machine.execSyncPatternFound p pos b0 b1 b2 s
  | .confirmCheck p b0 b1 b2 => Sys2Proof.Machine.execConfirmCheck p b0 b1 b2 s
  | .missedSync p b0 b1 b2 => Sys2Proof.Machine.execMissedSync p b0 b1 b2 s
  | .lossOfSync p b0 b1 b2 => Sys2Proof.Machine.execLossOfSync p b0 b1 b2 s
  | .erroredFrame p frame => Sys2Proof.Machine.execErroredFrame p frame s
  | .goodFrameArrival p frame => Sys2Proof.Machine.execGoodFrameArrival p frame s
  | .rfmRunCountReached p frame => Sys2Proof.Machine.execRfmRunCountReached p frame s
  | .windowTimerExpiry p => Sys2Proof.Machine.execWindowTimerExpiry p s
  | .identify m args => Sys2Proof.Machine.execIdentify m args s
  | .claim m args => Sys2Proof.Machine.execClaim m args s
  | .release m args => Sys2Proof.Machine.execRelease m args s
  | .readEntry m args => Sys2Proof.Machine.execReadEntry m args s
  | .readPoints m args => Sys2Proof.Machine.execReadPoints m args s
  | .readStanding m args => Sys2Proof.Machine.execReadStanding m args s
  | .writeMessageAction m args => Sys2Proof.Machine.execWriteMessageAction m args s
  | .writeScanList m args => Sys2Proof.Machine.execWriteScanList m args s
  | .writeChannelCalibration m args => Sys2Proof.Machine.execWriteChannelCalibration m args s
  | .writeConversionCurve m args => Sys2Proof.Machine.execWriteConversionCurve m args s
  | .writePollEntry m args => Sys2Proof.Machine.execWritePollEntry m args s
  | .writeCondition m args => Sys2Proof.Machine.execWriteCondition m args s
  | .writeShedTable m args => Sys2Proof.Machine.execWriteShedTable m args s
  | .writeSupplySettings m args => Sys2Proof.Machine.execWriteSupplySettings m args s
  | .writePumpSettings m args => Sys2Proof.Machine.execWritePumpSettings m args s
  | .writeLineSettings m args => Sys2Proof.Machine.execWriteLineSettings m args s
  | .writeOutputSettings m args => Sys2Proof.Machine.execWriteOutputSettings m args s
  | .writeManagementSettings m args => Sys2Proof.Machine.execWriteManagementSettings m args s
  | .writeEntryOtherTable m args => Sys2Proof.Machine.execWriteEntryOtherTable m args s
  | .ackAlarm m args => Sys2Proof.Machine.execAckAlarm m args s
  | .forceOutput m args => Sys2Proof.Machine.execForceOutput m args s
  | .forceShed m args => Sys2Proof.Machine.execForceShed m args s
  | .pumpMode m args => Sys2Proof.Machine.execPumpMode m args s
  | .pulseOutput m args => Sys2Proof.Machine.execPulseOutput m args s
  | .requalifySupply m args => Sys2Proof.Machine.execRequalifySupply m args s
  | .chargeRestart m args => Sys2Proof.Machine.execChargeRestart m args s
  | .setLock m args => Sys2Proof.Machine.execSetLock m args s
  | .storeSettings m args => Sys2Proof.Machine.execStoreSettings m args s
  | .restart m args => Sys2Proof.Machine.execRestart m args s
  | .unknownCommand m payload => Sys2Proof.Machine.execUnknownCommand m payload s
  | .ignoredCommand m payload => Sys2Proof.Machine.execIgnoredCommand m payload s
  | .beat m payload => Sys2Proof.Machine.execBeat m payload s
  | .contactTimerExpiry h => Sys2Proof.Machine.execContactTimerExpiry h s
  | .hutTimeTick => Sys2Proof.Machine.execHutTimeTick s
  | .autoloadAddressRetry ack => Sys2Proof.Machine.execAutoloadAddressRetry ack s
  | .autoloadReadDone r => Sys2Proof.Machine.execAutoloadReadDone r s
  | .autoloadDeadline => Sys2Proof.Machine.execAutoloadDeadline s
  | .pageWriteDone r => Sys2Proof.Machine.execPageWriteDone r s
  | .pageAckPoll r => Sys2Proof.Machine.execPageAckPoll r s
  | .pageWriteTimeout => Sys2Proof.Machine.execPageWriteTimeout s
  | .readBackDone r => Sys2Proof.Machine.execReadBackDone r s
  | .scanPeriodStart => Sys2Proof.Machine.execScanPeriodStart s
  | .conversionEvent code => Sys2Proof.Machine.execConversionEvent code s
  | .brownOutEvent v => Sys2Proof.Machine.execBrownOutEvent v s
  | .startupPulsesDone => Sys2Proof.Machine.execStartupPulsesDone s
  | .transactionSuccess bits => Sys2Proof.Machine.execTransactionSuccess bits s
  | .transactionFailure f => Sys2Proof.Machine.execTransactionFailure f s
  | .nextDueTime n => Sys2Proof.Machine.execNextDueTime n s
  | .retryTime n => Sys2Proof.Machine.execRetryTime n s
  | .busFault => Sys2Proof.Machine.execBusFault s
  | .recoveryComplete clockHigh dataHigh => Sys2Proof.Machine.execRecoveryComplete clockHigh dataHigh s
  | .ageTimerExpiry => Sys2Proof.Machine.execAgeTimerExpiry s
  | .stalenessDeadline n => Sys2Proof.Machine.execStalenessDeadline n s
  | .launchExpiry p => Sys2Proof.Machine.execLaunchExpiry p s
  | .inputRawChange n level => Sys2Proof.Machine.execInputRawChange n level s
  | .debounceTimerExpiry n => Sys2Proof.Machine.execDebounceTimerExpiry n s
  | .pass => Sys2Proof.Machine.execPass s
  | .qualifySetReached n => Sys2Proof.Machine.execQualifySetReached n s
  | .qualifyClearReached n => Sys2Proof.Machine.execQualifyClearReached n s
  | .startTimerExpiry c => Sys2Proof.Machine.execStartTimerExpiry c s
  | .rampTimerExpiry c => Sys2Proof.Machine.execRampTimerExpiry c s
  | .probeTimerExpiry c => Sys2Proof.Machine.execProbeTimerExpiry c s
  | .probeDurationExpiry c => Sys2Proof.Machine.execProbeDurationExpiry c s
  | .statusReadTimerExpiry c => Sys2Proof.Machine.execStatusReadTimerExpiry c s
  | .transferComplete reply => Sys2Proof.Machine.execTransferComplete reply s
  | .supplyCheck => Sys2Proof.Machine.execSupplyCheck s
  | .noSagCountReached => Sys2Proof.Machine.execNoSagCountReached s
  | .bulkTimerExpiry => Sys2Proof.Machine.execBulkTimerExpiry s
  | .absorbTimerExpiry => Sys2Proof.Machine.execAbsorbTimerExpiry s
  | .settleTimerExpiry => Sys2Proof.Machine.execSettleTimerExpiry s
  | .testTimerExpiry => Sys2Proof.Machine.execTestTimerExpiry s
  | .retryTimerExpiry => Sys2Proof.Machine.execRetryTimerExpiry s
  | .pulseEnd o => Sys2Proof.Machine.execPulseEnd o s

end Sys2Proof.Machine
end

