-- ==== Sys2Proof/Machine/HandOff.lean ====
section
/-! DEFINITION. The row of the command table that a handed management message is (R12, R27, R30, R31, R43): what the block
takes from its own inbox when no command waits (log entry 2). -/

namespace Sys2Proof.Machine

/-- The WRITE ENTRY row of a table id, on the bytes after the id. -/
def writeRow (m : Sender) (id : Nat) (l args : List Byte) : Instr :=
  match id with
  | 1 => .writeMessageAction m args
  | 2 => .writeScanList m args
  | 3 => .writeChannelCalibration m args
  | 4 => .writeConversionCurve m args
  | 5 => .writePollEntry m args
  | 6 => .writeCondition m args
  | 7 => .writeShedTable m args
  | 8 => .writeSupplySettings m args
  | 9 => .writePumpSettings m args
  | 10 => .writeLineSettings m args
  | 11 => .writeOutputSettings m args
  | 12 => .writeManagementSettings m args
  | _ => .writeEntryOtherTable m l

/-- The row of a WRITE ENTRY; `l` are the bytes after the command code. -/
def writeCommand (m : Sender) (l : List Byte) : Instr :=
  match l with
  | [] => .writeEntryOtherTable m []
  | t :: args => writeRow m t.toNat (t :: args) args

/-- The row of a COMMAND of class MINE: its code `n` and the bytes after it, of the whole payload. -/
def mineRow (m : Sender) (n : Nat) (payload args : List Byte) : Instr :=
  match n with
  | 0x01 => .identify m args
  | 0x02 => .claim m args
  | 0x03 => .release m args
  | 0x04 => .readEntry m args
  | 0x05 => writeCommand m args
  | 0x06 => .readPoints m args
  | 0x07 => .readStanding m args
  | 0x08 => .ackAlarm m args
  | 0x09 => .forceOutput m args
  | 0x0A => .forceShed m args
  | 0x0B => .pumpMode m args
  | 0x0C => .pulseOutput m args
  | 0x0D => .requalifySupply m args
  | 0x0E => .chargeRestart m args
  | 0x0F => .setLock m args
  | 0x10 => .storeSettings m args
  | 0x11 => .restart m args
  | _ => .unknownCommand m payload

/-- R31: the row of a COMMAND of class ALL: one of the three that may be executed, or an ignored one. -/
def broadcastRow (m : Sender) (n : Nat) (payload args : List Byte) : Instr :=
  match n with
  | 0x08 => .ackAlarm m args
  | 0x0A => .forceShed m args
  | 0x0B => .pumpMode m args
  | _ => .ignoredCommand m payload

/-- The row of a handed COMMAND. -/
def commandRow (m : Sender) (payload : List Byte) : Instr :=
  match m.cls, payload with
  | .mine, [] => .unknownCommand m []
  | .mine, c :: args => mineRow m c.toNat (c :: args) args
  | .all, c :: args => broadcastRow m c.toNat (c :: args) args
  | .all, [] => .ignoredCommand m []
  | .head, l => .ignoredCommand m l
  | .other, l => .ignoredCommand m l

/-- The command a handed message is. -/
def handedCommand (h : Handed) : Instr :=
  match h.kind with
  | .beat => .beat h.sender h.payload
  | .command => commandRow h.sender h.payload

end Sys2Proof.Machine
end

