-- ==== Sys2Proof/Machine/Step.lean ====
section
/-! DEFINITION. One step: the command at the front of the queue executed, or what the block does of itself when none
waits; and the host's way to put a command in front. -/

namespace Sys2Proof.Machine

/-- A step with no command waiting (log entry 2): the channels act on a shed level handed at a RESTART (log entry 40), else the
first handed management message is taken, else the first handed brown-out event, else a grant that is owed (R78), else one
microsecond passes. -/
def idle (s : State) : Host.Outcome State Fault Refusal :=
  if s.supply.handed then .next (takeHandedLevel s)
  else
  match s.inbox with
  | h :: _ => exec (handedCommand h) s
  | [] =>
    match s.brownOuts with
    | v :: _ => exec (.brownOutEvent v) s
    | [] =>
      if s.poll.op = none ∧ s.poll.firstDue ≠ none then .next (takeGrant s)
      else .next { s with now := s.now + 1 }

/-- One step: the command at the front of the queue leaves it and is executed. -/
def step (s : State) : Host.Outcome State Fault Refusal :=
  match s.pending with
  | i :: l => exec i { s with pending := l }
  | [] => idle s

/-- The state with the command a word spells put at the front of its queue; unchanged where the word spells none. -/
def State.withFetchWord (s : State) (nbits w : Nat) : State :=
  match decodeTableWord nbits w with
  | some i => { s with pending := i :: s.pending }
  | none => s

end Sys2Proof.Machine
end

