-- ==== Sys2Proof/Safety.lean ====
section
/-! DEFINITION. What a safe run is, in the terms the statements use: what two states share, and the laws the manual says
the state always obeys. Each law is one the manual states for every moment (the rule is named at it). -/

namespace Sys2Proof.Machine

/-! What a step leaves alone. -/

/-- The parts of the state a frame names. -/
inductive Part where
  | now
  | pending
  | inbox
  | brownOuts
  | ownAddr
  | line (p : Side)
  | tables
  | agent
  | sampling
  | poll
  | points
  | engine
  | alarms
  | pump (c : Channel)
  | port
  | supply
  | outputs
  | loader
  | eeprom
  | cuts
  deriving DecidableEq, Repr

/-- Two states have the same content of a part. -/
def Part.same : Part → State → State → Prop
  | .now, s, t => t.now = s.now
  | .pending, s, t => t.pending = s.pending
  | .inbox, s, t => t.inbox = s.inbox
  | .brownOuts, s, t => t.brownOuts = s.brownOuts
  | .ownAddr, s, t => t.ownAddr = s.ownAddr
  | .line p, s, t => t.ports.get p = s.ports.get p
  | .tables, s, t => t.tables = s.tables
  | .agent, s, t => t.agent = s.agent
  | .sampling, s, t => t.sampling = s.sampling
  | .poll, s, t => t.poll = s.poll
  | .points, s, t => t.points = s.points
  | .engine, s, t => t.engine = s.engine
  | .alarms, s, t => t.alarms = s.alarms
  | .pump c, s, t => t.pumps.get c = s.pumps.get c
  | .port, s, t => t.port = s.port
  | .supply, s, t => t.supply = s.supply
  | .outputs, s, t => t.outputs = s.outputs
  | .loader, s, t => t.loader = s.loader
  | .eeprom, s, t => t.eeprom = s.eeprom
  | .cuts, s, t => t.cuts = s.cuts

/-- Nothing but the listed parts differs between two states. -/
def changesOnly (l : List Part) (s t : State) : Prop := ∀ p : Part, p ∉ l → p.same s t

/-- No point record but the listed ones differs. -/
def pointsOnly (l : List Nat) (s t : State) : Prop := ∀ i : Nat, i ∉ l → t.point i = s.point i

/-! What a management command must pass before its own tests (sections 1.3.1, 2.2; R28, R30, R43). -/

/-- The fixed part of a command's payload, by its command code (section 1.3.1, R30). -/
def fixedPart : Nat → Nat
  | 4 => 4
  | 5 => 3
  | 6 => 3
  | 7 => 2
  | 8 => 2
  | 9 => 3
  | 10 => 2
  | 11 => 3
  | 12 => 4
  | _ => 1

/-- R28: the controlled commands, by command code. -/
def isControlled (code : Nat) : Bool := code == 5 || (decide (8 ≤ code) && decide (code ≤ 17))

/-- The state in which a COMMAND's own tests are made: the message taken, its head's contact timer restarted (R27). -/
abbrev State.after (s : State) (m : Sender) (payload : List Byte) : State := takeManaged ⟨.command, m, payload⟩ s

/-- R12, R30: a COMMAND of class MINE in an addressed hut passes the tests every command has. -/
abbrev reaches (fixed : Nat) (controlled : Bool) (m : Sender) (payload : List Byte) (s : State) : Prop :=
  s.ownAddr ≠ 0 ∧ m.cls = .mine ∧ fixed ≤ payload.length ∧ s.agent.restart = none ∧
    (controlled = true → holdsControl m s = true)

/-- R43, step 8: the owner of table `id` accepts these bytes as entry `i`. -/
def entryAccepted (id i : Nat) (e : List Byte) : Bool :=
  match id with
  | 1 => (readAction i e).isSome
  | 2 => (readScan e).isSome
  | 3 => (readCalibration e).isSome
  | 4 => (readCurve e).isSome
  | 5 => (readPollEntry e).isSome
  | 6 => (readCondition i e).isSome
  | 7 => (readShed e).isSome
  | 8 => (readSupply e).isSome
  | 9 => (readPump e).isSome
  | 10 => (readLine e).isSome
  | 11 => (readIdle i e).isSome
  | 12 => (readManagement e).isSome
  | _ => false

/-- R43, steps 1 to 7: a WRITE ENTRY of entry `i` of table `id` with the entry bytes `e` gets as far as the owner. -/
abbrev writeReaches (id : Nat) (m : Sender) (i : Byte) (e : List Byte) (s : State) : Prop :=
  reaches 3 true m (writeCode :: byteOf id :: i :: e) s ∧ 1 ≤ id ∧ id ≤ 12 ∧ entrySize id ≤ e.length ∧
    i.toNat < entryCount id ∧ s.loader.autoload = none ∧ lockRefuses id i.toNat (e.take (entrySize id)) s = false ∧
    s.agent.store = none

/-- The channel whose amplifier launches toward a side (R136). -/
def launching : Side → Channel
  | .a => .ba
  | .b => .ab

/-! Buffers and queues (R14, R19). -/

/-- R14, R19: each relay buffer holds at most 740 bytes, each insert queue at most 24 messages. -/
abbrev BuffersBounded (s : State) : Prop :=
  bufferTotal s.ports.a.relay ≤ relayCap ∧ bufferTotal s.ports.b.relay ≤ relayCap ∧
    s.ports.a.queue.length ≤ queueCap ∧ s.ports.b.queue.length ≤ queueCap

/-- A message's fields are ones section 1.2 allows. -/
abbrev Message.inForm (m : Message) : Prop :=
  m.dst.toNat ≤ 63 ∧ m.src.toNat ≤ 63 ∧ m.hop.toNat ≤ 63 ∧ m.payload.length ≤ 64

/-- Every message waiting to be sent has fields section 1.2 allows. -/
abbrev MessagesInForm (s : State) : Prop :=
  (∀ m ∈ s.ports.a.relay, m.inForm) ∧ (∀ m ∈ s.ports.b.relay, m.inForm) ∧
    (∀ q ∈ s.ports.a.queue, q.msg.inForm) ∧ (∀ q ∈ s.ports.b.queue, q.msg.inForm)

/-- What the messages built next are made of is in form: own address, hop budget, the sources to be replied to. -/
abbrev SourcesInForm (s : State) : Prop :=
  s.ownAddr.toNat ≤ 60 ∧ s.tables.line.hopBudget ≤ 63 ∧ (∀ i ∈ s.pending, i.wellFormed = true) ∧
    (∀ h ∈ s.inbox, h.sender.good = true) ∧ (∀ m ∈ s.agent.store, m.good = true)

/-! The control side (R32). -/

/-- R32: the control side is NONE or a head station whose contact timer has not expired. -/
abbrev ControlInContact (s : State) : Prop :=
  match s.agent.control with
  | none => True
  | some h => s.agent.contacts.get h ≠ none

/-! Line state and the state points (R9, R93). -/

/-- R9: a port's line state is LOST exactly while its receiver is not in SYNC. -/
abbrev LinePort.lossMatches (p : LinePort) : Prop := p.lineState = .lost ↔ p.sync ≠ .sync

/-- A point holds a value, VALID. -/
abbrev State.reads (s : State) (i : Nat) (v : Int) : Prop := (s.point i).value = v ∧ (s.point i).validity = .valid

/-- R92, R93: each state point, 30 to 45, holds its owner's state, VALID. -/
abbrev StatePointsAgree (s : State) : Prop :=
  s.points.recs.length = 46 ∧
    s.reads 30 s.ports.a.lastWindow ∧ s.reads 31 s.ports.b.lastWindow ∧
    s.reads 32 s.ports.a.lineState.code ∧ s.reads 33 s.ports.b.lineState.code ∧
    s.reads 34 (bit s.ports.a.ufm) ∧ s.reads 35 (bit s.ports.b.ufm) ∧
    s.reads 36 (bit s.ports.a.rfm) ∧ s.reads 37 (bit s.ports.b.rfm) ∧
    s.reads 38 s.supply.zone.code ∧ s.reads 39 s.supply.level ∧ s.reads 40 s.supply.pv.code ∧
    s.reads 41 s.pumps.ab.state.code ∧ s.reads 42 s.pumps.ba.state.code ∧
    s.reads 43 (contactCode s.agent.contacts) ∧ s.reads 44 (inputSum 0 s.points.inputs) ∧ s.reads 45 s.loader.source.code

/-! Pumps (R133, R139). -/

/-- R133: a channel's target is the effective target at a shed level. -/
abbrev Pump.onTarget (level : Nat) (p : Pump) : Prop := p.target = effectiveTarget p.inUse p.mode level

/-- R133, with the table after it, and R140: a channel's target, current, mode and timers by its state. -/
abbrev Pump.lawful (p : Pump) : Prop :=
  p.target ≤ p.inUse.ceiling ∧ p.current ≤ p.inUse.ceiling ∧ (p.state = .off ↔ p.mode = .off) ∧
    (p.state = .off → p.current = 0) ∧ (p.state = .startWait → p.current = 0) ∧ (p.state = .fault → p.current = 0) ∧
    (p.state = .reduced → p.current ≤ p.inUse.safe) ∧
    p.startAt.isSome = (p.state == .startWait) ∧ p.rampAt.isSome = (p.state == .ramp) ∧
    p.probeAt.isSome = (p.state == .reduced) ∧ p.durationAt.isSome = (p.state == .probe) ∧
    p.statusAt.isSome = (p.state != .off)

/-- R139: a channel in RAMP or RUN has no trigger source present. -/
abbrev notUnderTrigger (s : State) (c : Channel) : Prop :=
  (s.pumps.get c).state = .ramp ∨ (s.pumps.get c).state = .run → trigger s c = false

/-- R133, R135, R138: a channel in RUN or PROBE runs at its target. -/
abbrev Pump.atTarget (p : Pump) : Prop := p.state = .run ∨ p.state = .probe → p.current = p.target

/-- Both channels obey R133 and R139; in RUN and PROBE they run at their targets but while a shed level handed at a RESTART
has not been acted on (log entry 40). -/
abbrev PumpsLawful (s : State) : Prop :=
  s.pumps.ab.lawful ∧ s.pumps.ba.lawful ∧ s.pumps.ab.onTarget s.supply.level ∧ s.pumps.ba.onTarget s.supply.level ∧
    (s.supply.handed = false → s.pumps.ab.atTarget ∧ s.pumps.ba.atTarget) ∧ notUnderTrigger s .ab ∧ notUnderTrigger s .ba

/-! The Control Port (R144, R145). -/

/-- R143: a register is one of a device's four. -/
def Register.ofDevice (d : Device) : Register → Bool
  | .setpoint | .clamp | .enable | .statusRead => d != .charger
  | .currentLimit | .voltageTarget | .chargeEnable | .chargeStatus => d == .charger

/-- R144, R145: no two words for one device and register, every register its device's own, and no word waits at an idle
port; only SETPOINT words take the safety class. -/
abbrev PortLawful (s : State) : Prop :=
  (s.port.words.map (fun w => (w.device, w.register))).Nodup ∧ (∀ w ∈ s.port.words, w.register.ofDevice w.device = true) ∧
    (s.port.transfer = none → s.port.words = []) ∧ (∀ w ∈ s.port.words, w.cls = .safety → w.register = .setpoint)

/-! The supply (R148 to R155). -/

/-- R148, R149: each PV timer runs in its state alone, OUT7 is high in TESTING alone, five failures lock the array out, and
an absent array has none. -/
abbrev PvLawful (s : State) : Prop :=
  s.outputs.testLoad = (s.supply.pv == .testing) ∧ s.supply.settleAt.isSome = (s.supply.pv == .settling) ∧
    s.supply.testAt.isSome = (s.supply.pv == .testing) ∧ s.supply.retryAt.isSome = (s.supply.pv == .retryWait) ∧
    (s.supply.pv = .lockedOut → s.supply.failures = 5) ∧ (s.supply.pv ≠ .lockedOut → s.supply.failures < 5) ∧
    (s.supply.pv = .absent → s.supply.failures = 0)

/-- R150: while PV is QUALIFIED the charge limit lies between 2.00 A and the rating, derated is set exactly below the
rating, and the hold point is at least the floor. -/
abbrev LimitLawful (u : Supply) : Prop :=
  u.noSag < 60 ∧
    (u.pv = .qualified →
      200 ≤ u.limit ∧ u.limit ≤ arrayRating u.inUse.arrayCode ∧ u.inUse.floor ≤ u.hold ∧
        u.derated = decide (u.limit < arrayRating u.inUse.arrayCode))

/-- R151, R152: the charger is enabled only with PV QUALIFIED and outside COLD and HOT; HALTED only in COLD or HOT; the
zone level follows the zone. -/
abbrev StageLawful (u : Supply) : Prop :=
  (u.stage.enabled = true → u.pv = .qualified ∧ u.zone.extreme = false) ∧
    (u.stage = .halted → u.pv = .qualified ∧ u.zone.extreme = true) ∧ (u.pv = .qualified → u.stage ≠ .off) ∧
    u.zoneLevel = zoneLevelOf u.inUse u.zone

/-- The laws of the Supply Manager. -/
abbrev SupplyLawful (s : State) : Prop := PvLawful s ∧ LimitLawful s.supply ∧ StageLawful s.supply

/-! Outputs (R157). -/

/-- R157: every output pin stands at the level of the first rank that applies. -/
abbrev OutputsResolved (s : State) : Prop := s.outputs.levels = (List.range 7).map s.outLevel

/-! The live tables (R43, R161). -/

/-- A value a signed 16-bit field holds. -/
abbrev isSigned16 (v : Int) : Prop := -32768 ≤ v ∧ v ≤ 32767

/-- R63: a calibration its owner accepts. -/
abbrev Calibration.good (c : Calibration) : Prop := c.gain < 65536 ∧ isSigned16 c.offset ∧ c.curve ≤ 3 ∧ c.shift ≤ 7

/-- R66: a curve its owner accepts, with room for twelve breakpoints. -/
abbrev Curve.good (c : Curve) : Prop :=
  c.valid = true ∧ c.points.length = 12 ∧ ∀ q ∈ c.points, q.1 < 65536 ∧ isSigned16 q.2

/-- R57: a Scan List its owner accepts, with sixteen slots. -/
abbrev ScanTable.good (t : ScanTable) : Prop := t.valid = true ∧ t.channels.length = 16 ∧ ∀ ch ∈ t.channels, ch < 256

/-- R76: a poll entry its owner accepts. -/
abbrev PollEntry.good (e : PollEntry) : Prop :=
  e.valid = true ∧ e.register < 256 ∧ e.mask < 65536 ∧ e.gain < 65536 ∧ isSigned16 e.offset ∧ e.period < 256

/-- R99: the suppressor of entry `own` is one its owner accepts. -/
def Suppressor.good (own : Nat) : Suppressor → Bool
  | .condition n => decide (n ≤ 63 ∧ n ≠ own)
  | .none | .ufm _ | .lost _ => true

/-- R99: an action its owner accepts. -/
def CondAction.good : CondAction → Bool
  | .shed n => decide (1 ≤ n ∧ n ≤ 4)
  | .output n => decide (n ≤ 6)
  | .pulse n => decide (n ≤ 6)
  | .none | .reduce _ => true

/-- R99: a Condition Table entry `own` its owner accepts. -/
abbrev Condition.good (own : Nat) (c : Condition) : Prop :=
  c.valid = true ∧ isSigned16 c.setLevel ∧ isSigned16 c.clearLevel ∧ c.qualifySet < 256 ∧ c.qualifyClear < 256 ∧
    c.suppressor.good own = true ∧ c.action.good = true

/-- R16: Line Settings their owner accepts. -/
abbrev LineSettings.good (t : LineSettings) : Prop := 1 ≤ t.threshold ∧ t.threshold ≤ 1000 ∧ t.hopBudget ≤ 63

/-- R37: Management Settings their owner accepts. -/
abbrev ManagementSettings.good (t : ManagementSettings) : Prop := 1 ≤ t.window ∧ t.window ≤ 255

/-- Every entry of every table is one its owner accepts, and every table has its number of entries. -/
abbrev Tables.good (t : Tables) : Prop :=
  (t.actions.length = 32 ∧ t.actions.getD 4 .consume = .consume) ∧ t.scan.good ∧
    (t.cals.length = 16 ∧ ∀ c ∈ t.cals, c.good) ∧ (t.curves.length = 4 ∧ ∀ c ∈ t.curves, c.good) ∧
    (t.polls.length = 12 ∧ ∀ e ∈ t.polls, e.good) ∧
    (t.conds.length = 64 ∧ ∀ i ∈ List.range 64, (t.conds.getD i builtinUnused).good i) ∧ t.sheds.length = 4 ∧
    (t.supply.valid = true ∧ isSigned16 t.supply.t1 ∧ isSigned16 t.supply.t2 ∧ isSigned16 t.supply.t3 ∧
      isSigned16 t.supply.t4) ∧
    t.pumps.ab.valid = true ∧ t.pumps.ba.valid = true ∧ t.line.good ∧
    (t.idles.length = 8 ∧ t.idles.getD 7 false = false) ∧ t.mgmt.good

/-- The live tables, and the copies Pump Control and the Supply Manager work from, are ones their owners accept. -/
abbrev TablesLawful (s : State) : Prop :=
  s.tables.good ∧ s.supply.inUse.valid = true ∧ s.pumps.ab.inUse.valid = true ∧ s.pumps.ba.inUse.valid = true

/-! The effective shed level (R155). -/

/-- R155: the level in force is what its forcing or its sources give, and lies between 0 and 4, as each source does. -/
abbrev ShedLawful (s : State) : Prop :=
  s.supply.level = s.shedLevel ∧ s.supply.level ≤ 4 ∧ s.supply.voltageLevel ≤ 4 ∧ s.supply.zoneLevel ≤ 4 ∧
    s.supply.brownHold ≤ 4 ∧ s.engine.shedRequest ≤ 4 ∧ s.agent.shedForce.getD 0 ≤ 4

/-! The Standing Alarm List and the Condition Engine (R101, R109, R112 to R114, R120). -/

/-- R120: no two entries of one condition, at most 64 in all, and a CLEARED entry is latching and not acknowledged. -/
abbrev ListLawful (s : State) : Prop :=
  (s.alarms.map Standing.index).Nodup ∧ (∀ e ∈ s.alarms, e.index < 64) ∧ s.alarms.length ≤ 64 ∧
    (∀ e ∈ s.alarms, e.status = .cleared → e.latching = true ∧ e.acknowledged = false)

/-- R101: a run state and count by the entry. -/
abbrev CondRun.lawful (c : Condition) (r : CondRun) : Prop :=
  (r.state = .idle ↔ c.enable = false) ∧
    (r.state = .setPending → 1 ≤ r.count ∧ r.count < c.qualifySet) ∧
    (r.state = .clearPending → 1 ≤ r.count ∧ r.count < c.qualifyClear) ∧
    (r.state ≠ .setPending → r.state ≠ .clearPending → r.count = 0)

/-- The condition index has a RAISED entry in the list. -/
def State.listsRaised (s : State) (i : Nat) : Bool := s.alarms.any (fun e => e.index == i && e.status == .raised)

/-- R101, R109, R112 to R114: run states by their entries, RAISED list entries exactly for the conditions that stand, the
engine's outputs those of the standing conditions; during autoload the engine and the list are as at the reset. -/
abbrev EngineLawful (s : State) : Prop :=
  s.tables.conds.length = 64 ∧ s.engine.runs.length = 64 ∧
    (∀ i ∈ List.range 64, (s.engine.run i).lawful (s.tables.condition i)) ∧
    (∀ i ∈ List.range 64, s.listsRaised i = (s.engine.run i).stands) ∧
    s.engine.shedRequest = shedRequestOf (standingActions s.tables s.engine.runs) ∧
    s.engine.reduce.ab = reduceOf .ab (standingActions s.tables s.engine.runs) ∧
    s.engine.reduce.ba = reduceOf .ba (standingActions s.tables s.engine.runs) ∧
    s.engine.outRequest = outRequestOf (standingActions s.tables s.engine.runs) ∧
    (s.loader.autoload ≠ none → s.engine = Engine.atReset ∧ s.alarms = [] ∧ s.tables = builtinTables)

/-! The sensor bus (R77, R78). -/

/-- The entry an operation makes ACTIVE: that of an unmarked read or recovery. -/
def Poll.activeEntry (p : Poll) : Option Nat :=
  match p.op with
  | some o => if o.kind = .startup ∨ o.discard = true then none else some o.index
  | none => none

/-- R77, R78, R84: at most one entry is ACTIVE, the one the operation in flight serves, and the bus state is the
operation's; no entry has had more failed attempts than a retry limit allows; during autoload the unit is as at the reset. -/
abbrev PollLawful (s : State) : Prop :=
  s.poll.runs.length = 12 ∧
    (∀ i ∈ List.range 12, (s.poll.run i).state = .active ↔ s.poll.activeEntry = some i) ∧
    (∀ o ∈ s.poll.op, o.index < 12 ∧ o.entry.valid = true ∧ (o.kind = .read → s.poll.bus = .busy) ∧
      (o.kind = .recovery → s.poll.bus = .fault) ∧ (o.kind = .startup → s.poll.bus = .idle ∧ s.poll.watch = false)) ∧
    (s.poll.op = none → s.poll.bus ≠ .busy) ∧ (∀ r ∈ s.poll.runs, r.attempts ≤ 3) ∧
    (s.loader.autoload ≠ none → s.poll = Poll.atReset)

/-- R74: the levels the data line takes at its changes at which the clock line is high, before or after. -/
def edgesWhileHigh : List BusLines → List Bool
  | x :: y :: l =>
    (if x.data ≠ y.data ∧ (x.clock = true ∨ y.clock = true) then [y.data] else []) ++ edgesWhileHigh (y :: l)
  | _ => []

/-! Points (R85, R86). -/

/-- R57, R58: the conversion in flight belongs to a slot of the Scan List. -/
abbrev ScanLawful (s : State) : Prop :=
  ∀ k ∈ s.sampling.conversion, k.slot < s.tables.scan.count

/-- R69: every filter accumulator is a value of a point. -/
abbrev FiltersLawful (s : State) : Prop :=
  s.sampling.settle.length = 16 ∧ s.sampling.accumulator.length = 16 ∧ ∀ v ∈ s.sampling.accumulator, isSigned16 v

/-- R85, R86: 46 records and eight inputs, every value within 16 bits, every age at most 255; a deadline is held only by a
point that is not INVALID (R87, R88). -/
abbrev RecordsLawful (s : State) : Prop :=
  s.points.recs.length = 46 ∧ s.points.deadlines.length = 28 ∧ s.points.inputs.length = 8 ∧
    (∀ r ∈ s.points.recs, isSigned16 r.value ∧ r.age ≤ 255) ∧
    (∀ i ∈ List.range 28, s.points.deadlines.getD i none ≠ none → (s.point i).validity ≠ .invalid)

/-- The counts of errored frames lie between 0 and 1000 (R9). -/
abbrev WindowsLawful (s : State) : Prop :=
  s.ports.a.window ≤ 1000 ∧ s.ports.b.window ≤ 1000 ∧ s.ports.a.lastWindow ≤ 1000 ∧ s.ports.b.lastWindow ≤ 1000

/-! The EEPROM and the store (R163, R164). -/

/-- How many steps of a store have been acknowledged. -/
def Store.committed (st : Store) : Nat :=
  match st.phase with
  | .readBack => 52
  | .writing | .cycle _ _ => st.step - 1

/-- R163: the page step `k` writes holds that step's data. -/
abbrev pageHolds (m : List Host.Cell) (st : Store) (k : Nat) : Prop :=
  readBytes m (32 * stepPage k) 32 = stepData st.buffer k

/-- R163: the EEPROM holds the data of every step of the store that has been acknowledged, step 52's over step 1's. -/
abbrev Store.progress (m : List Host.Cell) (st : Store) : Prop :=
  1 ≤ st.step ∧ st.step ≤ 52 ∧ (st.phase = .readBack → st.step = 52) ∧
    (∀ k ∈ List.range 51, k + 1 ≤ st.committed → (k = 0 ∧ st.committed = 52) ∨ pageHolds m st (k + 1)) ∧
    (st.committed = 52 → pageHolds m st 52)

/-- The EEPROM's cells are in canonical form and within its 8192 bytes. -/
abbrev EepromLawful (s : State) : Prop := canonical s.eeprom = true ∧ ∀ c ∈ s.eeprom, c.1 < 8192

/-- R51, R163, R165: the agent's store-in-flight flag follows the store, no store runs during an autoload, the buffer and
the live tables agree, and the EEPROM holds what has been acknowledged. -/
abbrev StoreLawful (s : State) : Prop :=
  s.agent.store.isSome = s.loader.store.isSome ∧ (s.loader.autoload ≠ none → s.loader.store = none) ∧
    EepromLawful s ∧
    ∀ st ∈ s.loader.store, st.buffer = s.tables.image ∧ st.progress s.eeprom

end Sys2Proof.Machine
end

