-- ==== Sys2Proof/Certificates/Slice0/Obligations.lean ====
section
/-! DEFINITION. The statements for the provers. Each is a proposition about Sys2Proof.Machine.exec and
Sys2Proof.Machine.step or about an operation they share; OBLIGATIONS.json names the rules it states. -/

section

open Sys2Proof Sys2Proof.Machine

/-! The queue and the clock. -/

/-- The command at the front of the queue leaves it and is executed. -/
def Obligations.StepRunsFrontCommand : Prop :=
  ∀ (c : Instr) (l : List Instr) (s : State), s.pending = c :: l → step s = exec c { s with pending := l }

/-- A well-formed command is never stopped, whatever the state; it leaves the queue alone, and the clock never goes back
(the manual gives the part no event that stops it). -/
def Obligations.WellFormedCommandsAlwaysRun : Prop :=
  ∀ (i : Instr) (s : State), i.wellFormed = true → ∃ t, exec i s = .next t ∧ t.pending = s.pending ∧ s.now ≤ t.now

/-- With no command waiting (the model's own choice, log entry 2): each channel acts on a target it took at a RESTART (R133;
log entry 40), in RUN by going to RAMP, in PROBE by one SETPOINT word; then handed messages are taken in the order they
were handed (R27), then handed brown-out events, then a grant that is owed (R78); otherwise one microsecond passes. -/
def Obligations.IdleStepTakesHandedWorkInOrder : Prop :=
  ∀ s : State, s.pending = [] →
    let ramps (p : Pump) : Prop := p.state = .run ∧ p.current ≠ p.target
    let jumps (p : Pump) : Prop := p.state = .probe ∧ p.current ≠ p.target
    let words (c : Channel) : List PortWord :=
      let p := s.pumps.get c
      if p.state = .probe ∧ p.current ≠ p.target then [⟨driver c, .setpoint, p.target, .pump⟩] else []
    (s.supply.handed = true → ∃ t, step s = .next t ∧ t.supply = { s.supply with handed := false } ∧
      (∀ c, let p := s.pumps.get c
        (ramps p → t.pumps.get c = { p with state := .ramp, startAt := none, rampAt := some (s.now + 10000) }) ∧
        (jumps p → t.pumps.get c = { p with current := p.target }) ∧
        (¬ramps p → ¬jumps p → t.pumps.get c = p)) ∧
      t.port = ControlPort.placeAll s.now (words .ab ++ words .ba) s.port ∧
      changesOnly [.supply, .pump .ab, .pump .ba, .port, .points] s t ∧ pointsOnly [41, 42] s t) ∧
    (∀ h l, s.supply.handed = false → s.inbox = h :: l →
      step s = exec (handedCommand h) s ∧ ∃ t, step s = .next t ∧ t.inbox = l ∧ t.pending = []) ∧
    (∀ v l, s.supply.handed = false → s.inbox = [] → s.brownOuts = v :: l →
      step s = exec (.brownOutEvent v) s ∧ ∃ t, step s = .next t ∧ t.brownOuts = l ∧ t.pending = []) ∧
    (s.supply.handed = false → s.inbox = [] → s.brownOuts = [] →
      step s = .next (if s.poll.op = none ∧ s.poll.firstDue ≠ none then takeGrant s else { s with now := s.now + 1 }))

/-! Resets. -/

/-- Power-on reset and the reset pin are one event: every block takes its reset value, its timers start at this moment, the
pins are read, and the EEPROM keeps its content when no store is cut (R10, R26, R54, R72, R84, R97, R117, R120, R142,
R145, R159, R165). What the manual gives no reset value, and that Pump Control's words are placed before the charger's, is
the model's choice (log entries 10, 21, 22, 27 and 28). -/
def Obligations.PowerOnAndPinResetSetEveryBlock : Prop :=
  ∀ (addr : BitVec 6) (inputs : Byte) (s : State), ∃ t,
    exec (.powerOnReset addr inputs) s = .next t ∧ exec (.resetPin addr inputs) s = .next t ∧
    t.now = s.now ∧ t.pending = s.pending ∧ t.inbox = [] ∧ t.brownOuts = [] ∧
    t.ownAddr.toNat = (if 1 ≤ addr.toNat ∧ addr.toNat ≤ 60 then addr.toNat else 0) ∧
    (∀ p, t.at p =
      { sync := .hunt, missed := 0, pos := 0, window := 0, lastWindow := 0, windowAt := s.now + 1000000,
        lineState := .lost, transmitAt := s.now + 1000, frameNumber := 0, queue := [], ufm := false, ufmOrigin := 0,
        rfm := false, rfmRun := 0, relay := [], hopExpired := 0, malformed := 0, slip := 0, alertsLost := 0,
        replyLost := 0, sent := [] }) ∧
    t.tables = builtinTables ∧
    t.agent =
      { control := none, contacts := ⟨some (s.now + 1800000000), some (s.now + 1800000000)⟩, lock := false, hutTime := 0,
        timeSet := false, secondAt := s.now + 1000000, outForce := List.replicate 7 none, shedForce := none,
        pumpForce := ⟨none, none⟩, store := none, restart := none } ∧
    t.sampling = ⟨none, none, List.replicate 16 .discard, List.replicate 16 0⟩ ∧
    t.poll = ⟨.idle, none, List.replicate 12 ⟨.idle, 0, none⟩, false, []⟩ ∧
    t.points.recs.length = 46 ∧ (∀ i < 30, t.point i = ⟨0, .invalid, 0⟩) ∧
    (∀ i < 46, 30 ≤ i → t.point i =
      ⟨if i = 32 ∨ i = 33 ∨ i = 38 then 2 else if i = 45 then 1 else 0, .valid, 0⟩) ∧
    t.points.deadlines = List.replicate 28 none ∧ t.points.launch = ⟨none, none⟩ ∧ t.points.ageAt = s.now + 100000 ∧
    (∀ i < 8, t.points.input i = ⟨inputs.getLsbD i, false, some (s.now + 50000)⟩) ∧
    t.engine = ⟨builtinConds.map (fun c => ⟨if c.enable then .clear else .idle, 0⟩), none, 0, ⟨false, false⟩, 0⟩ ∧
    t.alarms = [] ∧
    (∀ c, t.pumps.get c = ⟨.off, .off, 0, 0, builtinPump, none, none, none, none, none⟩) ∧
    t.port =
      ⟨[⟨.pumpAB, .enable, 0, .pump⟩, ⟨.pumpBA, .setpoint, 0, .pump⟩, ⟨.pumpBA, .enable, 0, .pump⟩,
        ⟨.charger, .chargeEnable, 0, .charger⟩], some ⟨.pumpAB, 0x1000#16, s.now + 16⟩, []⟩ ∧
    t.supply =
      { inUse := builtinSupply, checkAt := none, pv := .absent, failures := 0, voc := 0, settleAt := none, testAt := none,
        retryAt := none, hold := 0, limit := 0, derated := false, noSag := 0, zone := .normal, stage := .off,
        stageTime := 0, voltageLevel := 0, zoneLevel := 0, brownHold := 0, level := 0, handed := false } ∧
    t.outputs =
      { sheds := List.replicate 4 0, idles := List.replicate 8 false, pulses := List.replicate 7 none,
        levels := List.replicate 7 false, testLoad := false } ∧
    t.loader = ⟨.defaults, some ⟨false, 0, some (s.now + 1000), s.now + 100000, some s.now⟩, none, []⟩ ∧
    (s.loader.store = none → t.eeprom = s.eeprom)

/-- The RESTART reset takes effect only once it is due; then traffic in transit, marks, run counts, both port timers, the
safety lock, the hut time, the launch records, the inputs, the pumps and the supply carry on, and the rest takes its
reset value (R10, R26, R53, R54, R72, R84, R97, R117, R120, R142, R159, R165). A changed shed level is written to point 39
and sets both targets (R133, R155). The emptied inbox, the order of the words placed again and that a channel in RUN or
PROBE acts on such a target after the reset are the model's choices (log entries 10, 11, 21 and 40). -/
def Obligations.RestartResetKeepsTrafficAndPumps : Prop :=
  ∀ (addr : BitVec 6) (s : State), s.points.recs.length = 46 →
    ((∀ r, s.agent.restart = some r → r.due = false) → exec (.restartReset addr) s = .next s) ∧
    (∀ r, s.agent.restart = some r → r.due = true → ∃ t, exec (.restartReset addr) s = .next t ∧
      t.now = s.now ∧ t.pending = s.pending ∧ t.eeprom = s.eeprom ∧ t.cuts = s.cuts ∧ t.inbox = [] ∧ t.brownOuts = [] ∧
      t.ownAddr.toNat = (if 1 ≤ addr.toNat ∧ addr.toNat ≤ 60 then addr.toNat else 0) ∧
      (∀ p, t.at p =
        { s.at p with queue := [], hopExpired := 0, malformed := 0, slip := 0, alertsLost := 0, replyLost := 0 }) ∧
      t.tables = builtinTables ∧
      t.agent =
        { control := none, contacts := ⟨some (s.now + 1800000000), some (s.now + 1800000000)⟩, lock := s.agent.lock,
          hutTime := s.agent.hutTime, timeSet := s.agent.timeSet, secondAt := s.agent.secondAt,
          outForce := List.replicate 7 none, shedForce := none, pumpForce := ⟨none, none⟩, store := none, restart := none } ∧
      t.sampling = Sampling.atReset ∧ t.poll = Poll.atReset ∧ t.engine = Engine.atReset ∧ t.alarms = [] ∧
      (∀ i < 30, t.point i = ⟨0, .invalid, 0⟩) ∧
      (∀ i < 46, 30 ≤ i → i ≠ 39 → i ≠ 43 → i ≠ 45 → t.point i = s.point i) ∧
      t.point 39 = (if t.supply.level = s.supply.level then s.point 39 else ⟨t.supply.level, .valid, 0⟩) ∧
      t.point 43 = ⟨0, .valid, 0⟩ ∧ t.point 45 = ⟨1, .valid, 0⟩ ∧
      t.points.deadlines = List.replicate 28 none ∧ t.points.launch = s.points.launch ∧
      t.points.inputs = s.points.inputs ∧ t.points.ageAt = s.points.ageAt ∧
      (let n := max (max s.supply.voltageLevel s.supply.zoneLevel) s.supply.brownHold
       t.supply = { s.supply with level := n, handed := s.supply.handed || decide (n ≠ s.supply.level) }) ∧
      (∀ c, t.pumps.get c =
        if t.supply.level = s.supply.level then s.pumps.get c
        else { s.pumps.get c with
          target := effectiveTarget (s.pumps.get c).inUse (s.pumps.get c).mode t.supply.level }) ∧
      t.port = ControlPort.placeAll s.now (restartWords s) ⟨[], none, []⟩ ∧
      t.outputs.pulses = List.replicate 7 none ∧ t.outputs.sheds = s.outputs.sheds ∧ t.outputs.idles = s.outputs.idles ∧
      t.outputs.testLoad = s.outputs.testLoad ∧ OutputsResolved t ∧
      t.loader = ⟨.defaults, some ⟨true, 0, some (s.now + 1000), s.now + 100000, some s.now⟩, none, []⟩)

/-! The line receivers (sections 1.4 and 1.5). -/

/-- The sync bytes found in HUNT, the compare in CONFIRM, and misses in SYNC, the third in a row ending it; a receiver's
change into LOST is an appearance for the channel that launches toward its side (R6, R7, R9, R136). Stream positions, the
cap of the count and the loss row as the miss that causes it are the model's (log entries 6, 20 and 22). -/
def Obligations.ReceiverFindsAndLosesAlignment : Prop :=
  ∀ (p : Side) (pos : Nat) (b0 b1 b2 : Byte) (s : State),
    let q := s.at p
    let l : LineState := if s.tables.line.threshold ≤ q.lastWindow then .degraded else .ok
    let missed : Prop := ¬(b0 = 0x7A ∧ b1 = 0xC3 ∧ b2 = 0x5E)
    let c := launching p
    (q.sync = .hunt → q.pos ≤ pos →
      exec (.syncPatternFound p pos 0x7A 0xC3 0x5E) s = .next (s.setPort p { q with sync := .confirm, pos := pos })) ∧
    (q.sync = .confirm → missed →
      exec (.confirmCheck p b0 b1 b2) s = .next (s.setPort p { q with sync := .hunt, pos := q.pos + 1 })) ∧
    (q.sync = .confirm → q.lineState = .lost →
      exec (.confirmCheck p 0x7A 0xC3 0x5E) s =
        .next (writePoint (linePoint p) l.code .valid
          (s.setPort p { q with sync := .sync, missed := 0, pos := q.pos + 384, lineState := l }))) ∧
    (q.sync = .sync → missed → q.missed + 1 < 3 →
      exec (.missedSync p b0 b1 b2) s =
        .next (s.setPort p
          { q with window := min 1000 (q.window + 1), missed := q.missed + 1, pos := q.pos + 384 })) ∧
    (q.sync = .sync → missed → q.missed + 1 = 3 → q.lineState ≠ .lost → ∃ t,
      exec (.missedSync p b0 b1 b2) s = .next t ∧ exec (.lossOfSync p b0 b1 b2) s = .next t ∧
      t = applyPump c ((s.pumps.get c).appearance s.now)
        (writePoint (linePoint p) 2 .valid
          (s.setPort p
            { q with sync := .hunt, missed := 0, window := min 1000 (q.window + 1), pos := q.pos + 3, lineState := .lost }))) ∧
    (q.sync ≠ .sync → missed →
      exec (.missedSync p b0 b1 b2) s = .next s ∧ exec (.lossOfSync p b0 b1 b2) s = .next s)

/-- A frame with good sync and bad CRC in SYNC is counted in its window and resets the missed-sync count, nothing else; out
of SYNC no frame is used (R8). The end of a window: its count becomes the completed count and is written to point 30 or
31, the next window starts at 0, and the line state is taken afresh from the completed count, a change being written to
point 32 or 33 (R9). The cap of the count is the model's (log entry 20). -/
def Obligations.ErroredFramesAreCountedByTheWindow : Prop :=
  (∀ (p : Side) (f : List Byte) (s : State), f.length = 384 → f.take 3 = [0x7A, 0xC3, 0x5E] →
      (crcGood f = false → (s.at p).sync = .sync →
        exec (.erroredFrame p f) s =
          .next (s.setPort p
            { s.at p with window := min 1000 ((s.at p).window + 1), missed := 0, pos := (s.at p).pos + 384 })) ∧
      (crcGood f = false → (s.at p).sync ≠ .sync → exec (.erroredFrame p f) s = .next s) ∧
      (crcGood f = true → (s.at p).sync ≠ .sync → exec (.goodFrameArrival p f) s = .next s)) ∧
  (∀ (p : Side) (s : State), (s.at p).lossMatches →
      let q := s.at p
      let r := { q with lastWindow := q.window, window := 0, windowAt := q.windowAt + 1000000 }
      let u := writePoint (windowPoint p) q.window .valid ({ s with now := max s.now q.windowAt }.setPort p r)
      let l : LineState :=
        if q.sync = .sync then (if s.tables.line.threshold ≤ q.window then .degraded else .ok) else .lost
      exec (.windowTimerExpiry p) s =
        .next (if l = q.lineState then u else writePoint (linePoint p) l.code .valid (u.setPort p { r with lineState := l })))

/-- The header of a good frame taken in SYNC: the header record, the RFM run count, points 34 to 37 and the launch value with
its span loss; a run count that comes to 3 is an appearance for the channel that launches toward that side; the frame's
messages are then handled (R11, R89 to R91, R136). The row for the run count is this same arrival (log entry 6). -/
def Obligations.GoodFrameHeaderIsRecorded : Prop :=
  ∀ (p : Side) (f : List Byte) (s : State), goodFrame f = true → (s.at p).sync = .sync → s.points.recs.length = 46 →
    let h := frameHeader f
    let q := s.at p
    let c := launching p
    let run := if h.rfm then min 3 (q.rfmRun + 1) else 0
    ∃ u, exec (.goodFrameArrival p f) s = .next (takeArea p f u) ∧
      (h.rfm = true → q.rfmRun + 1 = 3 → exec (.rfmRunCountReached p f) s = .next (takeArea p f u)) ∧
      changesOnly [.line p, .points, .pump c, .port] s u ∧
      u.at p =
        { q with missed := 0, pos := q.pos + 384, ufm := h.ufm, ufmOrigin := h.ufmOrigin, rfm := h.rfm, rfmRun := run } ∧
      pointsOnly [ufmPoint p, rfmPoint p, lossPoint p, pumpPoint c] s u ∧
      u.point (ufmPoint p) = ⟨bit h.ufm, .valid, 0⟩ ∧ u.point (rfmPoint p) = ⟨bit h.rfm, .valid, 0⟩ ∧
      (h.launchValid = false → u.points.launch = s.points.launch ∧ u.point (lossPoint p) = s.point (lossPoint p)) ∧
      (h.launchValid = true →
        u.points.launch = s.points.launch.set p (some ⟨h.launch, s.now, false⟩) ∧
        u.point (lossPoint p) =
          (if (s.point (inputPoint p)).validity = .invalid then ⟨(s.point (lossPoint p)).value, .invalid, 0⟩
           else ⟨saturate (-32768) 32767 (h.launch - (s.point (inputPoint p)).value), .valid, 0⟩)) ∧
      u.pumps.get c =
        (if run = 3 ∧ q.rfmRun ≠ 3 then ((s.pumps.get c).appearance s.now).pump else s.pumps.get c)

/-! The Relay Engine (sections 1.5 to 1.7). -/

/-- The messages of a good frame's area are handled in order, with the table and the own address as they stand at the
arrival; what follows the first malformed one is dropped and counted once, as is a frame whose used length exceeds 370
(R3, R12). -/
def Obligations.FrameMessagesAreTakenInOrder : Prop :=
  ∀ (p : Side) (f : List Byte) (ms : List Message) (tail : List Byte) (s : State),
    (areaLength < (frameHeader f).used →
      takeArea p f s = s.setPort p { s.at p with malformed := min 65535 ((s.at p).malformed + 1) }) ∧
    ((frameHeader f).used ≤ areaLength → (∀ m ∈ ms, m.inForm) → frameUsed f = ms.flatMap Message.bytes ++ tail →
      let r := takeMessages (relayView s) p ms ⟨s.ports, s.inbox⟩
      (tail = [] → takeArea p f s = { s with ports := r.ports, inbox := r.inbox }) ∧
      (tail ≠ [] → nextMessage tail = none →
        takeArea p f s =
          { s with
            ports := r.ports.set p { r.ports.get p with malformed := min 65535 ((r.ports.get p).malformed + 1) },
            inbox := r.inbox }))

/-- What the Message Action Table's action asks of one message, by its type: forwarding costs a hop and needs room in the
relay buffer, a COMMAND or BEAT consumed or copied is handed on, a SURVEY copied is appended to, a consumed SURVEY from a
head station is returned toward it (R4, R12, R13, R14, R17, R18). A consistent SURVEY is appended to when this hut's address
is past its start-after: one entry more while there is room, else the truncated flag; every other SURVEY stays as it arrived
(R17), one shorter than its three fixed bytes among them (the model's reading, log entry 30). -/
def Obligations.MessageActionsAndSurveysAreApplied : Prop :=
  (∀ (v : RelayView) (x : Side) (m : Message) (r : RelayIO),
      let c := destClass v.own m.dst
      let col := match c with | .mine => 0 | .all => 1 | .head => 2 | .other => 3
      let act := v.actions.getD (4 * (m.type.toNat % 8) + col) .discard
      let code := m.type.toNat % 8
      let handed (k : HandedKind) : RelayIO := { r with inbox := r.inbox ++ [⟨k, ⟨m.src, m.tag, c, x⟩, m.payload⟩] }
      let relayed (n : Message) (r : RelayIO) : RelayIO :=
        let q := r.ports.get x
        { r with
          ports := r.ports.set x
            (if n.hop = 0 then { q with hopExpired := min 65535 (q.hopExpired + 1) }
             else if bufferTotal q.relay + (6 + n.payload.length) ≤ 740 then
               { q with relay := q.relay ++ [{ n with hop := n.hop - 1 }] }
             else { q with slip := min 65535 (q.slip + 1) }) }
      (act = .discard → takeMessage v x m r = r) ∧
      (act = .forward → takeMessage v x m r = relayed m r) ∧
      (act = .consume → code = 1 → takeMessage v x m r = if v.own = 0 then r else handed .command) ∧
      (act = .copy → code = 1 → takeMessage v x m r = relayed m (if v.own = 0 then r else handed .command)) ∧
      (act = .consume → code = 4 → takeMessage v x m r = handed .beat) ∧
      (act = .copy → code = 4 → takeMessage v x m r = relayed m (handed .beat)) ∧
      (act = .copy → code = 5 →
        takeMessage v x m r = relayed (if m.hop = 0 then m else { m with payload := surveyAppend v m.payload }) r) ∧
      (act = .consume → code = 5 → m.src ≠ 62 → m.src ≠ 63 → takeMessage v x m r = r) ∧
      (∀ h, act = .consume → code = 5 → m.src = headAddress h →
        takeMessage v x m r =
          { r with
            ports := offer h false
              ⟨⟨5, m.src, v.own, byteOf v.hopBudget, m.tag, surveyAppend v m.payload⟩, false⟩ r.ports }) ∧
      (act = .consume → code ≠ 1 → code ≠ 4 → code ≠ 5 → takeMessage v x m r = r) ∧
      (act = .copy → code ≠ 1 → code ≠ 4 → code ≠ 5 → takeMessage v x m r = relayed m r)) ∧
  (∀ (s : State) (start n flags : Byte) (entries : List Byte),
      let due := entries.length = 4 * n.toNat ∧ n.toNat ≤ 15 ∧ s.ownAddr ≠ 0 ∧ start.toNat < s.ownAddr.toNat
      let entry : List Byte :=
        [s.ownAddr, byteOf (s.ports.a.lineState.code + 4 * s.ports.b.lineState.code), byteOf s.supply.level,
          byteOf s.alarms.length]
      (due → n.toNat ≤ 14 →
        surveyAppend (relayView s) (start :: n :: flags :: entries) = start :: (n + 1) :: flags :: (entries ++ entry)) ∧
      (due → n.toNat = 15 →
        surveyAppend (relayView s) (start :: n :: flags :: entries) = start :: n :: (flags ||| 1) :: entries) ∧
      (¬due → surveyAppend (relayView s) (start :: n :: flags :: entries) = start :: n :: flags :: entries)) ∧
  ∀ (v : RelayView) (payload : List Byte), payload.length < 3 → surveyAppend v payload = payload

/-- A transmit event takes whole messages from the heads of the opposite port's relay buffer and then of its own insert
queue, each source until its head does not fit in 370 bytes; it forms the header from the receivers, the header record and
the amplifier output's point, and counts its frame number (R1, R22 to R25). Once it has taken the reply of a RESTART it marks
the reset due, which is the model's way to give the RESTART reset an event of its own (log entry 11). -/
def Obligations.TransmitTakesWholeMessagesFromTheHeads : Prop :=
  ∀ (p : Side) (s : State), ∃ t, exec (.transmitEvent p) s = .next t ∧
    changesOnly [.now, .line .a, .line .b, .agent] s t ∧ t.now = max s.now (s.at p).transmitAt ∧
    ∃ (rel : List Message) (ins : List Queued),
      let far := s.at (otherSide p)
      let q := s.at p
      let used := bufferTotal rel + bufferTotal (ins.map Queued.msg)
      let lost := far.sync ≠ .sync
      let out := s.point (launchPoint p)
      let h : Header :=
        { number := q.frameNumber.toNat, sender := s.ownAddr, ufm := decide lost || far.ufm, rfm := decide (q.sync ≠ .sync),
          launchValid := decide (out.validity ≠ .invalid),
          ufmOrigin := if lost then s.ownAddr else if far.ufm then far.ufmOrigin else 0,
          launch := if out.validity = .invalid then 0 else out.value, used := used }
      far.relay = rel ++ (t.at (otherSide p)).relay ∧ q.queue = ins ++ (t.at p).queue ∧ used ≤ 370 ∧
      (∀ m l, (t.at (otherSide p)).relay = m :: l → 370 < bufferTotal rel + (6 + m.payload.length)) ∧
      (∀ m l, (t.at p).queue = m :: l → 370 < used + (6 + m.msg.payload.length)) ∧
      t.at (otherSide p) = { far with relay := (t.at (otherSide p)).relay } ∧
      t.at p =
        { q with
          queue := (t.at p).queue, frameNumber := q.frameNumber + 1, transmitAt := q.transmitAt + 1000,
          sent := buildFrame h ((rel ++ ins.map Queued.msg).flatMap Message.bytes) } ∧
      t.agent =
        { s.agent with
          restart := s.agent.restart.map (fun r =>
            if ins.any (fun m => m.restartReply) then { r with due := true } else r) }

/-- The frame a transmit event sends is 384 bytes with good sync and good CRC, and a receiver reads from it the header that
was formed, with its UFM and RFM marks, UFM origin, launch and used length, and exactly the messages that left, none of them
malformed (R1, R2, R3, R22 to R25). -/
def Obligations.SentFrameReadsBackWhole : Prop :=
  ∀ (p : Side) (s t : State), MessagesInForm s → isSigned16 (s.point (launchPoint p)).value →
    exec (.transmitEvent p) s = .next t →
      let f := (t.at p).sent
      let far := s.at (otherSide p)
      goodFrame f = true ∧ (frameHeader f).ufm = (decide (far.sync ≠ .sync) || far.ufm) ∧
      (frameHeader f).ufmOrigin = (if far.sync ≠ .sync then s.ownAddr else if far.ufm then far.ufmOrigin else 0) ∧
      (frameHeader f).number = (s.at p).frameNumber.toNat ∧ (frameHeader f).sender = s.ownAddr ∧
      (frameHeader f).rfm = decide ((s.at p).sync ≠ .sync) ∧
      (frameHeader f).launchValid = decide ((s.point (launchPoint p)).validity ≠ .invalid) ∧
      (frameHeader f).launch =
        (if (s.point (launchPoint p)).validity = .invalid then 0 else (s.point (launchPoint p)).value) ∧
      ∃ (rel : List Message) (ins : List Queued),
        (s.at (otherSide p)).relay = rel ++ (t.at (otherSide p)).relay ∧ (s.at p).queue = ins ++ (t.at p).queue ∧
        (frameHeader f).used = bufferTotal (rel ++ ins.map Queued.msg) ∧
        parseMessages (frameUsed f).length (frameUsed f) = (rel ++ ins.map Queued.msg, false)

/-! Management messages (chapter 2). -/

/-- A management message taken leaves the inbox; from a head station it restarts that head's contact timer with the window
in force, and a changed contact state is written to point 43 (R27, R34, R35). A reply goes to the insert queue of the port
facing the head it answers, else of the port the command came by; at a full queue it is dropped and counted, up to 255 (R5,
R20, R21). -/
def Obligations.ContactIsRestartedAndRepliesAreQueued : Prop :=
  (∀ (h : Handed) (l : List Handed) (x : Side) (s : State), s.inbox = h :: l →
      let c := s.agent.contacts.set x (some (s.now + 60000000 * s.tables.mgmt.window))
      let running (c : Pair (Option Nat)) : Nat :=
        if c.a.isSome then (if c.b.isSome then 0 else 1) else (if c.b.isSome then 2 else 3)
      (h.sender.source = headAddress x →
        takeManaged h s =
          { s with
            inbox := l, agent := { s.agent with contacts := c },
            points :=
              if running c = running s.agent.contacts then s.points
              else s.points.write (s.deadline 43) 43 (running c) .valid }) ∧
      (h.sender.source ≠ 62 → h.sender.source ≠ 63 → takeManaged h s = { s with inbox := l })) ∧
  (∀ (m : Sender) (code : Byte) (st : Status) (result : List Byte) (s : State),
      let x : Side := if m.source = 62 then .a else if m.source = 63 then .b else m.port
      let q := s.at x
      let msg : Message :=
        ⟨2, m.source, s.ownAddr, byteOf s.tables.line.hopBudget, m.tag, code :: byteOf st.code :: result⟩
      sendReply m code st result s =
        s.setPort x
          (if q.queue.length < 24 then { q with queue := q.queue ++ [⟨msg, false⟩] }
           else { q with replyLost := min 255 (q.replyLost + 1) }))

/-- The tests every command of class MINE meets, in their order: a payload shorter than the command's fixed part is answered
BAD_VALUE, a pending restart BUSY, a controlled command of a sender without the control side NOT_CONTROLLER; nothing but
the contact restart is done (R28, R29, R30). -/
def Obligations.EarlyRefusalsChangeNothingElse : Prop :=
  ∀ (m : Sender) (c : Byte) (args : List Byte) (s : State),
    m.cls = .mine → s.ownAddr ≠ 0 → 1 ≤ c.toNat → c.toNat ≤ 17 →
      let i := commandRow m (c :: args)
      let u := s.after m (c :: args)
      (1 + args.length < fixedPart c.toNat → exec i s = .next (sendReply m c .badValue [] u)) ∧
      (fixedPart c.toNat ≤ 1 + args.length → s.agent.restart ≠ none → exec i s = .next (sendReply m c .busy [] u)) ∧
      (fixedPart c.toNat ≤ 1 + args.length → s.agent.restart = none → isControlled c.toNat = true →
        holdsControl m s = false → exec i s = .next (sendReply m c .notController [] u))

/-- READ POINTS answers the range asked for, cut at point 45, each point as its record stands at the read (R41). READ
STANDING answers up to four entries by list position and says whether more follow; it is never refused (R42). -/
def Obligations.PointsAndStandingAlarmsAreRead : Prop :=
  (∀ (m : Sender) (first count : Byte) (extra : List Byte) (s : State),
      reaches 3 false m (0x06 :: first :: count :: extra) s → s.points.recs.length = 46 →
        let u := s.after m (0x06 :: first :: count :: extra)
        let n := min count.toNat (46 - first.toNat)
        let item (p : Point) : List Byte := bytesSigned p.value ++ [byteOf p.validity.code, byteOf p.age]
        exec (.readPoints m (first :: count :: extra)) s =
          .next (if count.toNat = 0 ∨ 12 < count.toNat then sendReply m 0x06 .badValue [] u
            else if 45 < first.toNat then sendReply m 0x06 .badIndex [] u
            else
              sendReply m 0x06 (if n = count.toNat then .done else .partially)
                (first :: byteOf n :: (List.range n).flatMap (fun k => item (u.point (first.toNat + k)))) u)) ∧
  (∀ (m : Sender) (start : Byte) (extra : List Byte) (s : State), reaches 2 false m (0x07 :: start :: extra) s →
      let n := min 4 (s.alarms.length - start.toNat)
      let item (e : Standing) : List Byte :=
        [byteOf e.index, byteOf e.severity.code] ++ bytes32 e.raiseTime.toNat ++ bytesSigned e.value ++
          [byteOf (bit e.timeSet + 2 * bit (e.status = .cleared) + 4 * bit e.acknowledged + 8 * bit e.suppressed +
            16 * bit e.withheld)]
      exec (.readStanding m (start :: extra)) s =
        .next (sendReply m 0x07 .done
          ([start, byteOf n, byteOf (bit (decide (start.toNat + n < s.alarms.length)))] ++
            ((s.alarms.drop start.toNat).take n).flatMap item)
          (s.after m (0x07 :: start :: extra))))

/-- IDENTIFY answers its 26 bytes, and READ ENTRY the entries asked for in image layout, as many as the table and 59 bytes
allow (R39, R40). -/
def Obligations.IdentifyAndReadEntryAnswer : Prop :=
  ∀ (m : Sender) (id i count : Byte) (extra : List Byte) (s : State),
    (reaches 1 false m (0x01 :: extra) s →
      let u := s.after m (0x01 :: extra)
      let a := u.at .a
      let b := u.at .b
      let result : List Byte :=
        [0x24, 0x60, 0x01, s.ownAddr, byteOf s.loader.source.code, byteOf (bit s.agent.lock),
          byteOf (controlCode s.agent.control), byteOf (contactCode u.agent.contacts)] ++
          bytes16 ((s.at (replyPort m)).frameNumber - 1).toNat ++ bytes16 a.hopExpired ++ bytes16 b.hopExpired ++
          bytes16 a.malformed ++ bytes16 b.malformed ++ bytes16 a.slip ++ bytes16 b.slip ++
          [byteOf a.alertsLost, byteOf b.alertsLost, byteOf a.replyLost, byteOf b.replyLost]
      exec (.identify m extra) s = .next (sendReply m 0x01 .done result u) ∧ result.length = 26) ∧
    (reaches 4 false m (0x04 :: id :: i :: count :: extra) s →
      let u := s.after m (0x04 :: id :: i :: count :: extra)
      let n := min count.toNat (min (entryCount id.toNat - i.toNat) (59 / entrySize id.toNat))
      exec (.readEntry m (id :: i :: count :: extra)) s =
        .next (if count.toNat = 0 ∨ 4 < count.toNat then sendReply m 0x04 .badValue [] u
          else if id.toNat = 0 ∨ 12 < id.toNat then sendReply m 0x04 .badTable [] u
          else if entryCount id.toNat ≤ i.toNat then sendReply m 0x04 .badIndex [] u
          else
            sendReply m 0x04 (if n = count.toNat then .done else .partially)
              (id :: i :: byteOf n :: (((s.tables.entryBytes id.toNat).drop i.toNat).take n).flatten) u))

/-- CLAIM is granted to a head station while the control side is NONE or its own, refused otherwise; RELEASE frees the side
its sender holds; both answer the control side after the command (R32, R33). -/
def Obligations.ClaimAndReleaseMoveTheControlSide : Prop :=
  ∀ (m : Sender) (h : Side) (extra : List Byte) (s : State),
    let hold (c : Option Side) (u : State) : State := { u with agent := { u.agent with control := c } }
    let code (c : Option Side) : Byte := match c with | none => 0 | some .a => 1 | some .b => 2
    (reaches 1 false m (0x02 :: extra) s →
      let u := s.after m (0x02 :: extra)
      (m.source = headAddress h → s.agent.control = none ∨ s.agent.control = some h →
        exec (.claim m extra) s = .next (sendReply m 0x02 .done [code (some h)] (hold (some h) u))) ∧
      (m.source = headAddress h → s.agent.control = some (otherSide h) →
        exec (.claim m extra) s = .next (sendReply m 0x02 .notController [code s.agent.control] u)) ∧
      (m.source ≠ 62 → m.source ≠ 63 →
        exec (.claim m extra) s = .next (sendReply m 0x02 .notController [code s.agent.control] u))) ∧
    (reaches 1 false m (0x03 :: extra) s →
      let u := s.after m (0x03 :: extra)
      (m.source = headAddress h → s.agent.control = some h →
        exec (.release m extra) s = .next (sendReply m 0x03 .done [0] (hold none u))) ∧
      ((m.source = 62 → s.agent.control ≠ some .a) → (m.source = 63 → s.agent.control ≠ some .b) →
        exec (.release m extra) s = .next (sendReply m 0x03 .done [code s.agent.control] u)))

/-! Writing entries (R43, R44, and the owners' rules). -/

/-- WRITE ENTRY's refusals in their order: a table id outside 1 to 12, an entry too short, an index past the table, an
autoload, the safety lock, a store in flight, the owner's own refusal; none changes a table (R43, R44). A WRITE ENTRY
without a table id is the other-table row (log entry 26). -/
def Obligations.WriteRefusalsComeInOrder : Prop :=
  ∀ (m : Sender) (id : Nat) (i : Byte) (e l : List Byte) (s : State),
    (otherTable l = true → reaches 3 true m (0x05 :: l) s →
      exec (.writeEntryOtherTable m l) s = .next (sendReply m 0x05 .badTable [] (s.after m (0x05 :: l)))) ∧
    (1 ≤ id → id ≤ 12 → reaches 3 true m (0x05 :: byteOf id :: i :: e) s →
      let u := s.after m (0x05 :: byteOf id :: i :: e)
      let answer (st : Status) : Prop :=
        exec (writeRow m id (byteOf id :: i :: e) (i :: e)) s = .next (sendReply m 0x05 st [] u)
      let short := e.length < entrySize id
      let past := entryCount id ≤ i.toNat
      let loading := s.loader.autoload ≠ none
      let locked := lockRefuses id i.toNat (e.take (entrySize id)) s = true
      let storing := s.agent.store ≠ none
      (short → answer .badValue) ∧ (¬short → past → answer .badIndex) ∧ (¬short → ¬past → loading → answer .busy) ∧
      (¬short → ¬past → ¬loading → locked → answer .locked) ∧
      (¬short → ¬past → ¬loading → ¬locked → storing → answer .busy) ∧
      (¬short → ¬past → ¬loading → ¬locked → ¬storing → entryAccepted id i.toNat (e.take (entrySize id)) = false →
        answer .badValue))

/-- Every WRITE ENTRY its owner accepts is answered DONE; the entry then reads back as it was written, every other entry of
every table as before, and the EEPROM is untouched. This covers tables 1 to 12, by the row of each: WRITE_MESSAGE_ACTION,
WRITE_SCAN_LIST, WRITE_CHANNEL_CALIBRATION, WRITE_CONVERSION_CURVE, WRITE_POLL_ENTRY, WRITE_CONDITION, WRITE_SHED_TABLE,
WRITE_SUPPLY_SETTINGS, WRITE_PUMP_SETTINGS, WRITE_LINE_SETTINGS, WRITE_OUTPUT_SETTINGS and WRITE_MANAGEMENT_SETTINGS
(R43, R160). What the owner does at that event: a Message Action or Management Settings entry is used from then on and
nothing else changes (R15, R37); the outputs take their new Shed Table or Output Settings and are resolved afresh (R156);
the Supply Manager takes its charge limit, derated mark, hold point, zone level and shed level afresh and places the charger
words that changed (R146, R153); a channel takes its settings change (R132); both line states are taken afresh (R9, R16).
That CURRENT_LIMIT is placed before VOLTAGE_TARGET is the model's choice (log entry 41). The owners of tables 2 to 6 have
statements of their own. -/
def Obligations.AcceptedWriteReadsBackExactly : Prop :=
  (∀ (m : Sender) (id : Nat) (i : Byte) (e : List Byte) (s : State), TablesLawful s → writeReaches id m i e s →
    entryAccepted id i.toNat (e.take (entrySize id)) = true → ∃ u,
      exec (writeRow m id (byteOf id :: i :: e) (i :: e)) s = .next (sendReply m 0x05 .done [] u) ∧
      (u.tables.entryBytes id)[i.toNat]? = some (e.take (entrySize id)) ∧
      (∀ (id' j : Nat), id' ≠ id ∨ j ≠ i.toNat → (u.tables.entryBytes id')[j]? = (s.tables.entryBytes id')[j]?) ∧
      u.eeprom = s.eeprom ∧ u.loader = s.loader ∧ u.agent.control = s.agent.control ∧ u.agent.lock = s.agent.lock) ∧
  (∀ (m : Sender) (i : Byte) (e : List Byte) (s : State), TablesLawful s → s.points.recs.length = 46 →
    let did (x : Instr) (u : State) (l : List Part) (points : List Nat) : Prop :=
      exec x s = .next (sendReply m 0x05 .done [] u) ∧
        changesOnly (l ++ [.inbox, .agent, .points, .tables]) s u ∧ pointsOnly (43 :: points) s u
    (∀ a, writeReaches 1 m i e s → readAction i.toNat (e.take 1) = some a → ∃ u,
      did (.writeMessageAction m (i :: e)) u [] [] ∧
      u.tables = { s.tables with actions := s.tables.actions.set i.toNat a }) ∧
    (∀ v, writeReaches 7 m i e s → readShed (e.take 1) = some v → ∃ u,
      did (.writeShedTable m (i :: e)) u [.outputs] [] ∧
      u.tables = { s.tables with sheds := s.tables.sheds.set i.toNat v } ∧
      u.outputs = { s.outputs with sheds := u.tables.sheds, levels := (List.range 7).map u.outLevel }) ∧
    (∀ g, writeReaches 8 m i e s → readSupply (e.take 43) = some g → ∃ u,
      did (.writeSupplySettings m (i :: e)) u [.supply, .pump .ab, .pump .ba, .port, .outputs] [39, 41, 42] ∧
      let w := s.supply
      let q := w.pv = .qualified
      let rating := 1000 * (g.arrayCode + 1)
      let limit := if q then min rating w.limit else w.limit
      let current (n : Nat) : Nat := match w.zone with | .normal => n | .cool | .warm => n / 2 | _ => 0
      let voltage (g : SupplySettings) : Int :=
        if w.stage = .float then (if w.zone = .warm then g.floatVoltage - g.warmReduction else g.floatVoltage)
        else g.absorbVoltage
      let enabled := w.stage = .bulk ∨ w.stage = .absorb ∨ w.stage = .float
      u.tables = { s.tables with supply := g } ∧
      u.supply =
        { w with
          inUse := g, limit := limit, derated := if q then decide (limit < rating) else w.derated,
          hold := if q then max g.floor w.hold else w.hold,
          zoneLevel := (match w.zone with | .cold => g.coldLevel | .hot => g.hotLevel | _ => 0), level := u.shedLevel } ∧
      (OutputsResolved s → OutputsResolved u) ∧
      (u.supply.level = w.level → u.port = ControlPort.placeAll s.now
        ((if enabled ∧ current w.limit ≠ current limit then
            [⟨.charger, .currentLimit, current limit / 10, .charger⟩] else []) ++
          (if enabled ∧ voltage w.inUse ≠ voltage g then
            [⟨.charger, .voltageTarget, (voltage g / 2).toNat, .charger⟩] else [])) s.port)) ∧
    (∀ g, writeReaches 9 m i e s → readPump (e.take 15) = some g →
      let c : Channel := if i = 0 then .ab else .ba
      let r := (s.pumps.get c).settingsChange s.now s.supply.level g
      ∃ u, did (.writePumpSettings m (i :: e)) u [.pump c, .port] [pumpPoint c] ∧
      u.tables = { s.tables with pumps := s.tables.pumps.set c g } ∧ u.pumps.get c = r.pump ∧
      u.port = ControlPort.placeAll s.now (r.words.map (PumpWord.on c)) s.port ∧
      u.point (pumpPoint c) =
        (if r.pump.state = (s.pumps.get c).state then s.point (pumpPoint c) else ⟨r.pump.state.code, .valid, 0⟩)) ∧
    (∀ g, writeReaches 10 m i e s → readLine (e.take 3) = some g → (∀ x, (s.at x).lossMatches) → ∃ u,
      did (.writeLineSettings m (i :: e)) u [.line .a, .line .b] [32, 33] ∧ u.tables = { s.tables with line := g } ∧
      ∀ x,
        let q := s.at x
        let l : LineState :=
          if q.sync = .sync then (if g.threshold ≤ q.lastWindow then .degraded else .ok) else .lost
        u.at x = { q with lineState := l } ∧
          u.point (linePoint x) = (if l = q.lineState then s.point (linePoint x) else ⟨l.code, .valid, 0⟩)) ∧
    (∀ v, writeReaches 11 m i e s → readIdle i.toNat (e.take 1) = some v → ∃ u,
      did (.writeOutputSettings m (i :: e)) u [.outputs] [] ∧
      u.tables = { s.tables with idles := s.tables.idles.set i.toNat v } ∧
      u.outputs = { s.outputs with idles := u.tables.idles, levels := (List.range 7).map u.outLevel }) ∧
    (∀ g, writeReaches 12 m i e s → readManagement (e.take 3) = some g → ∃ u,
      did (.writeManagementSettings m (i :: e)) u [] [] ∧ u.tables = { s.tables with mgmt := g }))

/-- The Sampling Unit's three tables: an accepted Scan List ends the scan and restarts the settling of the channels new to
it; an accepted calibration or curve restarts the settling of the channels that use it and abandons the conversion of such
a channel; filters and the points of channels stand (R60, R61, R64, R67). -/
def Obligations.SamplingWritesRestartSettling : Prop :=
  ∀ (m : Sender) (i : Byte) (e : List Byte) (s : State), TablesLawful s →
    let settled (was now : Sampling) (picked : Nat → Prop) [DecidablePred picked] : Prop :=
      now.accumulator = was.accumulator ∧ now.periodAt = was.periodAt ∧
        ∀ ch < 16, now.settle.getD ch .discard = if picked ch then .discard else was.settle.getD ch .discard
    let gone (now : Sampling) (picked : Nat → Prop) [DecidablePred picked] : Prop :=
      now.conversion =
        (match s.sampling.conversion with
         | none => none
         | some k =>
           if picked (s.tables.scan.channels.getD k.slot 0) then
             (if k.slot + 1 < s.tables.scan.count then some ⟨k.slot + 1, s.now + 20⟩ else none)
           else some k)
    (∀ t, writeReaches 2 m i e s → readScan (e.take 19) = some t → ∃ u,
      exec (.writeScanList m (i :: e)) s = .next (sendReply m 0x05 .done [] u) ∧
      u.tables = { s.tables with scan := t } ∧ u.sampling.conversion = none ∧
      settled s.sampling u.sampling (fun ch => t.holds ch = true ∧ s.tables.scan.holds ch = false) ∧
      changesOnly [.inbox, .agent, .points, .tables, .sampling] s u ∧ pointsOnly [43] s u) ∧
    (∀ c, writeReaches 3 m i e s → readCalibration (e.take 7) = some c → ∃ u,
      exec (.writeChannelCalibration m (i :: e)) s = .next (sendReply m 0x05 .done [] u) ∧
      u.tables = { s.tables with cals := s.tables.cals.set i.toNat c } ∧
      settled s.sampling u.sampling (fun ch => ch = i.toNat) ∧ gone u.sampling (fun ch => ch = i.toNat) ∧
      changesOnly [.inbox, .agent, .points, .tables, .sampling] s u ∧ pointsOnly [43] s u) ∧
    (∀ c, writeReaches 4 m i e s → readCurve (e.take 49) = some c → ∃ u,
      exec (.writeConversionCurve m (i :: e)) s = .next (sendReply m 0x05 .done [] u) ∧
      u.tables = { s.tables with curves := s.tables.curves.set i.toNat c } ∧
      settled s.sampling u.sampling (fun ch => usesCurve s.tables i.toNat ch = true) ∧
      gone u.sampling (fun ch => usesCurve s.tables i.toNat ch = true) ∧
      changesOnly [.inbox, .agent, .points, .tables, .sampling] s u ∧ pointsOnly [43] s u)

/-- An accepted poll entry is due at once when in use and idle otherwise, its point INVALID; a read of it under way is marked
so that its result is thrown away, and a free bus is granted (R78, R83). -/
def Obligations.PollWriteRestartsItsEntry : Prop :=
  ∀ (m : Sender) (i : Byte) (e : List Byte) (v : PollEntry) (s : State), TablesLawful s → PollLawful s →
    s.points.recs.length = 46 → writeReaches 5 m i e s → readPollEntry (e.take 12) = some v → ∃ u,
      exec (.writePollEntry m (i :: e)) s = .next (sendReply m 0x05 .done [] u) ∧
      u.tables = { s.tables with polls := s.tables.polls.set i.toNat v } ∧
      u.point (16 + i.toNat) = ⟨(s.point (16 + i.toNat)).value, .invalid, 0⟩ ∧
      pointsOnly [16 + i.toNat, 43] s u ∧ changesOnly [.inbox, .agent, .points, .tables, .poll] s u ∧
      (v.addr = 0 → u.poll.run i.toNat = ⟨.idle, 0, none⟩) ∧
      (v.addr ≠ 0 → s.poll.op ≠ none → u.poll.run i.toNat = ⟨.due, 0, none⟩) ∧
      (s.poll.op = none → (u.poll.op = none → u.poll.firstDue = none) ∧ (v.addr ≠ 0 → u.poll.op ≠ none)) ∧
      (∀ o, s.poll.op = some o → u.poll.op =
        some (if o.index = i.toNat ∧ o.kind ≠ .startup then { o with discard := true } else o))

/-- An accepted Condition Table entry starts its condition again with count 0; the list entry it had, standing or latched,
is gone, every other list entry stays, and the three outputs are those of the conditions that still stand (R100, R112 to
R114, R123). -/
def Obligations.ConditionWriteStartsItsConditionAgain : Prop :=
  ∀ (m : Sender) (i : Byte) (e : List Byte) (c : Condition) (s : State), TablesLawful s → ListLawful s → EngineLawful s →
    writeReaches 6 m i e s → readCondition i.toNat (e.take 16) = some c → ∃ u,
      exec (.writeCondition m (i :: e)) s = .next (sendReply m 0x05 .done [] u) ∧
      u.tables = { s.tables with conds := s.tables.conds.set i.toNat c } ∧
      u.engine.run i.toNat = ⟨if c.enable then .clear else .idle, 0⟩ ∧
      (∀ j, j ≠ i.toNat → u.engine.run j = s.engine.run j) ∧ u.engine.passAt = s.engine.passAt ∧
      u.alarms = s.alarms.filter (fun x => x.index != i.toNat) ∧
      u.engine.shedRequest = shedRequestOf (standingActions u.tables u.engine.runs) ∧
      u.engine.reduce.ab = reduceOf .ab (standingActions u.tables u.engine.runs) ∧
      u.engine.reduce.ba = reduceOf .ba (standingActions u.tables u.engine.runs) ∧
      u.engine.outRequest = outRequestOf (standingActions u.tables u.engine.runs) ∧
      changesOnly [.inbox, .agent, .points, .tables, .engine, .alarms, .line .a, .line .b, .supply, .outputs, .pump .ab,
        .pump .ba, .port] s u

/-! The controlled commands (R44 to R53). -/

/-- FORCE OUTPUT, FORCE SHED and PUMP MODE set their forcings, which the Output Resolver, the Supply Manager and Pump Control
take at once (AB before BA), or answer BAD_VALUE and do nothing more (R45, R46, R47). -/
def Obligations.ForcingsAreSetAndTakenAtOnce : Prop :=
  ∀ (m : Sender) (a b : Byte) (extra : List Byte) (s : State),
    (reaches 3 true m (0x09 :: a :: b :: extra) s →
      let u := s.after m (0x09 :: a :: b :: extra)
      (a.toNat ≤ 6 → b.toNat ≤ 2 → ∃ v,
        exec (.forceOutput m (a :: b :: extra)) s = .next (sendReply m 0x09 .done [] v) ∧
        v.agent = { u.agent with
          outForce := u.agent.outForce.set a.toNat (if b = 0 then some false else if b = 1 then some true else none) } ∧
        v.outputs = { u.outputs with levels := (List.range 7).map v.outLevel } ∧ changesOnly [.agent, .outputs] u v) ∧
      (6 < a.toNat ∨ 2 < b.toNat → exec (.forceOutput m (a :: b :: extra)) s = .next (sendReply m 0x09 .badValue [] u))) ∧
    (reaches 2 true m (0x0A :: a :: extra) s →
      let u := s.after m (0x0A :: a :: extra)
      (a.toNat ≤ 4 ∨ a = 0xFF → ∃ v,
        exec (.forceShed m (a :: extra)) s = .next (sendReply m 0x0A .done [] v) ∧
        v.agent = { u.agent with shedForce := if a = 0xFF then none else some a.toNat } ∧
        v.supply = { u.supply with level := v.shedLevel } ∧ (a ≠ 0xFF → v.supply.level = a.toNat) ∧
        changesOnly [.agent, .supply, .points, .pump .ab, .pump .ba, .port, .outputs] u v) ∧
      (4 < a.toNat → a ≠ 0xFF → exec (.forceShed m (a :: extra)) s = .next (sendReply m 0x0A .badValue [] u))) ∧
    (reaches 3 true m (0x0B :: a :: b :: extra) s →
      let u := s.after m (0x0B :: a :: b :: extra)
      let md : Mode := if b = 0 then .off else if b = 1 then .normal else .boost
      let force (c : Channel) (w : State) : State :=
        modeRequest c md { w with agent := { w.agent with pumpForce := w.agent.pumpForce.set c (some md) } }
      (a.toNat ≤ 2 → b.toNat ≤ 2 →
        exec (.pumpMode m (a :: b :: extra)) s =
          .next (sendReply m 0x0B .done []
            (if a = 0 then force .ab u else if a = 1 then force .ba u else force .ba (force .ab u)))) ∧
      (2 < a.toNat ∨ 2 < b.toNat → exec (.pumpMode m (a :: b :: extra)) s = .next (sendReply m 0x0B .badValue [] u)))

/-- PULSE OUTPUT's tests in their order, and its pulse: the inverse of the level without it, for the duration, over every
other rank; at the end of any pulse in progress the output is resolved without it (R48, R157, R158). The end of a pulse on
an output without one changes nothing (log entry 3). -/
def Obligations.PulsesInvertUntilTheirEnd : Prop :=
  (∀ (m : Sender) (o hi lo : Byte) (extra : List Byte) (s : State),
    reaches 4 true m (0x0C :: o :: hi :: lo :: extra) s → s.outputs.pulses.length = 7 →
      let u := s.after m (0x0C :: o :: hi :: lo :: extra)
      let d := hi.toNat * 256 + lo.toNat
      let remote := s.tables.mgmt.remote
      let wrong := 6 < o.toNat ∨ d < 100 ∨ 5000 < d
      let pulsing := s.outputs.pulses.getD o.toNat none ≠ none
      let answer (st : Status) : Prop :=
        exec (.pulseOutput m (o :: hi :: lo :: extra)) s = .next (sendReply m 0x0C st [] u)
      (remote = false → answer .disabled) ∧ (remote = true → wrong → answer .badValue) ∧
      (remote = true → ¬wrong → pulsing → answer .busy) ∧
      (remote = true → ¬wrong → ¬pulsing → ∃ v,
        exec (.pulseOutput m (o :: hi :: lo :: extra)) s = .next (sendReply m 0x0C .done [] v) ∧
        v.outputs =
          { u.outputs with
            pulses := u.outputs.pulses.set o.toNat (some ⟨!s.baseLevel o.toNat, s.now + 1000 * d⟩),
            levels := (List.range 7).map v.outLevel } ∧
        v.outputs.levels.getD o.toNat false = (!s.baseLevel o.toNat) ∧ changesOnly [.outputs] u v)) ∧
  ∀ (i : Fin 7) (s : State), s.outputs.pulses.length = 7 →
    (∀ x, s.outputs.pulses.getD i none = some x → ∃ w,
      exec (.pulseEnd i) s = .next w ∧ w.now = max s.now x.endAt ∧
      w.outputs =
        { s.outputs with pulses := s.outputs.pulses.set i none, levels := (List.range 7).map w.outLevel } ∧
      w.outputs.levels.getD i false = s.baseLevel i ∧ changesOnly [.now, .outputs] s w) ∧
    (s.outputs.pulses.getD i none = none → exec (.pulseEnd i) s = .next s)

/-- ACK ALARM acknowledges a RAISED entry and removes a CLEARED one, of one condition or of all; every other entry and the
order stand, and no alert is built (R49, R125). -/
def Obligations.AcknowledgementMarksOrRemoves : Prop :=
  ∀ (m : Sender) (a : Byte) (extra : List Byte) (s : State), reaches 2 true m (0x08 :: a :: extra) s →
    let u := s.after m (0x08 :: a :: extra)
    let named (e : Standing) : Bool := a == 0xFF || e.index == a.toNat
    (63 < a.toNat → a ≠ 0xFF → exec (.ackAlarm m (a :: extra)) s = .next (sendReply m 0x08 .badValue [] u)) ∧
    (a.toNat ≤ 63 ∨ a = 0xFF →
      exec (.ackAlarm m (a :: extra)) s =
        .next (sendReply m 0x08 .done []
          { u with
            alarms := (s.alarms.filter (fun e => !(named e && decide (e.status = .cleared)))).map
              (fun e => if named e then { e with acknowledged := true } else e) }))

/-- REQUALIFY SUPPLY releases a lockout into SETTLING with no failures, CHARGE RESTART leaves charge stage FAULT; in any
other state each is answered DONE and changes nothing; an entry to BULK places CURRENT_LIMIT, VOLTAGE_TARGET and ENABLE 1 (R50,
R148, R152, R153). SET LOCK sets the safety lock; STORE SETTINGS begins a store of the live tables' image and answers nothing
yet; RESTART offers its DONE reply and then waits for it; a store or an autoload makes the last two BUSY (R44, R51, R52, R53,
R163). Where the queue was full the model only marks the reset due, which RESTART_RESET then is (log entry 11). -/
def Obligations.SupplyLockStoreAndRestartCommands : Prop :=
  (∀ (m : Sender) (extra : List Byte) (s : State), SupplyLawful s → ShedLawful s →
      (reaches 1 true m (0x0D :: extra) s →
        let u := s.after m (0x0D :: extra)
        (s.supply.pv ≠ .lockedOut → exec (.requalifySupply m extra) s = .next (sendReply m 0x0D .done [] u)) ∧
        (s.supply.pv = .lockedOut → ∃ v,
          exec (.requalifySupply m extra) s = .next (sendReply m 0x0D .done [] v) ∧
          v.supply = { s.supply with pv := .settling, failures := 0, settleAt := some (s.now + 1000000) } ∧
          (s.points.recs.length = 46 → v.point 40 = ⟨1, .valid, 0⟩) ∧ pointsOnly [40] u v ∧
          changesOnly [.supply, .points] u v)) ∧
      (reaches 1 true m (0x0E :: extra) s →
        let u := s.after m (0x0E :: extra)
        (s.supply.stage ≠ .fault → exec (.chargeRestart m extra) s = .next (sendReply m 0x0E .done [] u)) ∧
        (s.supply.stage = .fault → ∃ v,
          exec (.chargeRestart m extra) s = .next (sendReply m 0x0E .done [] v) ∧
          v.supply =
            (if s.supply.pv = .qualified then
               (if s.supply.zone = .cold ∨ s.supply.zone = .hot then { s.supply with stage := .halted }
                else { s.supply with stage := .bulk, stageTime := 0 })
             else { s.supply with stage := .off }) ∧
          (let current := match s.supply.zone with | .normal => s.supply.limit | _ => s.supply.limit / 2
           v.port = ControlPort.placeAll s.now
             (if v.supply.stage = .bulk then
                [⟨.charger, .currentLimit, current / 10, .charger⟩,
                  ⟨.charger, .voltageTarget, (s.supply.inUse.absorbVoltage / 2).toNat, .charger⟩,
                  ⟨.charger, .chargeEnable, 1, .charger⟩]
              else []) s.port) ∧
          changesOnly [.supply, .port] u v))) ∧
  (∀ (m : Sender) (extra : List Byte) (s : State),
      let loading := s.agent.store ≠ none ∨ s.loader.autoload ≠ none
      (reaches 1 true m (0x0F :: extra) s →
        let u := s.after m (0x0F :: extra)
        exec (.setLock m extra) s = .next (sendReply m 0x0F .done [] { u with agent := { u.agent with lock := true } })) ∧
      (reaches 1 true m (0x10 :: extra) s →
        let u := s.after m (0x10 :: extra)
        (loading → exec (.storeSettings m extra) s = .next (sendReply m 0x10 .busy [] u)) ∧
        (¬loading →
          exec (.storeSettings m extra) s =
            .next
              { u with
                agent := { u.agent with store := some m },
                loader := { u.loader with store := some ⟨s.tables.image, 1, .writing⟩ } })) ∧
      (reaches 1 true m (0x11 :: extra) s →
        let u := s.after m (0x11 :: extra)
        let x := replyPort m
        (loading → exec (.restart m extra) s = .next (sendReply m 0x11 .busy [] u)) ∧
        (¬loading → (s.at x).queue.length < 24 →
          exec (.restart m extra) s =
            .next
              (State.setPort x
                { s.at x with queue := (s.at x).queue ++ [⟨replyMessage s m 0x11 .done [], true⟩] }
                { u with agent := { u.agent with restart := some ⟨x, false⟩ } })) ∧
        (¬loading → 24 ≤ (s.at x).queue.length →
          exec (.restart m extra) s =
            .next
              (State.setPort x { s.at x with replyLost := min 255 ((s.at x).replyLost + 1) }
                { u with agent := { u.agent with restart := some ⟨x, true⟩ } }))))

/-- The safety lock, once set, stays set whatever command runs but power-on reset and the reset pin; while it is set no head
write changes the Pump Settings, nor a Condition Table entry that has a reduce action or would get one (R44). -/
def Obligations.SafetyLockProtectsReduceAndPumps : Prop :=
  ∀ (i : Instr) (s t : State), s.agent.lock = true → exec i s = .next t →
    (∀ addr inputs, i ≠ .powerOnReset addr inputs ∧ i ≠ .resetPin addr inputs) →
      t.agent.lock = true ∧
      (s.loader.autoload = none → (∀ addr, i ≠ .restartReset addr) →
        t.tables.pumps = s.tables.pumps ∧
        ∀ (j : Nat) (c : Condition), s.tables.conds[j]? = some c → t.tables.conds[j]? ≠ some c →
          ∃ d : Condition, t.tables.conds[j]? = some d ∧ (∀ x, c.action ≠ .reduce x) ∧ ∀ x, d.action ≠ .reduce x)

/-- A COMMAND of class ALL: ACK ALARM with FFh, FORCE SHED and PUMP MODE act as for one hut when the sender holds the
control side, no restart is pending and no autoload runs; they send no reply, and every other case, of class ALL, HEAD or
OTHER, an empty payload among them, does nothing but the contact restart (R27, R31). -/
def Obligations.BroadcastsActWithoutReply : Prop :=
  ∀ (m : Sender) (c : Byte) (args : List Byte) (s : State), s.ownAddr ≠ 0 →
    let u := s.after m (c :: args)
    let a := (args.getD 0 0).toNat
    let b := (args.getD 1 0).toNat
    let free := s.agent.restart = none ∧ s.loader.autoload = none ∧ holdsControl m s = true
    let acts := (c = 0x08 ∧ 1 ≤ args.length ∧ a = 255) ∨ (c = 0x0A ∧ 1 ≤ args.length ∧ (a ≤ 4 ∨ a = 255)) ∨
      (c = 0x0B ∧ 2 ≤ args.length ∧ a ≤ 2 ∧ b ≤ 2)
    (m.cls = .all → ¬(free ∧ acts) → exec (commandRow m (c :: args)) s = .next u) ∧
    (m.cls = .all → free → acts →
      (c = 0x08 → exec (.ackAlarm m args) s = .next { u with alarms := acknowledge none s.alarms }) ∧
      (c = 0x0A → exec (.forceShed m args) s = .next (setShedForcing (if a = 255 then none else some a) u)) ∧
      (c = 0x0B → exec (.pumpMode m args) s = .next (forcePumps a (modeOf b) u))) ∧
    (m.cls = .head ∨ m.cls = .other → exec (commandRow m (c :: args)) s = .next u) ∧
    (m.cls ≠ .mine → exec (commandRow m []) s = .next (s.after m []))

/-- A COMMAND that names no command is answered UNKNOWN, with its first byte or 00h; one that is ignored, and a BEAT too
short, do nothing but the contact restart; a BEAT sets the hut time and restarts its second, which then counts and wraps;
an unaddressed hut takes no COMMAND, which only leaves the inbox (R12, R30, R31, R38; the last is the model's choice, log entry
9). -/
def Obligations.UnknownIgnoredAndTime : Prop :=
  ∀ (m : Sender) (payload : List Byte) (s : State),
    (m.cls = .mine → s.ownAddr ≠ 0 → payload = [] →
      exec (.unknownCommand m payload) s = .next (sendReply m 0 .unknown [] (s.after m payload))) ∧
    (∀ c l, payload = c :: l → m.cls = .mine → s.ownAddr ≠ 0 → c = 0 ∨ 17 < c.toNat →
      exec (.unknownCommand m payload) s = .next (sendReply m c .unknown [] (s.after m payload))) ∧
    (payload = [] → m.cls ≠ .mine → s.ownAddr ≠ 0 → exec (.ignoredCommand m payload) s = .next (s.after m payload)) ∧
    (∀ c l, payload = c :: l → m.cls ≠ .mine → s.ownAddr ≠ 0 → c ≠ 0x08 → c ≠ 0x0A → c ≠ 0x0B →
      exec (.ignoredCommand m payload) s = .next (s.after m payload)) ∧
    (s.ownAddr = 0 →
      exec (commandRow m payload) s =
        .next (if s.inbox.head? = some ⟨.command, m, payload⟩ then { s with inbox := s.inbox.tail } else s)) ∧
    (let u := takeManaged ⟨.beat, m, payload⟩ s
     (payload.length < 4 → exec (.beat m payload) s = .next u) ∧
     (4 ≤ payload.length →
       exec (.beat m payload) s =
         .next { u with
           agent := { u.agent with
             hutTime := BitVec.ofNat 32 (((byteAt payload 0 * 256 + byteAt payload 1) * 256 + byteAt payload 2) * 256 +
               byteAt payload 3),
             timeSet := true, secondAt := s.now + 1000000 } })) ∧
    exec .hutTimeTick s =
      .next { s with
        now := max s.now s.agent.secondAt,
        agent := { s.agent with hutTime := s.agent.hutTime + 1, secondAt := s.agent.secondAt + 1000000 } }

/-- A contact timer's expiry: the timer expired, the control side dropped when that head held it, point 43 written; at the
expiry of the last one every forcing is removed and each channel is handed its stored mode (R35, R36). The stored mode is
that of the settings in use (log entry 29), and AB takes its mode before BA (log entry 38). -/
def Obligations.ContactExpiryDropsControlAndForcings : Prop :=
  ∀ (h : Side) (at' : Nat) (s : State), s.agent.contacts.get h = some at' →
    s.points.recs.length = 46 → PumpsLawful s → ∃ t,
    exec (.contactTimerExpiry h) s = .next t ∧ t.now = max s.now at' ∧
    t.agent.contacts = s.agent.contacts.set h none ∧
    t.agent.control = (if s.agent.control = some h then none else s.agent.control) ∧
    t.agent.lock = s.agent.lock ∧ t.agent.hutTime = s.agent.hutTime ∧ t.agent.store = s.agent.store ∧
    t.agent.restart = s.agent.restart ∧
    t.point 43 = ⟨contactCode t.agent.contacts, .valid, 0⟩ ∧
    (s.agent.contacts.get (otherSide h) ≠ none →
      t.agent.outForce = s.agent.outForce ∧ t.agent.shedForce = s.agent.shedForce ∧
      t.agent.pumpForce = s.agent.pumpForce ∧ changesOnly [.now, .agent, .points] s t ∧ pointsOnly [43] s t) ∧
    (s.agent.contacts.get (otherSide h) = none →
      t.agent.outForce = List.replicate 7 none ∧ t.agent.shedForce = none ∧ t.agent.pumpForce = ⟨none, none⟩ ∧
      t.supply = { s.supply with level := t.shedLevel } ∧ OutputsResolved t ∧
      t.outputs.pulses = s.outputs.pulses ∧
      (∀ c, (t.pumps.get c).mode = (s.pumps.get c).inUse.storedMode ∧
        ((s.pumps.get c).inUse.storedMode = .off → (t.pumps.get c).state = .off) ∧
        ((s.pumps.get c).inUse.storedMode ≠ .off → (s.pumps.get c).state = .off ∨ (s.pumps.get c).state = .fault →
          (t.pumps.get c).state = .startWait)) ∧
      changesOnly [.now, .agent, .points, .supply, .outputs, .pump .ab, .pump .ba, .port] s t ∧
      pointsOnly [39, 41, 42, 43] s t)

/-! Stored settings (chapter 10). -/

/-- The image and the tables correspond: the image of acceptable tables passes every check of an autoload and gives them
back, and an image that passes is the image of acceptable tables, byte for byte (R160, R161). -/
def Obligations.ImageAndTablesCorrespond : Prop :=
  (∀ t : Tables, t.good → t.image.length = 1625 ∧ acceptImage t.image = some t) ∧
    ∀ (img : List Byte) (t : Tables), acceptImage img = some t → t.good ∧ t.image = img

/-- How an autoload ends: with the tables of a good image, STORED, or with the tables in force, DEFAULTS, after a bad or
failed read, the deadline or the last address retry; the blocks take their tables and start at that same event, the
pumps' stored modes and the supply check only after power-on or the reset pin (R73, R84, R118, R132, R142, R159, R161,
R162). What the part did on the EEPROM port in an attempt or a read that ended is recorded (R161; log entry 28): for a whole
read device address 54h for writing, memory address 0, a repeated start, the address for reading and an acknowledge after
every byte but the last; after a not-acknowledge a stop, after a lost data line both lines released. The read begins at the
reset or at an acknowledged retry. The tenth address retry is the last, the stored mode is a mode request, a data line lost
in the device address ends the autoload, a bad image is read whole, and a read's end is taken also after a retry that was
not acknowledged: the model's reading (log entries 19, 23, 32, 38, 42 to 45 and 47). -/
def Obligations.AutoloadEndsAndStartsEveryBlock : Prop :=
  ∀ (l : Autoload) (s : State), s.loader.autoload = some l → s.points.recs.length = 46 → PumpsLawful s →
    let attempt : List BusSignal := [.start] ++ sendByte 0xA8 ++ [.stop]
    let whole : List BusSignal :=
      [.start] ++ sendByte 0xA8 ++ sendByte 0x00 ++ sendByte 0x00 ++ [.start] ++ sendByte 0xA9 ++
        (List.replicate 1624 (receiveByte true)).flatten ++ receiveByte false ++ [.stop]
    let ends (i : Instr) (now : Nat) (good : Option Tables) (driven : List BusSignal) : Prop := ∃ t, exec i s = .next t ∧
      t.now = now ∧ t.tables = good.getD s.tables ∧
      t.loader = ⟨if good.isSome then .stored else .defaults, none, s.loader.store, driven⟩ ∧
      t.point 45 = ⟨if good.isSome then 0 else 1, .valid, 0⟩ ∧
      t.sampling = { s.sampling with periodAt := some (now + 1000 * t.tables.scan.period), conversion := some ⟨0, now + 20⟩ } ∧
      t.poll = { s.poll with op := some ⟨.startup, 0, builtinPoll, false⟩ } ∧
      t.engine = { s.engine with
        runs := t.tables.conds.map (fun c => ⟨if c.enable then .clear else .idle, 0⟩), passAt := some (now + 100000) } ∧
      t.supply.inUse = t.tables.supply ∧ t.outputs.sheds = t.tables.sheds ∧ t.outputs.idles = t.tables.idles ∧
      OutputsResolved t ∧
      t.supply.checkAt = (if l.afterRestart then s.supply.checkAt else some (now + 1000000)) ∧
      (∀ c, (t.pumps.get c).inUse = t.tables.pumps.get c ∧
        (t.pumps.get c).mode =
          (if l.afterRestart = true ∨ s.agent.pumpForce.get c ≠ none then (s.pumps.get c).mode
           else (t.tables.pumps.get c).storedMode)) ∧
      changesOnly [.now, .tables, .loader, .points, .sampling, .poll, .engine, .supply, .outputs, .pump .ab, .pump .ba,
        .port] s t
    (∀ r, r.afterAddress = true → ends (.autoloadReadDone r) s.now (autoloaded s.eeprom r) (imageSignals r)) ∧
    imageSignals .stored = whole ∧ (∀ bytes, imageSignals (.returned bytes) = whole) ∧
    (∀ n, EepromRead.afterAddress (.lost (.notAcknowledged .register n)) = true ↔ n = 8 ∨ n = 17) ∧
    (∀ n < 18, imageSignals (.lost (.notAcknowledged .register n)) = whole.take (11 + n) ++ [.stop]) ∧
    imageSignals (.lost (.notAcknowledged .addressRead 8)) = whole.take 38 ++ [.stop] ∧
    EepromRead.afterAddress (.lost (.lostDataLine .start 0)) = true ∧
    imageSignals (.lost (.lostDataLine .start 0)) = [.release] ∧
    (∀ n, EepromRead.afterAddress (.lost (.lostDataLine .register n)) = false) ∧
    (∀ n, EepromRead.afterAddress (.lost (.lostDataLine .data n)) = true ↔ n = 14624) ∧
    imageSignals (.lost (.lostDataLine .data 14624)) = whole.take (38 + 14624) ++ [.release] ∧
    ends .autoloadDeadline (max s.now l.deadline) none s.loader.driven ∧
    (∀ due, l.retryAt = some due →
      exec (.autoloadAddressRetry true) s =
        .next { s with
          now := max s.now due,
          loader := { s.loader with
            autoload := some { l with retries := l.retries + 1, retryAt := none, readAt := some (max s.now due) } } } ∧
      (l.retries + 1 < 10 →
        exec (.autoloadAddressRetry false) s =
          .next { s with
            now := max s.now due,
            loader := { s.loader with
              autoload := some { l with retries := l.retries + 1, retryAt := some (due + 1000), readAt := none },
              driven := attempt } }) ∧
      (10 ≤ l.retries + 1 → ends (.autoloadAddressRetry false) (max s.now due) none attempt))

/-- A store's steps: a page write acknowledged starts the polling of its write cycle, the acknowledge that ends it leaves the
page holding the step's 32 bytes and starts the next step or the read-back, and every failure and the read-back end the
store with its reply; after a not-acknowledge or a timeout that came later than the first data byte's acknowledge no valid
signature stands, and after a failed read-back the signature stands over content in doubt; no other page changes. What the
part did on the EEPROM port is recorded (R51, R161, R163, R164; log entry 28). What a failed page write or read-back leaves
is a free value, and a lost data line fails a page write, leaving its page as a cut does, and not a poll: the model's
reading (log entries 13, 33 and 46). -/
def Obligations.StoreStepsAndOutcomes : Prop :=
  ∀ (st : Store) (m : Sender) (s : State), s.loader.store = some st → s.agent.store = some m → StoreLawful s →
    let at' (ph : StorePhase) (d : List BusSignal) (s : State) : State :=
      { s with loader := { s.loader with store := some { st with phase := ph }, driven := d } }
    let ended (status : Status) (d : List BusSignal) (s : State) : State :=
      sendReply m 0x10 status []
        { s with agent := { s.agent with store := none }, loader := { s.loader with store := none, driven := d } }
    let outside (first n : Nat) (u : State) : Prop :=
      ∀ a, a < first ∨ first + n ≤ a → readByte u.eeprom a = readByte s.eeprom a
    let page := 32 * stepPage st.step
    let fails (i : Instr) (d : List BusSignal) (good : State → Prop) : Prop :=
      ∃ t u, exec i s = .next t ∧ t = ended .failed d u ∧ good u ∧ outside page 32 u ∧ changesOnly [.now, .eeprom, .cuts] s u
    let unsigned' (u : State) : Prop := autoloaded u.eeprom .stored = none
    let whole : List BusSignal :=
      [.start] ++ ((0xA8 : Byte) :: (bytes16 page ++ stepData st.buffer st.step)).flatMap sendByte ++ [.stop]
    let address : List BusSignal := [.start] ++ sendByte 0xA8 ++ [.stop]
    (st.phase = .writing →
      exec (.pageWriteDone .acknowledged) s = .next (at' (.cycle (s.now + 500) (s.now + 10000)) whole s) ∧
      (∀ k : Fin 35, let d := whole.take (10 + 9 * k) ++ [.stop]
        (k.val ≤ 3 → exec (.pageWriteDone (.refusedAt k)) s = .next (ended .failed d s)) ∧
        (4 ≤ k.val → fails (.pageWriteDone (.refusedAt k)) d unsigned')) ∧
      ∀ n, let d := whole.take n ++ [.release]
        (readsBackAt whole n = false → exec (.pageWriteDone (.lostDataLine n)) s = .next s) ∧
        (readsBackAt whole n = true → n ≤ 36 → exec (.pageWriteDone (.lostDataLine n)) s = .next (ended .failed d s)) ∧
        (readsBackAt whole n = true → 36 < n → st.step < 52 → fails (.pageWriteDone (.lostDataLine n)) d unsigned') ∧
        (readsBackAt whole n = true → 36 < n → st.step = 52 →
          fails (.pageWriteDone (.lostDataLine n)) d (fun _ => True))) ∧
    (∀ due limit, st.phase = .cycle due limit →
      let again (d : List BusSignal) : State := at' (.cycle (due + 500) limit) d { s with now := max s.now due }
      exec (.pageAckPoll .notAcknowledged) s = .next (again address) ∧
      (∀ n, exec (.pageAckPoll (.lostDataLine n)) s =
        .next (if readsBackAt address n = true then again (address.take n ++ [.release]) else s)) ∧
      fails .pageWriteTimeout s.loader.driven unsigned' ∧
      ∃ t, exec (.pageAckPoll .acknowledged) s = .next t ∧ t.now = max s.now due ∧ t.loader.driven = address ∧
        t.loader.store =
          some (if st.step < 52 then ⟨st.buffer, st.step + 1, .writing⟩ else ⟨st.buffer, st.step, .readBack⟩) ∧
        readBytes t.eeprom page 32 = stepData st.buffer st.step ∧ outside page 32 t ∧
        changesOnly [.now, .loader, .eeprom] s t) ∧
    (st.phase = .readBack → ∀ r, r.inPhase = true →
      (imageRead s.eeprom r = some st.buffer → exec (.readBackDone r) s = .next (ended .done (imageSignals r) s)) ∧
      (imageRead s.eeprom r ≠ some st.buffer → ∃ u, exec (.readBackDone r) s = .next (ended .failed (imageSignals r) u) ∧
        readBytes u.eeprom 0 2 = [0xC2, 0x46] ∧ outside 0 1625 u ∧ changesOnly [.eeprom, .cuts] s u))

/-- What a store leaves to the next autoload: when the read-back is reached the EEPROM holds the image of the live tables and
the read-back succeeds, and after a power-on reset there the autoload loads those tables; a power-on reset or reset pin
that cuts the store once step 1's page is being written into the EEPROM, and before step 52, leaves no good image (R164).
The in-doubt bytes are free values (log entries 13 and 14). -/
def Obligations.StoreDecidesTheNextAutoload : Prop :=
  ∀ (st : Store) (addr : BitVec 6) (inputs : Byte) (s : State), s.loader.store = some st → StoreLawful s → TablesLawful s →
    (st.phase = .readBack →
      imageRead s.eeprom .stored = some s.tables.image ∧
      ∃ t, exec (.powerOnReset addr inputs) s = .next t ∧
        ∃ u, exec (.autoloadReadDone .stored) t = .next u ∧ u.tables = s.tables ∧ u.loader.source = .stored) ∧
    ((st.step = 1 ∧ st.phase ≠ .writing) ∨ (2 ≤ st.step ∧ st.step < 52) →
      ∃ t, exec (.resetPin addr inputs) s = .next t ∧
        ∃ u, exec (.autoloadReadDone .stored) t = .next u ∧ u.tables = builtinTables ∧ u.loader.source = .defaults)

/-! Sampling and conversion (chapter 3). -/

/-- A period start begins a scan at slot 0 unless one is in progress; a conversion event throws away, seeds or filters by the
channel's settle state, writes the channel's point with the accumulator and the validity of the sample, hands a brown-out
event for a low AN8 sample, and starts the next slot's conversion; the brown-out event sets the hold at once (R58, R59,
R62, R70, R71, R87, R154). The handed brown-out events wait in a queue (log entry 8). -/
def Obligations.ScansSettleFilterAndWritePoints : Prop :=
  ∀ (due : Nat) (k : Conversion) (code : BitVec 12) (v : Int) (s : State), TablesLawful s → FiltersLawful s →
    ScanLawful s → s.points.recs.length = 46 → s.points.deadlines.length = 28 →
    let now := max s.now k.doneAt
    let ch := s.tables.scan.channelOf k.slot
    let next : Option Conversion := if k.slot + 1 < s.tables.scan.count then some ⟨k.slot + 1, now + 20⟩ else none
    let cal := s.tables.cals.getD ch ⟨.linear, 1024, 0, 0, 2⟩
    let x := convert s.tables.curves cal code.toNat
    let was := s.sampling.settle.getD ch .discard
    let avg := s.sampling.accumulator.getD ch 0
    let avg' := if was = .seed then x.1 else avg + (x.1 - avg) / (2 ^ cal.shift : Nat)
    (s.sampling.periodAt = some due →
      exec .scanPeriodStart s =
        .next { s with
          now := max s.now due,
          sampling := { s.sampling with
            periodAt := some (due + 1000 * s.tables.scan.period),
            conversion := if s.sampling.conversion = none then some ⟨0, max s.now due + 20⟩ else s.sampling.conversion } }) ∧
    (s.sampling.conversion = some k → was = .discard →
      exec (.conversionEvent code) s =
        .next { s with
          now := now,
          sampling := { s.sampling with settle := s.sampling.settle.set ch .seed, conversion := next } }) ∧
    (s.sampling.conversion = some k → was ≠ .discard → ∃ t, exec (.conversionEvent code) s = .next t ∧ t.now = now ∧
      t.sampling = { s.sampling with
        settle := s.sampling.settle.set ch .filtering, accumulator := s.sampling.accumulator.set ch avg', conversion := next } ∧
      t.point ch = ⟨avg', x.2, 0⟩ ∧ t.points.deadlines.getD ch none = some (now + 10000 * s.tables.scan.period) ∧
      t.brownOuts = (if ch = 8 ∧ x.1 < s.supply.inUse.brownOut then s.brownOuts ++ [x.1] else s.brownOuts) ∧
      pointsOnly (ch :: if ch = 0 then [28] else if ch = 2 then [29] else []) s t ∧
      changesOnly [.now, .sampling, .points, .brownOuts] s t) ∧
    (∃ t, exec (.brownOutEvent v) s = .next t ∧
      t.supply = { s.supply with brownHold := 4, level := t.shedLevel } ∧ (s.agent.shedForce = none → 4 ≤ t.supply.level) ∧
      t.brownOuts = (if s.brownOuts.head? = some v then s.brownOuts.tail else s.brownOuts) ∧
      changesOnly [.brownOuts, .supply, .points, .pump .ab, .pump .ba, .port, .outputs] s t)

/-- Linear conversion: the exact product, divided by 1024 and rounded half away from zero, the offset added, the sum
saturated with its validity; a gain of 0 gives the offset, and neither end of a code's range is marked (R65). -/
def Obligations.LinearConversionRoundsAndSaturates : Prop :=
  ∀ (gain : Nat) (offset x : Int),
    let p := x * gain
    let q := if 0 ≤ p then (p + 512) / 1024 else -((-p + 512) / 1024)
    (-32768 ≤ q + offset → q + offset ≤ 32767 → linear gain offset x = (q + offset, .valid)) ∧
    (32767 < q + offset → linear gain offset x = (32767, .over)) ∧
    (q + offset < -32768 → linear gain offset x = (-32768, .under)) ∧
    (isSigned16 offset → linear 0 offset x = (offset, .valid)) ∧
    (-32768 ≤ x → x ≤ 65535 → gain ≤ 65535 → |p| ≤ 65535 * 65535) ∧
    (∀ (curves : List Curve) (cal : Calibration) (code : Nat), cal.mode = .linear →
      convert curves cal code = linear cal.gain cal.offset code) ∧
    (∀ (e : PollEntry) (i : Nat) (bits : List Bool) (s : State), s.points.recs.length = 46 → i < 12 →
      (readSuccess i e bits s).point (16 + i) =
        ⟨(linear e.gain e.offset (readingOf e (rawOf bits))).1, (linear e.gain e.offset (readingOf e (rawOf bits))).2, 0⟩)

/-- Curve conversion: the first value below the curve, the last above it, a breakpoint's own value at it, and between two
breakpoints the rounded interpolation, which lies between their values; every value lies between the first and the last
(R68). -/
def Obligations.CurveConversionInterpolates : Prop :=
  ∀ (c : Curve) (code : Nat), c.good →
    let n := c.count - 1
    let at' (i : Nat) : Nat × Int := c.points.getD i (0, 0)
    let r := curveConvert c.used code
    (code < (at' 0).1 → r = ((at' 0).2, .under)) ∧ ((at' n).1 < code → r = ((at' n).2, .over)) ∧
    (∀ i ≤ n, code = (at' i).1 → r = ((at' i).2, .valid)) ∧
    (∀ i < n, (at' i).1 < code → code < (at' (i + 1)).1 →
      let num := ((at' (i + 1)).2 - (at' i).2) * ((code : Int) - (at' i).1)
      let den := ((at' (i + 1)).1 : Int) - (at' i).1
      let magnitude := ((num.natAbs : Int) + den / 2) / den
      r = ((at' i).2 + num.sign * magnitude, .valid) ∧
        min (at' i).2 (at' (i + 1)).2 ≤ r.1 ∧ r.1 ≤ max (at' i).2 (at' (i + 1)).2) ∧
    min (at' 0).2 (at' n).2 ≤ r.1 ∧ r.1 ≤ max (at' 0).2 (at' n).2

/-- The filter: a seeded accumulator is the seeding value; a later kept value moves it by the difference divided by 2 to the
filter shift, rounded down; a shift of 0 takes the value itself; the result lies between the old accumulator and the value,
so it never leaves the range of a point (R69). -/
def Obligations.FilterMovesTowardTheSample : Prop :=
  (∀ (avg v : Int) (k : Nat),
    filterStep avg v k = avg + Int.fdiv (v - avg) ((2 ^ k : Nat) : Int) ∧ filterStep avg v 0 = v ∧
    min avg v ≤ filterStep avg v k ∧ filterStep avg v k ≤ max avg v ∧
    (isSigned16 avg → isSigned16 v → isSigned16 (filterStep avg v k))) ∧
  ∀ (ch : Nat) (v : Int × Validity) (seeding : Bool) (s : State), FiltersLawful s → ch < 16 →
    (keepSample ch v seeding s).sampling.accumulator.getD ch 0 =
      if seeding then v.1 else filterStep (s.sampling.accumulator.getD ch 0) v.1 (s.tables.cals.getD ch ⟨.linear, 1024, 0, 0, 2⟩).shift

/-! Sensor bus polling (chapter 4). -/

/-- The end of a read transaction: a success writes its point with the converted reading and sends its entry back to IDLE; a
failure waits 10 ms for a retry while one remains, else the entry fails and its point goes INVALID; the result of a
marked read is thrown away; then the bus is free and the lowest DUE entry is granted (R75, R78, R79, R80, R83). The
transaction's phases are those of R75, every byte most significant bit first, with the data line changing while the clock
is high at the two starts and the stop alone; the first bit received is the raw reading's highest; a not-acknowledge comes
on the ninth clock of a byte the part sends, and the data line is lost where the part sends a 1 bit, a start or a stop (R74).
A written-unused entry whose read is thrown away stays IDLE, and a failure that the read cannot have changes nothing (log
entries 3 and 36). -/
def Obligations.ReadsEndAndTheBusIsGranted : Prop :=
  ∀ (op : BusOp) (bits : List Bool) (f : ReadFailure) (s : State), s.poll.op = some op → op.kind = .read → PollLawful s →
    s.points.recs.length = 46 →
    let i := op.index
    let e := op.entry
    let v := linear e.gain e.offset (readingOf e (rawOf bits))
    let sent (b : Nat) : List BusSignal := sendByte (byteOf b)
    let whole : List BusSignal :=
      [.start] ++ sent (e.addr * 2) ++ sent e.register ++ [.start] ++ sent (e.addr * 2 + 1) ++
        (if e.length = 1 then [] else receiveByte true) ++ receiveByte false ++ [.stop]
    let fails : Prop := e.busRead.mayFail f = true
    let others (t : State) : Prop :=
      (∀ j, j ≠ i → t.poll.run j = if s.poll.firstDue = some j then ⟨.active, (s.poll.run j).attempts, none⟩ else s.poll.run j) ∧
        pointsOnly [16 + i] s t ∧ changesOnly [.poll, .points] s t
    let granted (t : State) : Prop :=
      match s.poll.firstDue with
      | none => t.poll.bus = .idle ∧ t.poll.op = none
      | some j => t.poll.bus = .busy ∧ t.poll.op = some ⟨.read, j, s.tables.pollEntry j, false⟩
    (∀ b : Byte, sendByte b =
      [.send (b.getLsbD 7), .send (b.getLsbD 6), .send (b.getLsbD 5), .send (b.getLsbD 4), .send (b.getLsbD 3),
        .send (b.getLsbD 2), .send (b.getLsbD 1), .send (b.getLsbD 0), .awaitAcknowledge]) ∧
    edgesWhileHigh (whole.flatMap BusSignal.lines) = [false, false, true] ∧
    (∀ (b : Bool) (l : List Bool), rawOf (b :: l) = (if b then 2 ^ l.length else 0) + rawOf l) ∧
    (∀ ph n, e.busRead.mayFail (.notAcknowledged ph n) = true ↔
      (ph = .addressWrite ∨ ph = .register ∨ ph = .addressRead) ∧ n = 8) ∧
    (∀ n, e.busRead.mayFail (.lostDataLine .addressWrite n) = true ↔ n < 8 ∧ (e.addr * 2).testBit (7 - n) = true) ∧
    (∀ n, e.busRead.mayFail (.lostDataLine .register n) = true ↔ n < 8 ∧ e.register.testBit (7 - n) = true) ∧
    (∀ n, e.busRead.mayFail (.lostDataLine .addressRead n) = true ↔ n < 8 ∧ (e.addr * 2 + 1).testBit (7 - n) = true) ∧
    (∀ n, e.busRead.mayFail (.lostDataLine .data n) = true ↔ n = 9 * e.length - 1) ∧
    (∀ ph n, ph = .start ∨ ph = .repeatedStart ∨ ph = .stop →
      (e.busRead.mayFail (.lostDataLine ph n) = true ↔ n = 0)) ∧
    (¬fails → f.inPhase = true → exec (.transactionFailure f) s = .next s) ∧
    (op.discard = false → bits.length = 8 * e.length → ∃ t, exec (.transactionSuccess bits) s = .next t ∧
      t.point (16 + i) = ⟨v.1, v.2, 0⟩ ∧ t.poll.run i = ⟨.idle, 0, some (s.now + 1000000 * e.period)⟩ ∧
      others t ∧ granted t ∧ t.poll.driven = whole) ∧
    (op.discard = false → fails → (s.poll.run i).attempts < e.retryLimit → ∃ t, exec (.transactionFailure f) s = .next t ∧
      t.poll.run i = ⟨.waitingRetry, (s.poll.run i).attempts + 1, some (s.now + 10000)⟩ ∧
      t.point (16 + i) = s.point (16 + i) ∧ others t ∧ granted t) ∧
    (op.discard = false → fails → e.retryLimit ≤ (s.poll.run i).attempts → ∃ t,
      exec (.transactionFailure f) s = .next t ∧
      t.poll.run i = ⟨.failed, 0, some (s.now + 1000000 * e.period)⟩ ∧
      t.point (16 + i) = ⟨(s.point (16 + i)).value, .invalid, 0⟩ ∧ others t ∧ granted t) ∧
    (fails → ∃ t, exec (.transactionFailure f) s = .next t ∧
      (f = .notAcknowledged .addressWrite 8 → t.poll.driven = whole.take 10 ++ [.stop]) ∧
      (f = .notAcknowledged .register 8 → t.poll.driven = whole.take 19 ++ [.stop]) ∧
      (f = .notAcknowledged .addressRead 8 → t.poll.driven = whole.take 29 ++ [.stop]) ∧
      (∀ n, f = .lostDataLine .start n → t.poll.driven = [.release]) ∧
      (∀ n, f = .lostDataLine .addressWrite n → t.poll.driven = whole.take (1 + n) ++ [.release]) ∧
      (∀ n, f = .lostDataLine .register n → t.poll.driven = whole.take (10 + n) ++ [.release]) ∧
      (∀ n, f = .lostDataLine .repeatedStart n → t.poll.driven = whole.take 19 ++ [.release]) ∧
      (∀ n, f = .lostDataLine .addressRead n → t.poll.driven = whole.take (20 + n) ++ [.release]) ∧
      (∀ n, f = .lostDataLine .data n → t.poll.driven = whole.take (29 + n) ++ [.release]) ∧
      (∀ n, f = .lostDataLine .stop n → t.poll.driven = whole.dropLast ++ [.release])) ∧
    (op.discard = true → fails → ∃ t, exec (.transactionFailure f) s = .next t ∧
      t.points = s.points ∧ granted t ∧ changesOnly [.poll] s t ∧
      ∀ j, t.poll.run j = if s.poll.firstDue = some j then ⟨.active, (s.poll.run j).attempts, none⟩ else s.poll.run j) ∧
    (op.discard = true → bits.length = 8 * e.length → ∃ t, exec (.transactionSuccess bits) s = .next t ∧
      t.points = s.points ∧ granted t ∧ changesOnly [.poll] s t ∧
      ∀ j, t.poll.run j = if s.poll.firstDue = some j then ⟨.active, (s.poll.run j).attempts, none⟩ else s.poll.run j)

/-- An entry comes DUE at its next-due or retry time, and every entry in use at the end of the start-up pulses; a bus fault
fails every entry at work and turns every poll point INVALID; a recovery with both lines high starts its entry's read,
one with a line low fails its entry; in FAULT a grant starts a recovery (R77, R78, R80, R81, R82, R84). A marked recovery
leaves its entry as the write made it and frees the bus in its state (R83). That a successful one makes no grant at that
event (log entry 18), and that a bus fault leaves IDLE an entry written unused while its operation was in flight, where step
2 of R81 read alone would fail it (log entry 36), is the model's reading. -/
def Obligations.DueTimesBusFaultAndRecovery : Prop :=
  ∀ (i : Fin 12) (due : Nat) (op : BusOp) (c d : Bool) (s : State), PollLawful s → s.points.recs.length = 46 →
    let run (s : State) (j : Nat) := s.poll.run j
    let now := max s.now due
    let grantedFrom (was : Poll) (t : State) : Prop :=
      match was.firstDue with
      | none => t.poll.bus = was.bus ∧ t.poll.op = none
      | some j =>
        t.poll.op = some ⟨if was.bus = .fault then .recovery else .read, j, s.tables.pollEntry j, false⟩ ∧
          t.poll.bus = (if was.bus = .fault then .fault else .busy) ∧ t.poll.run j = ⟨.active, (was.run j).attempts, none⟩
    let becomesDue (e : Instr) : Prop := ∃ t, exec e s = .next t ∧ t.now = now ∧ changesOnly [.now, .poll] s t ∧
      (∀ j, j ≠ i.val → (run s j).state ≠ .due → run t j = run s j) ∧
      (s.poll.op ≠ none → run t i = ⟨.due, (run s i).attempts, none⟩ ∧ t.poll.op = s.poll.op ∧ t.poll.bus = s.poll.bus) ∧
      (s.poll.op = none → t.poll.op ≠ none ∧ grantedFrom (s.poll.setRun i ⟨.due, (run s i).attempts, none⟩) t)
    ((run s i).time = some due → (run s i).state = .idle ∨ (run s i).state = .failed → becomesDue (.nextDueTime i)) ∧
    ((run s i).time = some due → (run s i).state = .waitingRetry → becomesDue (.retryTime i)) ∧
    (s.poll.op = some op → op.kind = .startup → ∃ t, exec .startupPulsesDone s = .next t ∧
      t.poll.watch = true ∧ t.poll.driven = List.replicate 9 .pulse ++ [.stop] ∧ changesOnly [.poll] s t ∧
      (∀ j < 12, (s.tables.pollEntry j).inUse = true → (run t j).state = .due ∨ (run t j).state = .active) ∧
      (∀ j < 12, (s.tables.pollEntry j).inUse = false → (run s j).state ≠ .due → run t j = run s j)) ∧
    (s.poll.watch = true → s.poll.bus ≠ .fault → ∃ t, exec .busFault s = .next t ∧
      t.poll.bus = .fault ∧ t.poll.op = none ∧ t.poll.watch = s.poll.watch ∧
      (∀ j < 12, run t j =
        if (run s j).state = .idle ∨ (run s j).state = .failed then run s j
        else ⟨.failed, 0, some (s.now + 1000000 * (s.tables.pollEntry j).period)⟩) ∧
      (∀ j < 12, t.point (16 + j) = ⟨(s.point (16 + j)).value, .invalid, 0⟩) ∧
      pointsOnly [16, 17, 18, 19, 20, 21, 22, 23, 24, 25, 26, 27] s t ∧ changesOnly [.poll, .points] s t) ∧
    (s.poll.watch = false ∨ s.poll.bus = .fault → exec .busFault s = .next s) ∧
    (s.poll.op = some op → op.kind = .recovery → op.discard = false → c = true → d = true → ∃ t,
      exec (.recoveryComplete c d) s = .next t ∧ t.poll.bus = .busy ∧ run t op.index = ⟨.active, 0, none⟩ ∧
      t.poll.op = some ⟨.read, op.index, s.tables.pollEntry op.index, false⟩ ∧
      (∀ j, j ≠ op.index → run t j = run s j) ∧ changesOnly [.poll] s t) ∧
    (s.poll.op = some op → op.kind = .recovery → op.discard = false → c = false ∨ d = false → ∃ t,
      exec (.recoveryComplete c d) s = .next t ∧ t.poll.bus = .fault ∧
      run t op.index = ⟨.failed, 0, some (s.now + 1000000 * op.entry.period)⟩ ∧ grantedFrom { s.poll with bus := .fault } t ∧
      changesOnly [.poll] s t) ∧
    (s.poll.op = some op → op.kind = .recovery → op.discard = true → ∃ t,
      exec (.recoveryComplete c d) s = .next t ∧ changesOnly [.poll] s t ∧ t.poll.driven = List.replicate 9 .pulse ++ [.stop] ∧
      (c = true → d = true → t.poll.bus = .idle ∧ t.poll.op = none ∧ t.poll.runs = s.poll.runs) ∧
      (c = false ∨ d = false → t.poll.bus = .fault ∧ grantedFrom s.poll t ∧
        ∀ j, s.poll.firstDue ≠ some j → run t j = run s j))

/-! The Point Table (chapter 5). -/

/-- Ages count the age timer's expiries and stop at 255; a staleness deadline makes its point INVALID, value and age kept; a
launch record expires 2 s after its arrival; the span loss that depends on a stale or expired input is computed afresh and
so goes INVALID (R86, R88, R89, R90, R91). -/
def Obligations.AgesStalenessAndLaunchExpiry : Prop :=
  ∀ (i : Fin 28) (p : Side) (due : Nat) (l : Launch) (s : State), s.points.recs.length = 46 →
    let lossOf (j : Nat) : List Nat := if j = 0 then [28] else if j = 2 then [29] else []
    exec .ageTimerExpiry s =
      .next { s with
        now := max s.now s.points.ageAt,
        points := { s.points with
          recs := s.points.recs.map (fun r => { r with age := min 255 (r.age + 1) }), ageAt := s.points.ageAt + 100000 } } ∧
    (s.points.deadlines.getD i none = some due → ∃ t, exec (.stalenessDeadline i) s = .next t ∧ t.now = max s.now due ∧
      t.point i = { s.point i with validity := .invalid } ∧ t.points.deadlines.getD i none = none ∧
      (∀ j ∈ lossOf i, t.point j = ⟨(s.point j).value, .invalid, 0⟩) ∧ pointsOnly (i.val :: lossOf i) s t ∧
      changesOnly [.now, .points] s t) ∧
    (s.points.deadlines.getD i none = none → exec (.stalenessDeadline i) s = .next s) ∧
    (s.points.launch.get p = some l → l.expired = false → ∃ t, exec (.launchExpiry p) s = .next t ∧
      t.now = max s.now (l.arrivedAt + 2000000) ∧ t.points.launch = s.points.launch.set p (some { l with expired := true }) ∧
      t.point (lossPoint p) = ⟨(s.point (lossPoint p)).value, .invalid, 0⟩ ∧ pointsOnly [lossPoint p] s t ∧
      changesOnly [.now, .points] s t)

/-- A span loss is the launch less the input power, saturated and VALID whatever clamp the input had, while the record is
fresh and the input not INVALID; otherwise it is written INVALID and keeps its value; each computation sets its age to 0
(R90). -/
def Obligations.SpanLossIsLaunchLessInput : Prop :=
  ∀ (x : Side) (s : State), s.points.recs.length = 46 →
    let p := s.point (if x = .a then 0 else 2)
    let i := if x = .a then 28 else 29
    let t := spanLoss x s
    pointsOnly [i] s t ∧ changesOnly [.points] s t ∧ (t.point i).age = 0 ∧
    (∀ l, s.points.launch.get x = some l → l.expired = false → p.validity ≠ .invalid →
      t.point i = ⟨if l.power - p.value < -32768 then -32768 else if 32767 < l.power - p.value then 32767 else l.power - p.value,
        .valid, 0⟩) ∧
    (s.points.launch.get x = none ∨ (∃ l, s.points.launch.get x = some l ∧ l.expired = true) ∨ p.validity = .invalid →
      t.point i = ⟨(s.point i).value, .invalid, 0⟩)

/-- A change at a pin restarts its input's 50 ms timer; at the expiry a raw level that differs becomes the debounced level and
point 44 is written with the sum of the high inputs; an input back at its level changes nothing (R94, R95). That the expiry
of a stopped timer changes nothing and that an expiry moves the clock are the model's (log entries 3 and 4). -/
def Obligations.InputsAreDebouncedIntoPoint44 : Prop :=
  ∀ (i : Fin 8) (level : Bool) (due : Nat) (s : State), s.points.inputs.length = 8 → s.points.recs.length = 46 →
    let n := s.points.input i
    let with' (m : Input) : State := { s with points := { s.points with inputs := s.points.inputs.set i m } }
    (level ≠ n.raw → exec (.inputRawChange i level) s = .next (with' { n with raw := level, timer := some (s.now + 50000) })) ∧
    (level = n.raw → exec (.inputRawChange i level) s = .next s) ∧
    (n.timer = some due → n.raw = n.debounced →
      exec (.debounceTimerExpiry i) s = .next { with' { n with timer := none } with now := max s.now due }) ∧
    (n.timer = some due → n.raw ≠ n.debounced → ∃ t, exec (.debounceTimerExpiry i) s = .next t ∧ t.now = max s.now due ∧
      t.points.inputs = s.points.inputs.set i { n with timer := none, debounced := n.raw } ∧
      t.point 44 = ⟨((List.range 8).map (fun k => if (t.points.input k).debounced then (2 : Int) ^ k else 0)).sum, .valid, 0⟩ ∧
      pointsOnly [44] s t ∧ changesOnly [.now, .points] s t) ∧
    (n.timer = none → exec (.debounceTimerExpiry i) s = .next s)

/-! Condition evaluation and alarms (chapters 6 and 7). -/

/-- The tests of the five kinds: an ABOVE or BELOW entry against its levels, a MATCH or NOMATCH entry on the pattern under
its mask, an INVALID entry on the validity; no test uses the age (R104). -/
def Obligations.ConditionTestsFollowTheirKind : Prop :=
  ∀ (c : Condition) (p : Point),
    let masked : BitVec 16 := BitVec.ofInt 16 p.value &&& BitVec.ofInt 16 c.clearLevel
    let compare : BitVec 16 := BitVec.ofInt 16 c.setLevel
    (c.kind = .above → (setTrue c p = true ↔ c.setLevel < p.value) ∧ (clearTrue c p = true ↔ p.value < c.clearLevel)) ∧
    (c.kind = .below → (setTrue c p = true ↔ p.value < c.setLevel) ∧ (clearTrue c p = true ↔ c.clearLevel < p.value)) ∧
    (c.kind = .mtch → (setTrue c p = true ↔ masked = compare) ∧ (clearTrue c p = true ↔ masked ≠ compare)) ∧
    (c.kind = .noMatch → (setTrue c p = true ↔ masked ≠ compare) ∧ (clearTrue c p = true ↔ masked = compare)) ∧
    (c.kind = .invalid → (setTrue c p = true ↔ p.validity = .invalid) ∧ (clearTrue c p = true ↔ p.validity ≠ .invalid)) ∧
    (c.valid = true → ¬(setTrue c p = true ∧ clearTrue c p = true)) ∧
    ∀ n : Nat, setTrue c { p with age := n } = setTrue c p ∧ clearTrue c { p with age := n } = clearTrue c p

/-- A pass: every entry moves by one row of the table of run states on the records as they stand, an entry on an INVALID
point is held; the list then holds a RAISED entry for exactly the conditions that stand, new ones at its tail in index
order with the values of the pass, and the three outputs are those of the standing conditions; the two transitions that
have a row of their own are that pass (R102, R103, R108, R109, R112 to R116, R120 to R122). A new entry and every entry that
goes on standing has the suppressed state its suppressor gives it after the entries have moved, and withheld goes with it
(R110, R121, R124); a raising PULSE condition starts a pulse of 1000 ms on its output, dropped while one runs (R115, R158).
That the two rows are the pass is the model's reading (log entry 6). -/
def Obligations.PassMovesEveryCondition : Prop :=
  ∀ (due : Nat) (k : Fin 64) (s : State), s.engine.passAt = some due → TablesLawful s → ListLawful s → EngineLawful s →
    let c (i : Nat) := s.tables.condition i
    let r (i : Nat) := s.engine.run i
    let p (i : Nat) := s.point (c i).point
    let holds (i : Nat) : Bool := (c i).kind != .invalid && (p i).validity == .invalid
    let raises (i : Nat) : Bool := !holds i && setTrue (c i) (p i) &&
      (((r i).state == .clear && (c i).qualifySet == 1) || ((r i).state == .setPending && (r i).count + 1 == (c i).qualifySet))
    let clears (i : Nat) : Bool := !holds i && clearTrue (c i) (p i) &&
      (((r i).state == .raised && (c i).qualifyClear == 1) ||
        ((r i).state == .clearPending && (r i).count + 1 == (c i).qualifyClear))
    let moved (i : Nat) : CondRun :=
      if holds i then r i else
      match (r i).state with
      | .idle => r i
      | .clear | .setPending =>
        if raises i then ⟨.raised, 0⟩ else if setTrue (c i) (p i) then ⟨.setPending, (r i).count + 1⟩ else ⟨.clear, 0⟩
      | .raised | .clearPending =>
        if clears i then ⟨.clear, 0⟩ else if clearTrue (c i) (p i) then ⟨.clearPending, (r i).count + 1⟩ else ⟨.raised, 0⟩
    let suppressed (i : Nat) : Bool :=
      match (c i).suppressor with
      | .none => false
      | .condition n => (moved n).state == .raised || (moved n).state == .clearPending
      | .ufm .a => (s.point 34).value == 1
      | .ufm .b => (s.point 35).value == 1
      | .lost .a => (s.point 32).value == 2
      | .lost .b => (s.point 33).value == 2
    ∃ t, exec .pass s = .next t ∧ t.now = max s.now due ∧ t.engine.passAt = some (due + 100000) ∧
      exec (.qualifySetReached k) s = .next (if raises k then t else s) ∧
      exec (.qualifyClearReached k) s = .next (if clears k then t else s) ∧
      (∀ i < 64, t.engine.run i = moved i) ∧
      (∀ i < 64, raises i = true → ∃ e ∈ t.alarms, e.index = i ∧ e.status = .raised ∧ e.acknowledged = false ∧
        e.severity = (c i).severity ∧ e.point = (c i).point ∧ e.latching = (c i).latching ∧ e.report = (c i).report ∧
        e.raiseTime = s.agent.hutTime ∧ e.timeSet = s.agent.timeSet ∧ e.value = (p i).value ∧
        e.suppressed = suppressed i ∧ e.withheld = ((c i).report && suppressed i)) ∧
      (∀ e ∈ s.alarms, e.status = .raised → clears e.index = false →
        { e with suppressed := suppressed e.index, withheld := e.withheld && suppressed e.index } ∈ t.alarms) ∧
      (∀ e ∈ s.alarms, e.status = .raised → clears e.index = true → e.latching = true → e.acknowledged = false →
        { e with status := .cleared } ∈ t.alarms) ∧
      (∀ e ∈ s.alarms, e.status = .cleared → raises e.index = false → e ∈ t.alarms) ∧
      (s.outputs.pulses.length = 7 → ∀ o < 7, t.outputs.pulses.getD o none =
        (if s.outputs.pulses.getD o none = none ∧ (List.range 64).any (fun i => raises i && (c i).action == .pulse o) = true
         then some ⟨!s.baseLevel o, t.now + 1000000⟩ else s.outputs.pulses.getD o none)) ∧
      (∀ e ∈ t.alarms, clears e.index = true → e.status = .cleared ∧ e.latching = true ∧ e.acknowledged = false) ∧
      t.alarms.map Standing.index =
        (s.alarms.filter (fun e => !raises e.index && !(clears e.index && !(e.latching && !e.acknowledged)))).map
            Standing.index ++ (List.range 64).filter raises ∧
      t.engine.shedRequest = shedRequestOf (standingActions t.tables t.engine.runs) ∧
      t.engine.reduce.ab = reduceOf .ab (standingActions t.tables t.engine.runs) ∧
      t.engine.reduce.ba = reduceOf .ba (standingActions t.tables t.engine.runs) ∧
      t.engine.outRequest = outRequestOf (standingActions t.tables t.engine.runs) ∧
      changesOnly [.now, .engine, .alarms, .line .a, .line .b, .points, .supply, .outputs, .pump .ab, .pump .ba, .port] s t ∧
      pointsOnly [39, 41, 42] s t

/-- What each report of the Condition Engine does to the list and which alert it sends: a raise, a clear, a reconfigure and
the suppressed state of a standing condition; an alert is one 12-byte record offered to each report side (R121 to R124,
R127, R128). -/
def Obligations.ReportsChangeTheListAndSendAlerts : Prop :=
  ∀ (r : Raise) (i : Nat) (v : Int) (sup : Bool) (e : Standing) (s : State), ListLawful s →
    let entry : Standing :=
      { index := r.index, severity := r.entry.severity, point := r.entry.point, latching := r.entry.latching,
        report := r.entry.report, raiseTime := s.agent.hutTime, timeSet := s.agent.timeSet, value := r.value,
        status := .raised, acknowledged := false, suppressed := r.suppressed, withheld := r.entry.report && r.suppressed }
    let rest (i : Nat) : List Standing := s.alarms.filter (fun x => x.index != i)
    let record (e : Standing) (kind : Byte) (value : Int) (time : BitVec 32) (timeSet acked : Bool) (n : Nat) : List Byte :=
      [byteOf e.index, kind, byteOf e.severity.code, byteOf e.point] ++ bytesSigned value ++ bytes32 time.toNat ++
        [byteOf (bit (!timeSet) + 2 * bit e.latching + 4 * bit acked), byteOf n]
    let alert (x : Side) (rec : List Byte) (t : State) : State :=
      { t with ports := offer x true ⟨⟨3, headAddress x, t.ownAddr, byteOf t.tables.line.hopBudget, 0, rec⟩, false⟩ t.ports }
    let sent (rec : List Byte) (t : State) : State :=
      match t.tables.mgmt.sides with
      | .a => alert .a rec t
      | .b => alert .b rec t
      | .both => alert .b rec (alert .a rec t)
    (takeRaise r s =
      (let t := { s with alarms := rest r.index ++ [entry] }
       if r.entry.report = true ∧ r.suppressed = false then
         sent (record entry 1 r.value s.agent.hutTime s.agent.timeSet false t.alarms.length) t
       else t)) ∧
    (e ∈ s.alarms → e.index = i →
      takeClear i v s =
        (let t := { s with
                    alarms :=
                      if e.latching = true ∧ e.acknowledged = false then
                        s.alarms.map (fun x => if x.index = i then { x with status := .cleared } else x)
                      else rest i }
         if e.report = true ∧ e.withheld = false then
           sent (record e 2 v s.agent.hutTime s.agent.timeSet e.acknowledged t.alarms.length) t
         else t) ∧
      takeReconfigure i s =
        (let t := { s with alarms := rest i }
         if e.report = true ∧ e.withheld = false then
           sent (record e 3 e.value s.agent.hutTime s.agent.timeSet e.acknowledged t.alarms.length) t
         else t) ∧
      (e.status = .raised →
        takeSuppression i sup s =
          (let t := { s with
                      alarms := s.alarms.map (fun x =>
                        if x.index = i then { x with suppressed := sup, withheld := x.withheld && sup } else x) }
           if sup = false ∧ e.withheld = true then
             sent (record e 4 e.value e.raiseTime e.timeSet false t.alarms.length) t
           else t))) ∧
    ((∀ x ∈ s.alarms, x.index ≠ i) → takeReconfigure i s = s) ∧
    (∀ (e : Standing) (k : Byte) (n : Nat), (record e k v s.agent.hutTime sup sup n).length = 12)

/-! Amplifier pumps and the Control Port (chapter 8). -/

/-- The effective target: the mode's target, NORMAL's for BOOST from shed level 2, capped by the economy cap at level 4 and by
the ceiling; a change of it acts by the channel's state; new settings in use bring the current under the new ceiling and
safe level first (R132, R133). Mode requests, appearances of a trigger source and driver faults, by the channel's state: the
new channel and the words placed, in order (R134, R137, R139, R140, R141). That a probing channel's SETPOINT for a new target
is of the pump class is the model's reading (log entry 24). -/
def Obligations.PumpTargetsModesAndTriggers : Prop :=
  (∀ (g : PumpSettings) (m : Mode) (level now : Nat) (p : Pump),
      let base := match m with
        | .off => 0
        | .normal => g.normal
        | .boost => if 2 ≤ level then g.normal else g.boost
      let t := effectiveTarget p.inUse p.mode level
      let i1 := min p.current g.ceiling
      let i2 := if p.state = .reduced then min i1 g.safe else i1
      let lowered (a b : Nat) : List PumpWord := if a = b then [] else [⟨.setpoint, b, .safety⟩]
      effectiveTarget g m level = min (if level = 4 then min base g.economy else base) g.ceiling ∧
      (t = p.target → p.retarget now level = ⟨p, []⟩) ∧
      (t ≠ p.target → p.state = .run →
        p.retarget now level =
          ⟨if p.current = t then { p with target := t, startAt := none, rampAt := none }
           else { p with target := t, state := .ramp, startAt := none, rampAt := some (now + 10000) }, []⟩) ∧
      (t ≠ p.target → p.state = .probe →
        p.retarget now level = ⟨{ p with target := t, current := t }, [⟨.setpoint, t, .pump⟩]⟩) ∧
      (t ≠ p.target → p.state ≠ .run → p.state ≠ .probe → p.retarget now level = ⟨{ p with target := t }, []⟩) ∧
      (let q := Pump.retarget now level { p with inUse := g, current := i2 }
       p.settingsChange now level g =
         ⟨q.pump, lowered p.current i1 ++ lowered i1 i2 ++
           (if g.ceiling = p.inUse.ceiling then [] else [⟨.clamp, g.ceiling, .pump⟩]) ++ q.words⟩)) ∧
  (∀ (p : Pump) (now level : Nat) (m : Mode),
      let idle (p : Pump) : Pump := { p with startAt := none, rampAt := none, probeAt := none, durationAt := none }
      let running := p.state ≠ .off ∧ p.state ≠ .fault
      (p.state = .off → p.modeRequest now level .off = ⟨p, []⟩) ∧
      (p.state ≠ .off →
        p.modeRequest now level .off =
          ⟨{ idle p with
              state := .off, mode := .off, current := 0, target := effectiveTarget p.inUse .off level, statusAt := none },
            [⟨.setpoint, 0, .pump⟩, ⟨.enable, 0, .pump⟩]⟩) ∧
      (m ≠ .off → ¬running →
        p.modeRequest now level m =
          ⟨{ idle p with
              state := .startWait, mode := m, current := 0, target := effectiveTarget p.inUse m level,
              startAt := some (now + 5000000), statusAt := some (p.statusAt.getD (now + 1000000)) },
            [⟨.setpoint, 0, .pump⟩, ⟨.clamp, p.inUse.ceiling, .pump⟩, ⟨.enable, 1, .pump⟩]⟩) ∧
      (m ≠ .off → running → p.modeRequest now level m = Pump.retarget now level { p with mode := m }) ∧
      (p.state = .ramp ∨ p.state = .run ∨ p.state = .probe →
        p.appearance now =
          ⟨{ idle p with
              state := .reduced, current := min p.inUse.safe p.current,
              probeAt := some (now + 1000000 * p.inUse.probeInterval) },
            [⟨.setpoint, min p.inUse.safe p.current, .safety⟩]⟩) ∧
      (p.state = .off ∨ p.state = .startWait ∨ p.state = .reduced ∨ p.state = .fault → p.appearance now = ⟨p, []⟩) ∧
      (running →
        p.driverFault = ⟨{ idle p with state := .fault, current := 0 }, [⟨.setpoint, 0, .safety⟩, ⟨.enable, 0, .pump⟩]⟩) ∧
      (¬running → p.driverFault = ⟨p, []⟩))

/-- The channel timers: the start timer into RAMP or, under a trigger, REDUCED; a ramp step toward the target; the probe and
its end; the status read. Each event places its words and writes the state point only when the state changed (R134, R135,
R137, R138, R141). -/
def Obligations.PumpTimersMoveTheirChannel : Prop :=
  ∀ (c : Channel) (due : Nat) (s : State), PumpsLawful s → s.points.recs.length = 46 →
    let p := s.pumps.get c
    let now := max s.now due
    let under := trigger s c
    let lower := min p.inUse.safe p.current
    let gap := if p.current ≤ p.target then p.target - p.current else p.current - p.target
    let step := if p.current < p.target then p.current + p.inUse.rampStep else p.current - p.inUse.rampStep
    let again := some (now + 1000000 * p.inUse.probeInterval)
    let goesTo (i : Instr) (q : Pump) (words : List PumpWord) : Prop := ∃ t, exec i s = .next t ∧ t.now = now ∧
      t.pumps.get c = q ∧ t.port = ControlPort.placeAll now (words.map (PumpWord.on c)) s.port ∧
      t.point (pumpPoint c) = (if q.state = p.state then s.point (pumpPoint c) else ⟨q.state.code, .valid, 0⟩) ∧
      pointsOnly [pumpPoint c] s t ∧ changesOnly [.now, .pump c, .port, .points] s t
    (p.startAt = some due →
      goesTo (.startTimerExpiry c)
        (if under then { p with state := .reduced, startAt := none, probeAt := again }
         else if p.target = 0 then { p with state := .run, startAt := none }
         else { p with state := .ramp, startAt := none, rampAt := some (now + 10000) })
        (if under then [⟨.setpoint, 0, .safety⟩] else [])) ∧
    (p.rampAt = some due →
      goesTo (.rampTimerExpiry c)
        (if gap ≤ p.inUse.rampStep then { p with state := .run, current := p.target, rampAt := none }
         else { p with current := step, rampAt := some (due + 10000) })
        [⟨.setpoint, if gap ≤ p.inUse.rampStep then p.target else step, .pump⟩]) ∧
    (p.probeAt = some due →
      goesTo (.probeTimerExpiry c)
        { p with
          state := .probe, current := p.target, probeAt := none,
          durationAt := some (now + 1000000 * p.inUse.probeDuration) }
        [⟨.setpoint, p.target, .pump⟩]) ∧
    (p.durationAt = some due →
      goesTo (.probeDurationExpiry c)
        (if under then { p with state := .reduced, current := lower, durationAt := none, probeAt := again }
         else { p with state := .run, durationAt := none })
        (if under then [⟨.setpoint, lower, .safety⟩] else [])) ∧
    (p.statusAt = some due →
      goesTo (.statusReadTimerExpiry c) { p with statusAt := some (due + 1000000) } [⟨.statusRead, 0, .pump⟩])

/-- A word placed for a device and register that has one waiting takes its place with the new value and the higher class,
else it joins at the end; so no two words are ever for one device and register (R144). -/
def Obligations.PlacedWordsCoalesce : Prop :=
  ∀ (w : PortWord) (l : List PortWord), (l.map (fun x => (x.device, x.register))).Nodup →
    let key (x : PortWord) := (x.device, x.register)
    let higher (a b : WordClass) : WordClass :=
      if a = .safety ∨ b = .safety then .safety else if a = .pump ∨ b = .pump then .pump else .charger
    (key w ∉ l.map key → joinWord w l = l ++ [w]) ∧
    (∀ (l1 l2 : List PortWord) (x : PortWord), l = l1 ++ x :: l2 → key x = key w →
      joinWord w l = l1 ++ ⟨w.device, w.register, w.value, higher x.cls w.cls⟩ :: l2) ∧
    ((joinWord w l).map key).Nodup ∧
    ((∀ x ∈ w :: l, x.register.ofDevice x.device = true) → (joinWord w l).length ≤ 12)

/-- A transfer and its completion: the device's select asserted, sixteen clocks that present the word most significant bit
first and sample the reply so, the select released; a reply with the fault bit, its first, faults the pump channel of its
driver, or the charge stage that drives the charger; a reply without it changes nothing; then the oldest word of the highest
class waiting is sent, as the 16-bit word of its register code and value, with its own device selected (R141, R143, R145,
R152). The owner takes the reply before the next word is chosen, and what the part did is recorded at the completion (log
entries 28 and 35). -/
def Obligations.TransfersEndAndTheNextWordGoes : Prop :=
  ∀ (x : Transfer) (reply : Vector Bool 16) (s : State), s.port.transfer = some x → PortLawful s → SupplyLawful s →
    ShedLawful s →
    let now := max s.now x.doneAt
    let fault : Bool := reply[0]
    let did : List PortSignal :=
      [.assertSelect x.device] ++ (List.ofFn fun i : Fin 16 => .clock (x.word.getMsbD i) reply[i]) ++
        [.releaseSelect x.device]
    let bits (w : PortWord) : BitVec 16 := BitVec.ofNat 16 (w.register.code * 4096 + w.value % 4096)
    let sends (waiting : List PortWord) (t : State) : Prop :=
      (waiting = [] → t.port = ⟨[], none, did⟩ ∧ t.port.selected = none) ∧
      (waiting ≠ [] → ∃ l1 w l2, waiting = l1 ++ w :: l2 ∧ (∀ y ∈ l1, w.cls.rank < y.cls.rank) ∧
        (∀ y ∈ l2, w.cls.rank ≤ y.cls.rank) ∧ t.port = ⟨l1 ++ l2, some ⟨w.device, bits w, now + 16⟩, did⟩ ∧
        t.port.selected = some w.device)
    s.port.selected = some x.device ∧ (∀ i : Fin 16, (shiftIn x.word reply.toList).getMsbD i = reply[i]) ∧
    (fault = false → ∃ t, exec (.transferComplete reply) s = .next t ∧ t.now = now ∧ sends s.port.words t ∧
      changesOnly [.now, .port] s t) ∧
    (∀ c, fault = true → x.device = driver c →
      let r := (s.pumps.get c).driverFault
      ∃ t, exec (.transferComplete reply) s = .next t ∧ t.now = now ∧ t.pumps.get c = r.pump ∧
        sends ((r.words.map (PumpWord.on c)).foldl (fun l w => joinWord w l) s.port.words) t ∧
        changesOnly [.now, .port, .pump c, .points] s t ∧ pointsOnly [pumpPoint c] s t) ∧
    (fault = true → x.device = .charger →
      let faults := s.supply.stage = .bulk ∨ s.supply.stage = .absorb ∨ s.supply.stage = .float ∨ s.supply.stage = .halted
      ∃ t, exec (.transferComplete reply) s = .next t ∧ t.now = now ∧
        t.supply = (if faults then { s.supply with stage := .fault } else s.supply) ∧
        sends (if s.supply.stage.enabled then joinWord ⟨.charger, .chargeEnable, 0, .charger⟩ s.port.words
          else s.port.words) t ∧
        changesOnly [.now, .port, .supply] s t)

/-! Hut supply, loads and outputs (chapter 9). -/

/-- A supply check: the PV input and its charge limit, the zone, the charge stage with its timers and its charger words, the
voltage level and the brown-out hold, each on the records read once; the rows for a no-sag count of 60 and for the two
stage timers are that same check in their case (R147, R148, R150 to R154). The zone of a temperature from the zone held:
a threshold crossed toward NORMAL must be passed by the hysteresis; and the voltage level: up at once to the highest
voltage undershot, down only past that voltage plus the hysteresis (R151, R154). The order of a stage's moves, one move a
check, the brown-out hold held on an INVALID point, and the words by the stage and quantities before and after the check are
the model's reading (log entries 6, 16, 17 and 41). -/
def Obligations.SupplyCheckWorksThroughItsSteps : Prop :=
  (∀ (due : Nat) (s : State), s.supply.checkAt = some due → SupplyLawful s → ∃ t, exec .supplyCheck s = .next t ∧
      let u := s.supply
      let v := t.supply
      let g := u.inUse
      let p8 := s.point 8
      let p9 := s.point 9
      let p10 := s.point 10
      let ok (p : Point) : Prop := p.validity ≠ .invalid
      let dark := ok p10 ∧ p10.value < g.presence
      let sags := u.pv = .qualified ∧ ok p10 ∧ g.presence ≤ p10.value ∧ p10.value < u.hold
      let stands := u.pv = .qualified ∧ ok p10 ∧ g.presence ≤ p10.value ∧ u.hold ≤ p10.value
      let rating := 1000 * (g.arrayCode + 1)
      let extreme := v.zone = .cold ∨ v.zone = .hot
      let full := ok p8 ∧ g.absorbVoltage ≤ p8.value
      let tapered := ok p9 ∧ p9.value < g.absorbEnd
      let low := ok p8 ∧ p8.value < g.floatReturn
      let total := u.stageTime + (if v.derated = true ∨ v.zone = .cool ∨ v.zone = .warm then 1 else 2)
      let bulkOut := u.stage = .bulk ∧ ¬dark ∧ ¬extreme ∧ ¬full ∧ 7200 * g.bulkTime ≤ total
      let absorbOut := u.stage = .absorb ∧ ¬dark ∧ ¬extreme ∧ ¬tapered ∧ 7200 * g.absorbTime ≤ total
      let current (x : Supply) : Nat := match x.zone with | .normal => x.limit | .cool | .warm => x.limit / 2 | _ => 0
      let voltage (x : Supply) : Int :=
        if x.stage = .float then (if x.zone = .warm then g.floatVoltage - g.warmReduction else g.floatVoltage)
        else g.absorbVoltage
      let enabled (x : Supply) : Prop := x.stage = .bulk ∨ x.stage = .absorb ∨ x.stage = .float
      let word (r : Register) (n : Nat) : PortWord := ⟨.charger, r, n, .charger⟩
      let words : List PortWord :=
        (if enabled v ∧ (¬enabled u ∨ current u ≠ current v) then [word .currentLimit (current v / 10)] else []) ++
          (if enabled v ∧ (¬enabled u ∨ voltage u ≠ voltage v) then [word .voltageTarget (voltage v / 2).toNat] else []) ++
          (if enabled v ∧ ¬enabled u then [word .chargeEnable 1] else []) ++
          (if enabled u ∧ ¬enabled v then [word .chargeEnable 0] else []) ++
          (if v.stage = .off then [] else [word .chargeStatus 0])
      t.now = max s.now due ∧ v.checkAt = some (due + 1000000) ∧ v.inUse = g ∧
      (dark → v.pv = .absent ∧ v.failures = 0 ∧ v.settleAt = none ∧ v.testAt = none ∧ v.retryAt = none ∧
        v.stage = if u.stage = .fault then .fault else .off) ∧
      (u.pv = .absent → ok p10 → ¬dark → v.pv = .settling ∧ v.settleAt = some (t.now + 1000000)) ∧
      (¬dark → u.pv ≠ .absent ∨ ¬ok p10 →
        v.pv = u.pv ∧ v.failures = u.failures ∧ v.settleAt = u.settleAt ∧ v.testAt = u.testAt ∧ v.retryAt = u.retryAt) ∧
      (sags → v.limit = max 200 (u.limit - 100) ∧ v.derated = true ∧ v.noSag = 0) ∧
      (stands → u.noSag + 1 < 60 → v.limit = u.limit ∧ v.derated = u.derated ∧ v.noSag = u.noSag + 1) ∧
      (stands → u.noSag + 1 = 60 → v.limit = min rating (u.limit + 100) ∧ v.noSag = 0 ∧
        (v.limit = rating → v.derated = false) ∧ (v.limit ≠ rating → v.derated = u.derated)) ∧
      (¬sags → ¬stands → v.limit = u.limit ∧ v.derated = u.derated ∧ v.noSag = u.noSag) ∧
      v.zone = (if (s.point 12).validity = .invalid then u.zone else zoneOf g u.zone (s.point 12).value) ∧
      v.zoneLevel = (match v.zone with | .cold => g.coldLevel | .hot => g.hotLevel | _ => 0) ∧
      (s.points.recs.length = 46 →
        t.point 38 = (if v.zone = u.zone then s.point 38 else ⟨v.zone.code, .valid, 0⟩) ∧
        t.point 40 = (if v.pv = u.pv then s.point 40 else ⟨v.pv.code, .valid, 0⟩)) ∧
      (v.level = u.level → t.port = ControlPort.placeAll t.now words s.port) ∧
      (¬dark → extreme → u.stage = .bulk ∨ u.stage = .absorb ∨ u.stage = .float ∨ u.stage = .halted → v.stage = .halted) ∧
      (¬dark → ¬extreme → u.stage = .halted → v.stage = .bulk ∧ v.stageTime = 0) ∧
      (¬dark → ¬extreme → u.stage = .bulk → full → v.stage = .absorb ∧ v.stageTime = 0) ∧
      (bulkOut → v.stage = .fault) ∧
      (¬dark → ¬extreme → u.stage = .bulk → ¬full → ¬bulkOut → v.stage = .bulk ∧ v.stageTime = total) ∧
      (¬dark → ¬extreme → u.stage = .absorb → tapered → v.stage = .float) ∧ (absorbOut → v.stage = .float) ∧
      (¬dark → ¬extreme → u.stage = .absorb → ¬tapered → ¬absorbOut → v.stage = .absorb ∧ v.stageTime = total) ∧
      (¬dark → ¬extreme → u.stage = .float → low → v.stage = .bulk ∧ v.stageTime = 0) ∧
      (¬dark → ¬extreme → u.stage = .float → ¬low → v.stage = .float) ∧
      (u.stage = .off ∨ u.stage = .fault → v.stage = u.stage) ∧
      v.voltageLevel = (if p8.validity = .invalid then u.voltageLevel else voltageLevelOf g u.voltageLevel p8.value) ∧
      v.brownHold = (if u.brownHold = 4 ∧ ok p8 ∧ g.brownOutRelease ≤ p8.value then 0 else u.brownHold) ∧
      v.level = t.shedLevel ∧
      exec .noSagCountReached s = .next (if stands ∧ u.noSag + 1 = 60 then t else s) ∧
      exec .bulkTimerExpiry s = .next (if bulkOut then t else s) ∧
      exec .absorbTimerExpiry s = .next (if absorbOut then t else s) ∧
      changesOnly [.now, .supply, .points, .pump .ab, .pump .ba, .port, .outputs] s t ∧ pointsOnly [38, 39, 40, 41, 42] s t) ∧
  (∀ (g : SupplySettings) (z : Zone) (t v : Int) (held : Nat), g.valid = true → held ≤ 4 →
      let h := g.zoneHyst
      let r := zoneOf g z t
      let a1 := g.t1 + if z = .cold then h else 0
      let a2 := g.t2 + if z = .cold ∨ z = .cool then h else 0
      let a3 := g.t3 - if z = .warm ∨ z = .hot then h else 0
      let a4 := g.t4 - if z = .hot then h else 0
      let volts (n : Nat) : Int := if n = 1 then g.v1 else if n = 2 then g.v2 else if n = 3 then g.v3 else g.v4
      let below (off : Int) (n : Nat) : Prop := 1 ≤ n ∧ n ≤ 4 ∧ v < volts n + off
      let highest (off : Int) (top n : Nat) : Prop :=
        n ≤ top ∧ (n = 0 ∨ below off n) ∧ ∀ k ≤ top, below off k → k ≤ n
      let level := voltageLevelOf g held v
      (r = .cold ↔ t < a1) ∧ (r = .cool ↔ a1 ≤ t ∧ t < a2) ∧ (r = .normal ↔ a2 ≤ t ∧ t ≤ a3) ∧
      (r = .warm ↔ a3 < t ∧ t ≤ a4) ∧ (r = .hot ↔ a4 < t) ∧
      (∀ u, highest 0 4 u → held ≤ u → level = u) ∧
      (∀ u, highest 0 4 u → u < held → highest g.shedHyst held level))

/-- The PV timers: settling into a test with the open-circuit voltage read, or back to ABSENT or SETTLING; a test passed into
QUALIFIED with hold point, charge limit and charge stage set, failed into a retry or at the fifth failure into lockout;
the retry into SETTLING; OUT7 is high in TESTING alone; the entry to BULK places CURRENT_LIMIT, VOLTAGE_TARGET and ENABLE 1,
and no other of these events a word (R148, R149, R150, R152, R153). The shed level is recomputed once, at the end (log entry
15). -/
def Obligations.PvTimersQualifyTheArray : Prop :=
  ∀ (due : Nat) (s : State), SupplyLawful s → s.points.recs.length = 46 →
    let u := s.supply
    let g := u.inUse
    let p := s.point 10
    let now := max s.now due
    let bad := p.validity = .invalid
    let calm (u : Supply) : Supply := { u with settleAt := none, testAt := none, retryAt := none }
    let settling : Supply := { calm u with pv := .settling, settleAt := some (now + 1000000) }
    let rating := 1000 * (g.arrayCode + 1)
    let enters := u.stage = .off ∨ u.stage = .fault
    let extreme := u.zone = .cold ∨ u.zone = .hot
    let charges := enters ∧ ¬extreme
    let current := if u.zone = .normal then rating else rating / 2
    let goesTo (i : Instr) (v : Supply) : Prop := ∃ t, exec i s = .next t ∧ t.now = now ∧
      t.supply = { v with level := t.shedLevel } ∧
      (t.supply.level = u.level →
        t.port = ControlPort.placeAll now
          (if v.pv = .qualified ∧ charges then
             [⟨.charger, .currentLimit, current / 10, .charger⟩,
               ⟨.charger, .voltageTarget, (g.absorbVoltage / 2).toNat, .charger⟩, ⟨.charger, .chargeEnable, 1, .charger⟩]
           else []) s.port) ∧
      t.point 40 = (if v.pv = u.pv then s.point 40 else ⟨v.pv.code, .valid, 0⟩) ∧
      t.outputs.testLoad = decide (v.pv = .testing) ∧
      changesOnly [.now, .supply, .points, .outputs, .pump .ab, .pump .ba, .port] s t ∧ pointsOnly [39, 40, 41, 42] s t
    (u.settleAt = some due → bad → goesTo .settleTimerExpiry settling) ∧
    (u.settleAt = some due → ¬bad → p.value < g.presence →
      goesTo .settleTimerExpiry { calm u with pv := .absent, failures := 0 }) ∧
    (u.settleAt = some due → ¬bad → g.presence ≤ p.value →
      goesTo .settleTimerExpiry { calm u with pv := .testing, voc := p.value, testAt := some (now + 100000) }) ∧
    (u.testAt = some due → bad → goesTo .testTimerExpiry settling) ∧
    (u.testAt = some due → ¬bad → g.floor ≤ p.value →
      goesTo .testTimerExpiry
        { calm u with
          pv := .qualified, failures := 0, hold := max g.floor (u.voc * 80 / 100), limit := rating, derated := false,
          noSag := 0, stage := if enters then (if extreme then .halted else .bulk) else u.stage,
          stageTime := if enters ∧ ¬extreme then 0 else u.stageTime }) ∧
    (u.testAt = some due → ¬bad → p.value < g.floor → u.failures + 1 < 5 →
      goesTo .testTimerExpiry
        { calm u with pv := .retryWait, failures := u.failures + 1, retryAt := some (now + 4000000) }) ∧
    (u.testAt = some due → ¬bad → p.value < g.floor → u.failures + 1 = 5 →
      goesTo .testTimerExpiry { calm u with pv := .lockedOut, failures := 5 }) ∧
    (u.retryAt = some due → goesTo .retryTimerExpiry settling)

/-! What every step keeps. -/

/-- The state after reset obeys every law below. -/
def Obligations.ResetStateObeysEveryLaw : Prop :=
  let s := State.reset
  BuffersBounded s ∧ MessagesInForm s ∧ SourcesInForm s ∧ ControlInContact s ∧ (∀ p, (s.at p).lossMatches) ∧
    WindowsLawful s ∧ StatePointsAgree s ∧ PumpsLawful s ∧ PortLawful s ∧ SupplyLawful s ∧ OutputsResolved s ∧
    TablesLawful s ∧ ShedLawful s ∧ ListLawful s ∧ EngineLawful s ∧ PollLawful s ∧ ScanLawful s ∧ FiltersLawful s ∧
    RecordsLawful s ∧ StoreLawful s

/-- Relay buffers hold at most 740 bytes and insert queues 24 messages, the line state is LOST exactly out of SYNC, window
counts stay within 1000, and the control side is NONE or a head in contact (R9, R14, R19, R32); every message waiting to be
sent has the fields and the length a message may have (section 1.2, R3, R5). -/
def Obligations.EveryStepKeepsLinePortsAndControl : Prop :=
  ((∀ s t, BuffersBounded s → step s = .next t → BuffersBounded t) ∧
      (∀ s t, (∀ p, (s.at p).lossMatches) → step s = .next t → ∀ p, (t.at p).lossMatches) ∧
      (∀ s t, WindowsLawful s → step s = .next t → WindowsLawful t) ∧
      ∀ s t, ControlInContact s → step s = .next t → ControlInContact t) ∧
  (∀ s t, MessagesInForm s → SourcesInForm s → step s = .next t → MessagesInForm t ∧ SourcesInForm t)

/-- Each state point, 30 to 45, holds its owner's state, VALID (R92, R93). -/
def Obligations.EveryStepKeepsStatePointsTrue : Prop :=
  ∀ s t, StatePointsAgree s → TablesLawful s → ScanLawful s → PollLawful s → step s = .next t → StatePointsAgree t

/-- Currents, targets, modes and timers go with the channel's state, and no channel ramps or runs under a trigger (R133,
R139); the pending words are one for each device and register, none waits at an idle port, and only SETPOINT words are
safety words (R144, R145). -/
def Obligations.EveryStepKeepsPumpsAndPort : Prop :=
  (∀ s t, PumpsLawful s → step s = .next t → PumpsLawful t) ∧ ∀ s t, PortLawful s → step s = .next t → PortLawful t

/-- The PV state, its timers and OUT7, the charge limit between its bounds while QUALIFIED, and the charger enabled only with
PV QUALIFIED outside COLD and HOT (R148 to R152); the effective shed level is its forcing's or the highest of its sources, 0
to 4, and every output pin stands at the level of the first rank that applies (R155, R157). -/
def Obligations.EveryStepKeepsTheSupplyAndOutputsLawful : Prop :=
  (∀ s t, SupplyLawful s → step s = .next t → SupplyLawful t) ∧
  ((∀ s t, ShedLawful s → TablesLawful s → step s = .next t → ShedLawful t) ∧
      ∀ s t, OutputsResolved s → step s = .next t → OutputsResolved t)

/-- The live tables, and the settings in use, hold only entries their owners accept (R43, R161). While a store runs its buffer
is the image of the live tables and the EEPROM holds the data of every step acknowledged; the EEPROM's cells keep their
canonical form; the store-in-flight flag follows the store (R51, R163). -/
def Obligations.EveryStepKeepsTablesAndStoreTrue : Prop :=
  (∀ s t, TablesLawful s → step s = .next t → TablesLawful t) ∧
  (∀ s t, StoreLawful s → step s = .next t → StoreLawful t)

/-- The Standing Alarm List has no two entries of one condition, and a RAISED entry exactly for each condition that stands;
run states and counts go with their entries, and the engine's outputs are those of the standing conditions (R101, R109, R112
to R114, R120). -/
def Obligations.EveryStepKeepsTheListFollowingConditions : Prop :=
  (∀ s t, ListLawful s → step s = .next t → ListLawful t) ∧
    ∀ s t, ListLawful s → EngineLawful s → step s = .next t → EngineLawful t

/-- At most one poll entry is ACTIVE, the one the operation in flight serves, the bus state is the operation's, and no entry
has more failed attempts than a retry limit allows (R77, R78, R80); the conversion in flight belongs to the Scan List,
filters and point values stay within 16 bits and ages within 255, and only a point that is not INVALID has a staleness
deadline (R55, R59, R69, R85, R86, R87). -/
def Obligations.EveryStepKeepsPollsAndMeasurementsInRange : Prop :=
  (∀ s t, PollLawful s → TablesLawful s → step s = .next t → PollLawful t) ∧
  ((∀ s t, ScanLawful s → TablesLawful s → step s = .next t → ScanLawful t) ∧
      (∀ s t, FiltersLawful s → TablesLawful s → step s = .next t → FiltersLawful t) ∧
      ∀ s t, RecordsLawful s → FiltersLawful s → TablesLawful s → WindowsLawful s → ShedLawful s → step s = .next t →
        RecordsLawful t)

end
end

