-- ==== Sys2Proof/Laws/State.lean ====
section
/-! SUPPORT. What each named update leaves in each field of the state, true by unfolding. -/

namespace Sys2Proof.Machine

@[simp] theorem reach_pending (t : Nat) (s : State) : (s.reach t).pending = s.pending := rfl
@[simp] theorem reach_inbox (t : Nat) (s : State) : (s.reach t).inbox = s.inbox := rfl
@[simp] theorem reach_brownOuts (t : Nat) (s : State) : (s.reach t).brownOuts = s.brownOuts := rfl
@[simp] theorem reach_ownAddr (t : Nat) (s : State) : (s.reach t).ownAddr = s.ownAddr := rfl
@[simp] theorem reach_ports (t : Nat) (s : State) : (s.reach t).ports = s.ports := rfl
@[simp] theorem reach_tables (t : Nat) (s : State) : (s.reach t).tables = s.tables := rfl
@[simp] theorem reach_agent (t : Nat) (s : State) : (s.reach t).agent = s.agent := rfl
@[simp] theorem reach_sampling (t : Nat) (s : State) : (s.reach t).sampling = s.sampling := rfl
@[simp] theorem reach_poll (t : Nat) (s : State) : (s.reach t).poll = s.poll := rfl
@[simp] theorem reach_points (t : Nat) (s : State) : (s.reach t).points = s.points := rfl
@[simp] theorem reach_engine (t : Nat) (s : State) : (s.reach t).engine = s.engine := rfl
@[simp] theorem reach_alarms (t : Nat) (s : State) : (s.reach t).alarms = s.alarms := rfl
@[simp] theorem reach_pumps (t : Nat) (s : State) : (s.reach t).pumps = s.pumps := rfl
@[simp] theorem reach_port (t : Nat) (s : State) : (s.reach t).port = s.port := rfl
@[simp] theorem reach_supply (t : Nat) (s : State) : (s.reach t).supply = s.supply := rfl
@[simp] theorem reach_outputs (t : Nat) (s : State) : (s.reach t).outputs = s.outputs := rfl
@[simp] theorem reach_loader (t : Nat) (s : State) : (s.reach t).loader = s.loader := rfl
@[simp] theorem reach_eeprom (t : Nat) (s : State) : (s.reach t).eeprom = s.eeprom := rfl
@[simp] theorem reach_cuts (t : Nat) (s : State) : (s.reach t).cuts = s.cuts := rfl

@[simp] theorem writePoint_now (i : Nat) (v : Int) (x : Validity) (s : State) : (writePoint i v x s).now = s.now := rfl
@[simp] theorem writePoint_pending (i : Nat) (v : Int) (x : Validity) (s : State) : (writePoint i v x s).pending = s.pending := rfl
@[simp] theorem writePoint_inbox (i : Nat) (v : Int) (x : Validity) (s : State) : (writePoint i v x s).inbox = s.inbox := rfl
@[simp] theorem writePoint_brownOuts (i : Nat) (v : Int) (x : Validity) (s : State) : (writePoint i v x s).brownOuts = s.brownOuts := rfl
@[simp] theorem writePoint_ownAddr (i : Nat) (v : Int) (x : Validity) (s : State) : (writePoint i v x s).ownAddr = s.ownAddr := rfl
@[simp] theorem writePoint_ports (i : Nat) (v : Int) (x : Validity) (s : State) : (writePoint i v x s).ports = s.ports := rfl
@[simp] theorem writePoint_tables (i : Nat) (v : Int) (x : Validity) (s : State) : (writePoint i v x s).tables = s.tables := rfl
@[simp] theorem writePoint_agent (i : Nat) (v : Int) (x : Validity) (s : State) : (writePoint i v x s).agent = s.agent := rfl
@[simp] theorem writePoint_sampling (i : Nat) (v : Int) (x : Validity) (s : State) : (writePoint i v x s).sampling = s.sampling := rfl
@[simp] theorem writePoint_poll (i : Nat) (v : Int) (x : Validity) (s : State) : (writePoint i v x s).poll = s.poll := rfl
@[simp] theorem writePoint_engine (i : Nat) (v : Int) (x : Validity) (s : State) : (writePoint i v x s).engine = s.engine := rfl
@[simp] theorem writePoint_alarms (i : Nat) (v : Int) (x : Validity) (s : State) : (writePoint i v x s).alarms = s.alarms := rfl
@[simp] theorem writePoint_pumps (i : Nat) (v : Int) (x : Validity) (s : State) : (writePoint i v x s).pumps = s.pumps := rfl
@[simp] theorem writePoint_port (i : Nat) (v : Int) (x : Validity) (s : State) : (writePoint i v x s).port = s.port := rfl
@[simp] theorem writePoint_supply (i : Nat) (v : Int) (x : Validity) (s : State) : (writePoint i v x s).supply = s.supply := rfl
@[simp] theorem writePoint_outputs (i : Nat) (v : Int) (x : Validity) (s : State) : (writePoint i v x s).outputs = s.outputs := rfl
@[simp] theorem writePoint_loader (i : Nat) (v : Int) (x : Validity) (s : State) : (writePoint i v x s).loader = s.loader := rfl
@[simp] theorem writePoint_eeprom (i : Nat) (v : Int) (x : Validity) (s : State) : (writePoint i v x s).eeprom = s.eeprom := rfl
@[simp] theorem writePoint_cuts (i : Nat) (v : Int) (x : Validity) (s : State) : (writePoint i v x s).cuts = s.cuts := rfl

@[simp] theorem invalidate_now (i : Nat) (s : State) : (invalidate i s).now = s.now := rfl
@[simp] theorem invalidate_pending (i : Nat) (s : State) : (invalidate i s).pending = s.pending := rfl
@[simp] theorem invalidate_inbox (i : Nat) (s : State) : (invalidate i s).inbox = s.inbox := rfl
@[simp] theorem invalidate_brownOuts (i : Nat) (s : State) : (invalidate i s).brownOuts = s.brownOuts := rfl
@[simp] theorem invalidate_ownAddr (i : Nat) (s : State) : (invalidate i s).ownAddr = s.ownAddr := rfl
@[simp] theorem invalidate_ports (i : Nat) (s : State) : (invalidate i s).ports = s.ports := rfl
@[simp] theorem invalidate_tables (i : Nat) (s : State) : (invalidate i s).tables = s.tables := rfl
@[simp] theorem invalidate_agent (i : Nat) (s : State) : (invalidate i s).agent = s.agent := rfl
@[simp] theorem invalidate_sampling (i : Nat) (s : State) : (invalidate i s).sampling = s.sampling := rfl
@[simp] theorem invalidate_poll (i : Nat) (s : State) : (invalidate i s).poll = s.poll := rfl
@[simp] theorem invalidate_engine (i : Nat) (s : State) : (invalidate i s).engine = s.engine := rfl
@[simp] theorem invalidate_alarms (i : Nat) (s : State) : (invalidate i s).alarms = s.alarms := rfl
@[simp] theorem invalidate_pumps (i : Nat) (s : State) : (invalidate i s).pumps = s.pumps := rfl
@[simp] theorem invalidate_port (i : Nat) (s : State) : (invalidate i s).port = s.port := rfl
@[simp] theorem invalidate_supply (i : Nat) (s : State) : (invalidate i s).supply = s.supply := rfl
@[simp] theorem invalidate_outputs (i : Nat) (s : State) : (invalidate i s).outputs = s.outputs := rfl
@[simp] theorem invalidate_loader (i : Nat) (s : State) : (invalidate i s).loader = s.loader := rfl
@[simp] theorem invalidate_eeprom (i : Nat) (s : State) : (invalidate i s).eeprom = s.eeprom := rfl
@[simp] theorem invalidate_cuts (i : Nat) (s : State) : (invalidate i s).cuts = s.cuts := rfl

@[simp] theorem sendReply_now (m : Sender) (c : Byte) (st : Status) (r : List Byte) (s : State) : (sendReply m c st r s).now = s.now := rfl
@[simp] theorem sendReply_pending (m : Sender) (c : Byte) (st : Status) (r : List Byte) (s : State) : (sendReply m c st r s).pending = s.pending := rfl
@[simp] theorem sendReply_inbox (m : Sender) (c : Byte) (st : Status) (r : List Byte) (s : State) : (sendReply m c st r s).inbox = s.inbox := rfl
@[simp] theorem sendReply_brownOuts (m : Sender) (c : Byte) (st : Status) (r : List Byte) (s : State) : (sendReply m c st r s).brownOuts = s.brownOuts := rfl
@[simp] theorem sendReply_ownAddr (m : Sender) (c : Byte) (st : Status) (r : List Byte) (s : State) : (sendReply m c st r s).ownAddr = s.ownAddr := rfl
@[simp] theorem sendReply_tables (m : Sender) (c : Byte) (st : Status) (r : List Byte) (s : State) : (sendReply m c st r s).tables = s.tables := rfl
@[simp] theorem sendReply_agent (m : Sender) (c : Byte) (st : Status) (r : List Byte) (s : State) : (sendReply m c st r s).agent = s.agent := rfl
@[simp] theorem sendReply_sampling (m : Sender) (c : Byte) (st : Status) (r : List Byte) (s : State) : (sendReply m c st r s).sampling = s.sampling := rfl
@[simp] theorem sendReply_poll (m : Sender) (c : Byte) (st : Status) (r : List Byte) (s : State) : (sendReply m c st r s).poll = s.poll := rfl
@[simp] theorem sendReply_points (m : Sender) (c : Byte) (st : Status) (r : List Byte) (s : State) : (sendReply m c st r s).points = s.points := rfl
@[simp] theorem sendReply_engine (m : Sender) (c : Byte) (st : Status) (r : List Byte) (s : State) : (sendReply m c st r s).engine = s.engine := rfl
@[simp] theorem sendReply_alarms (m : Sender) (c : Byte) (st : Status) (r : List Byte) (s : State) : (sendReply m c st r s).alarms = s.alarms := rfl
@[simp] theorem sendReply_pumps (m : Sender) (c : Byte) (st : Status) (r : List Byte) (s : State) : (sendReply m c st r s).pumps = s.pumps := rfl
@[simp] theorem sendReply_port (m : Sender) (c : Byte) (st : Status) (r : List Byte) (s : State) : (sendReply m c st r s).port = s.port := rfl
@[simp] theorem sendReply_supply (m : Sender) (c : Byte) (st : Status) (r : List Byte) (s : State) : (sendReply m c st r s).supply = s.supply := rfl
@[simp] theorem sendReply_outputs (m : Sender) (c : Byte) (st : Status) (r : List Byte) (s : State) : (sendReply m c st r s).outputs = s.outputs := rfl
@[simp] theorem sendReply_loader (m : Sender) (c : Byte) (st : Status) (r : List Byte) (s : State) : (sendReply m c st r s).loader = s.loader := rfl
@[simp] theorem sendReply_eeprom (m : Sender) (c : Byte) (st : Status) (r : List Byte) (s : State) : (sendReply m c st r s).eeprom = s.eeprom := rfl
@[simp] theorem sendReply_cuts (m : Sender) (c : Byte) (st : Status) (r : List Byte) (s : State) : (sendReply m c st r s).cuts = s.cuts := rfl

@[simp] theorem placeWords_now (l : List PortWord) (s : State) : (placeWords l s).now = s.now := rfl
@[simp] theorem placeWords_pending (l : List PortWord) (s : State) : (placeWords l s).pending = s.pending := rfl
@[simp] theorem placeWords_inbox (l : List PortWord) (s : State) : (placeWords l s).inbox = s.inbox := rfl
@[simp] theorem placeWords_brownOuts (l : List PortWord) (s : State) : (placeWords l s).brownOuts = s.brownOuts := rfl
@[simp] theorem placeWords_ownAddr (l : List PortWord) (s : State) : (placeWords l s).ownAddr = s.ownAddr := rfl
@[simp] theorem placeWords_ports (l : List PortWord) (s : State) : (placeWords l s).ports = s.ports := rfl
@[simp] theorem placeWords_tables (l : List PortWord) (s : State) : (placeWords l s).tables = s.tables := rfl
@[simp] theorem placeWords_agent (l : List PortWord) (s : State) : (placeWords l s).agent = s.agent := rfl
@[simp] theorem placeWords_sampling (l : List PortWord) (s : State) : (placeWords l s).sampling = s.sampling := rfl
@[simp] theorem placeWords_poll (l : List PortWord) (s : State) : (placeWords l s).poll = s.poll := rfl
@[simp] theorem placeWords_points (l : List PortWord) (s : State) : (placeWords l s).points = s.points := rfl
@[simp] theorem placeWords_engine (l : List PortWord) (s : State) : (placeWords l s).engine = s.engine := rfl
@[simp] theorem placeWords_alarms (l : List PortWord) (s : State) : (placeWords l s).alarms = s.alarms := rfl
@[simp] theorem placeWords_pumps (l : List PortWord) (s : State) : (placeWords l s).pumps = s.pumps := rfl
@[simp] theorem placeWords_supply (l : List PortWord) (s : State) : (placeWords l s).supply = s.supply := rfl
@[simp] theorem placeWords_outputs (l : List PortWord) (s : State) : (placeWords l s).outputs = s.outputs := rfl
@[simp] theorem placeWords_loader (l : List PortWord) (s : State) : (placeWords l s).loader = s.loader := rfl
@[simp] theorem placeWords_eeprom (l : List PortWord) (s : State) : (placeWords l s).eeprom = s.eeprom := rfl
@[simp] theorem placeWords_cuts (l : List PortWord) (s : State) : (placeWords l s).cuts = s.cuts := rfl

@[simp] theorem resolveOutputs_now (s : State) : (resolveOutputs s).now = s.now := rfl
@[simp] theorem resolveOutputs_pending (s : State) : (resolveOutputs s).pending = s.pending := rfl
@[simp] theorem resolveOutputs_inbox (s : State) : (resolveOutputs s).inbox = s.inbox := rfl
@[simp] theorem resolveOutputs_brownOuts (s : State) : (resolveOutputs s).brownOuts = s.brownOuts := rfl
@[simp] theorem resolveOutputs_ownAddr (s : State) : (resolveOutputs s).ownAddr = s.ownAddr := rfl
@[simp] theorem resolveOutputs_ports (s : State) : (resolveOutputs s).ports = s.ports := rfl
@[simp] theorem resolveOutputs_tables (s : State) : (resolveOutputs s).tables = s.tables := rfl
@[simp] theorem resolveOutputs_agent (s : State) : (resolveOutputs s).agent = s.agent := rfl
@[simp] theorem resolveOutputs_sampling (s : State) : (resolveOutputs s).sampling = s.sampling := rfl
@[simp] theorem resolveOutputs_poll (s : State) : (resolveOutputs s).poll = s.poll := rfl
@[simp] theorem resolveOutputs_points (s : State) : (resolveOutputs s).points = s.points := rfl
@[simp] theorem resolveOutputs_engine (s : State) : (resolveOutputs s).engine = s.engine := rfl
@[simp] theorem resolveOutputs_alarms (s : State) : (resolveOutputs s).alarms = s.alarms := rfl
@[simp] theorem resolveOutputs_pumps (s : State) : (resolveOutputs s).pumps = s.pumps := rfl
@[simp] theorem resolveOutputs_port (s : State) : (resolveOutputs s).port = s.port := rfl
@[simp] theorem resolveOutputs_supply (s : State) : (resolveOutputs s).supply = s.supply := rfl
@[simp] theorem resolveOutputs_loader (s : State) : (resolveOutputs s).loader = s.loader := rfl
@[simp] theorem resolveOutputs_eeprom (s : State) : (resolveOutputs s).eeprom = s.eeprom := rfl
@[simp] theorem resolveOutputs_cuts (s : State) : (resolveOutputs s).cuts = s.cuts := rfl

@[simp] theorem startPulse_now (o d : Nat) (s : State) : (startPulse o d s).now = s.now := rfl
@[simp] theorem startPulse_pending (o d : Nat) (s : State) : (startPulse o d s).pending = s.pending := rfl
@[simp] theorem startPulse_inbox (o d : Nat) (s : State) : (startPulse o d s).inbox = s.inbox := rfl
@[simp] theorem startPulse_brownOuts (o d : Nat) (s : State) : (startPulse o d s).brownOuts = s.brownOuts := rfl
@[simp] theorem startPulse_ownAddr (o d : Nat) (s : State) : (startPulse o d s).ownAddr = s.ownAddr := rfl
@[simp] theorem startPulse_ports (o d : Nat) (s : State) : (startPulse o d s).ports = s.ports := rfl
@[simp] theorem startPulse_tables (o d : Nat) (s : State) : (startPulse o d s).tables = s.tables := rfl
@[simp] theorem startPulse_agent (o d : Nat) (s : State) : (startPulse o d s).agent = s.agent := rfl
@[simp] theorem startPulse_sampling (o d : Nat) (s : State) : (startPulse o d s).sampling = s.sampling := rfl
@[simp] theorem startPulse_poll (o d : Nat) (s : State) : (startPulse o d s).poll = s.poll := rfl
@[simp] theorem startPulse_points (o d : Nat) (s : State) : (startPulse o d s).points = s.points := rfl
@[simp] theorem startPulse_engine (o d : Nat) (s : State) : (startPulse o d s).engine = s.engine := rfl
@[simp] theorem startPulse_alarms (o d : Nat) (s : State) : (startPulse o d s).alarms = s.alarms := rfl
@[simp] theorem startPulse_pumps (o d : Nat) (s : State) : (startPulse o d s).pumps = s.pumps := rfl
@[simp] theorem startPulse_port (o d : Nat) (s : State) : (startPulse o d s).port = s.port := rfl
@[simp] theorem startPulse_supply (o d : Nat) (s : State) : (startPulse o d s).supply = s.supply := rfl
@[simp] theorem startPulse_loader (o d : Nat) (s : State) : (startPulse o d s).loader = s.loader := rfl
@[simp] theorem startPulse_eeprom (o d : Nat) (s : State) : (startPulse o d s).eeprom = s.eeprom := rfl
@[simp] theorem startPulse_cuts (o d : Nat) (s : State) : (startPulse o d s).cuts = s.cuts := rfl

@[simp] theorem applyPump_now (c : Channel) (r : PumpResult) (s : State) : (applyPump c r s).now = s.now := rfl
@[simp] theorem applyPump_pending (c : Channel) (r : PumpResult) (s : State) : (applyPump c r s).pending = s.pending := rfl
@[simp] theorem applyPump_inbox (c : Channel) (r : PumpResult) (s : State) : (applyPump c r s).inbox = s.inbox := rfl
@[simp] theorem applyPump_brownOuts (c : Channel) (r : PumpResult) (s : State) : (applyPump c r s).brownOuts = s.brownOuts := rfl
@[simp] theorem applyPump_ownAddr (c : Channel) (r : PumpResult) (s : State) : (applyPump c r s).ownAddr = s.ownAddr := rfl
@[simp] theorem applyPump_ports (c : Channel) (r : PumpResult) (s : State) : (applyPump c r s).ports = s.ports := rfl
@[simp] theorem applyPump_tables (c : Channel) (r : PumpResult) (s : State) : (applyPump c r s).tables = s.tables := rfl
@[simp] theorem applyPump_agent (c : Channel) (r : PumpResult) (s : State) : (applyPump c r s).agent = s.agent := rfl
@[simp] theorem applyPump_sampling (c : Channel) (r : PumpResult) (s : State) : (applyPump c r s).sampling = s.sampling := rfl
@[simp] theorem applyPump_poll (c : Channel) (r : PumpResult) (s : State) : (applyPump c r s).poll = s.poll := rfl
@[simp] theorem applyPump_engine (c : Channel) (r : PumpResult) (s : State) : (applyPump c r s).engine = s.engine := rfl
@[simp] theorem applyPump_alarms (c : Channel) (r : PumpResult) (s : State) : (applyPump c r s).alarms = s.alarms := rfl
@[simp] theorem applyPump_supply (c : Channel) (r : PumpResult) (s : State) : (applyPump c r s).supply = s.supply := rfl
@[simp] theorem applyPump_outputs (c : Channel) (r : PumpResult) (s : State) : (applyPump c r s).outputs = s.outputs := rfl
@[simp] theorem applyPump_loader (c : Channel) (r : PumpResult) (s : State) : (applyPump c r s).loader = s.loader := rfl
@[simp] theorem applyPump_eeprom (c : Channel) (r : PumpResult) (s : State) : (applyPump c r s).eeprom = s.eeprom := rfl
@[simp] theorem applyPump_cuts (c : Channel) (r : PumpResult) (s : State) : (applyPump c r s).cuts = s.cuts := rfl

@[simp] theorem setPort_now (x : Side) (p : LinePort) (s : State) : (s.setPort x p).now = s.now := rfl
@[simp] theorem setPort_pending (x : Side) (p : LinePort) (s : State) : (s.setPort x p).pending = s.pending := rfl
@[simp] theorem setPort_inbox (x : Side) (p : LinePort) (s : State) : (s.setPort x p).inbox = s.inbox := rfl
@[simp] theorem setPort_brownOuts (x : Side) (p : LinePort) (s : State) : (s.setPort x p).brownOuts = s.brownOuts := rfl
@[simp] theorem setPort_ownAddr (x : Side) (p : LinePort) (s : State) : (s.setPort x p).ownAddr = s.ownAddr := rfl
@[simp] theorem setPort_tables (x : Side) (p : LinePort) (s : State) : (s.setPort x p).tables = s.tables := rfl
@[simp] theorem setPort_agent (x : Side) (p : LinePort) (s : State) : (s.setPort x p).agent = s.agent := rfl
@[simp] theorem setPort_sampling (x : Side) (p : LinePort) (s : State) : (s.setPort x p).sampling = s.sampling := rfl
@[simp] theorem setPort_poll (x : Side) (p : LinePort) (s : State) : (s.setPort x p).poll = s.poll := rfl
@[simp] theorem setPort_points (x : Side) (p : LinePort) (s : State) : (s.setPort x p).points = s.points := rfl
@[simp] theorem setPort_engine (x : Side) (p : LinePort) (s : State) : (s.setPort x p).engine = s.engine := rfl
@[simp] theorem setPort_alarms (x : Side) (p : LinePort) (s : State) : (s.setPort x p).alarms = s.alarms := rfl
@[simp] theorem setPort_pumps (x : Side) (p : LinePort) (s : State) : (s.setPort x p).pumps = s.pumps := rfl
@[simp] theorem setPort_port (x : Side) (p : LinePort) (s : State) : (s.setPort x p).port = s.port := rfl
@[simp] theorem setPort_supply (x : Side) (p : LinePort) (s : State) : (s.setPort x p).supply = s.supply := rfl
@[simp] theorem setPort_outputs (x : Side) (p : LinePort) (s : State) : (s.setPort x p).outputs = s.outputs := rfl
@[simp] theorem setPort_loader (x : Side) (p : LinePort) (s : State) : (s.setPort x p).loader = s.loader := rfl
@[simp] theorem setPort_eeprom (x : Side) (p : LinePort) (s : State) : (s.setPort x p).eeprom = s.eeprom := rfl
@[simp] theorem setPort_cuts (x : Side) (p : LinePort) (s : State) : (s.setPort x p).cuts = s.cuts := rfl

@[simp] theorem transmit_now (x : Side) (s : State) : (transmit x s).now = s.now := rfl
@[simp] theorem transmit_pending (x : Side) (s : State) : (transmit x s).pending = s.pending := rfl
@[simp] theorem transmit_inbox (x : Side) (s : State) : (transmit x s).inbox = s.inbox := rfl
@[simp] theorem transmit_brownOuts (x : Side) (s : State) : (transmit x s).brownOuts = s.brownOuts := rfl
@[simp] theorem transmit_ownAddr (x : Side) (s : State) : (transmit x s).ownAddr = s.ownAddr := rfl
@[simp] theorem transmit_tables (x : Side) (s : State) : (transmit x s).tables = s.tables := rfl
@[simp] theorem transmit_sampling (x : Side) (s : State) : (transmit x s).sampling = s.sampling := rfl
@[simp] theorem transmit_poll (x : Side) (s : State) : (transmit x s).poll = s.poll := rfl
@[simp] theorem transmit_points (x : Side) (s : State) : (transmit x s).points = s.points := rfl
@[simp] theorem transmit_engine (x : Side) (s : State) : (transmit x s).engine = s.engine := rfl
@[simp] theorem transmit_alarms (x : Side) (s : State) : (transmit x s).alarms = s.alarms := rfl
@[simp] theorem transmit_pumps (x : Side) (s : State) : (transmit x s).pumps = s.pumps := rfl
@[simp] theorem transmit_port (x : Side) (s : State) : (transmit x s).port = s.port := rfl
@[simp] theorem transmit_supply (x : Side) (s : State) : (transmit x s).supply = s.supply := rfl
@[simp] theorem transmit_outputs (x : Side) (s : State) : (transmit x s).outputs = s.outputs := rfl
@[simp] theorem transmit_loader (x : Side) (s : State) : (transmit x s).loader = s.loader := rfl
@[simp] theorem transmit_eeprom (x : Side) (s : State) : (transmit x s).eeprom = s.eeprom := rfl
@[simp] theorem transmit_cuts (x : Side) (s : State) : (transmit x s).cuts = s.cuts := rfl

@[simp] theorem applySupply_now (v : Supply) (l : List PortWord) (s : State) : (applySupply v l s).now = s.now := rfl
@[simp] theorem applySupply_pending (v : Supply) (l : List PortWord) (s : State) : (applySupply v l s).pending = s.pending := rfl
@[simp] theorem applySupply_inbox (v : Supply) (l : List PortWord) (s : State) : (applySupply v l s).inbox = s.inbox := rfl
@[simp] theorem applySupply_brownOuts (v : Supply) (l : List PortWord) (s : State) : (applySupply v l s).brownOuts = s.brownOuts := rfl
@[simp] theorem applySupply_ownAddr (v : Supply) (l : List PortWord) (s : State) : (applySupply v l s).ownAddr = s.ownAddr := rfl
@[simp] theorem applySupply_ports (v : Supply) (l : List PortWord) (s : State) : (applySupply v l s).ports = s.ports := rfl
@[simp] theorem applySupply_tables (v : Supply) (l : List PortWord) (s : State) : (applySupply v l s).tables = s.tables := rfl
@[simp] theorem applySupply_agent (v : Supply) (l : List PortWord) (s : State) : (applySupply v l s).agent = s.agent := rfl
@[simp] theorem applySupply_sampling (v : Supply) (l : List PortWord) (s : State) : (applySupply v l s).sampling = s.sampling := rfl
@[simp] theorem applySupply_poll (v : Supply) (l : List PortWord) (s : State) : (applySupply v l s).poll = s.poll := rfl
@[simp] theorem applySupply_engine (v : Supply) (l : List PortWord) (s : State) : (applySupply v l s).engine = s.engine := rfl
@[simp] theorem applySupply_alarms (v : Supply) (l : List PortWord) (s : State) : (applySupply v l s).alarms = s.alarms := rfl
@[simp] theorem applySupply_pumps (v : Supply) (l : List PortWord) (s : State) : (applySupply v l s).pumps = s.pumps := rfl
@[simp] theorem applySupply_loader (v : Supply) (l : List PortWord) (s : State) : (applySupply v l s).loader = s.loader := rfl
@[simp] theorem applySupply_eeprom (v : Supply) (l : List PortWord) (s : State) : (applySupply v l s).eeprom = s.eeprom := rfl
@[simp] theorem applySupply_cuts (v : Supply) (l : List PortWord) (s : State) : (applySupply v l s).cuts = s.cuts := rfl

@[simp] theorem takeGrant_now (s : State) : (takeGrant s).now = s.now := rfl
@[simp] theorem takeGrant_pending (s : State) : (takeGrant s).pending = s.pending := rfl
@[simp] theorem takeGrant_inbox (s : State) : (takeGrant s).inbox = s.inbox := rfl
@[simp] theorem takeGrant_brownOuts (s : State) : (takeGrant s).brownOuts = s.brownOuts := rfl
@[simp] theorem takeGrant_ownAddr (s : State) : (takeGrant s).ownAddr = s.ownAddr := rfl
@[simp] theorem takeGrant_ports (s : State) : (takeGrant s).ports = s.ports := rfl
@[simp] theorem takeGrant_tables (s : State) : (takeGrant s).tables = s.tables := rfl
@[simp] theorem takeGrant_agent (s : State) : (takeGrant s).agent = s.agent := rfl
@[simp] theorem takeGrant_sampling (s : State) : (takeGrant s).sampling = s.sampling := rfl
@[simp] theorem takeGrant_points (s : State) : (takeGrant s).points = s.points := rfl
@[simp] theorem takeGrant_engine (s : State) : (takeGrant s).engine = s.engine := rfl
@[simp] theorem takeGrant_alarms (s : State) : (takeGrant s).alarms = s.alarms := rfl
@[simp] theorem takeGrant_pumps (s : State) : (takeGrant s).pumps = s.pumps := rfl
@[simp] theorem takeGrant_port (s : State) : (takeGrant s).port = s.port := rfl
@[simp] theorem takeGrant_supply (s : State) : (takeGrant s).supply = s.supply := rfl
@[simp] theorem takeGrant_outputs (s : State) : (takeGrant s).outputs = s.outputs := rfl
@[simp] theorem takeGrant_loader (s : State) : (takeGrant s).loader = s.loader := rfl
@[simp] theorem takeGrant_eeprom (s : State) : (takeGrant s).eeprom = s.eeprom := rfl
@[simp] theorem takeGrant_cuts (s : State) : (takeGrant s).cuts = s.cuts := rfl

@[simp] theorem setContacts_now (c : Pair (Option Nat)) (s : State) : (setContacts c s).now = s.now := rfl
@[simp] theorem setContacts_pending (c : Pair (Option Nat)) (s : State) : (setContacts c s).pending = s.pending := rfl
@[simp] theorem setContacts_inbox (c : Pair (Option Nat)) (s : State) : (setContacts c s).inbox = s.inbox := rfl
@[simp] theorem setContacts_brownOuts (c : Pair (Option Nat)) (s : State) : (setContacts c s).brownOuts = s.brownOuts := rfl
@[simp] theorem setContacts_ownAddr (c : Pair (Option Nat)) (s : State) : (setContacts c s).ownAddr = s.ownAddr := rfl
@[simp] theorem setContacts_ports (c : Pair (Option Nat)) (s : State) : (setContacts c s).ports = s.ports := rfl
@[simp] theorem setContacts_tables (c : Pair (Option Nat)) (s : State) : (setContacts c s).tables = s.tables := rfl
@[simp] theorem setContacts_sampling (c : Pair (Option Nat)) (s : State) : (setContacts c s).sampling = s.sampling := rfl
@[simp] theorem setContacts_poll (c : Pair (Option Nat)) (s : State) : (setContacts c s).poll = s.poll := rfl
@[simp] theorem setContacts_engine (c : Pair (Option Nat)) (s : State) : (setContacts c s).engine = s.engine := rfl
@[simp] theorem setContacts_alarms (c : Pair (Option Nat)) (s : State) : (setContacts c s).alarms = s.alarms := rfl
@[simp] theorem setContacts_pumps (c : Pair (Option Nat)) (s : State) : (setContacts c s).pumps = s.pumps := rfl
@[simp] theorem setContacts_port (c : Pair (Option Nat)) (s : State) : (setContacts c s).port = s.port := rfl
@[simp] theorem setContacts_supply (c : Pair (Option Nat)) (s : State) : (setContacts c s).supply = s.supply := rfl
@[simp] theorem setContacts_outputs (c : Pair (Option Nat)) (s : State) : (setContacts c s).outputs = s.outputs := rfl
@[simp] theorem setContacts_loader (c : Pair (Option Nat)) (s : State) : (setContacts c s).loader = s.loader := rfl
@[simp] theorem setContacts_eeprom (c : Pair (Option Nat)) (s : State) : (setContacts c s).eeprom = s.eeprom := rfl
@[simp] theorem setContacts_cuts (c : Pair (Option Nat)) (s : State) : (setContacts c s).cuts = s.cuts := rfl

@[simp] theorem contactRestart_now (h : Side) (s : State) : (contactRestart h s).now = s.now := rfl
@[simp] theorem contactRestart_pending (h : Side) (s : State) : (contactRestart h s).pending = s.pending := rfl
@[simp] theorem contactRestart_inbox (h : Side) (s : State) : (contactRestart h s).inbox = s.inbox := rfl
@[simp] theorem contactRestart_brownOuts (h : Side) (s : State) : (contactRestart h s).brownOuts = s.brownOuts := rfl
@[simp] theorem contactRestart_ownAddr (h : Side) (s : State) : (contactRestart h s).ownAddr = s.ownAddr := rfl
@[simp] theorem contactRestart_ports (h : Side) (s : State) : (contactRestart h s).ports = s.ports := rfl
@[simp] theorem contactRestart_tables (h : Side) (s : State) : (contactRestart h s).tables = s.tables := rfl
@[simp] theorem contactRestart_sampling (h : Side) (s : State) : (contactRestart h s).sampling = s.sampling := rfl
@[simp] theorem contactRestart_poll (h : Side) (s : State) : (contactRestart h s).poll = s.poll := rfl
@[simp] theorem contactRestart_engine (h : Side) (s : State) : (contactRestart h s).engine = s.engine := rfl
@[simp] theorem contactRestart_alarms (h : Side) (s : State) : (contactRestart h s).alarms = s.alarms := rfl
@[simp] theorem contactRestart_pumps (h : Side) (s : State) : (contactRestart h s).pumps = s.pumps := rfl
@[simp] theorem contactRestart_port (h : Side) (s : State) : (contactRestart h s).port = s.port := rfl
@[simp] theorem contactRestart_supply (h : Side) (s : State) : (contactRestart h s).supply = s.supply := rfl
@[simp] theorem contactRestart_outputs (h : Side) (s : State) : (contactRestart h s).outputs = s.outputs := rfl
@[simp] theorem contactRestart_loader (h : Side) (s : State) : (contactRestart h s).loader = s.loader := rfl
@[simp] theorem contactRestart_eeprom (h : Side) (s : State) : (contactRestart h s).eeprom = s.eeprom := rfl
@[simp] theorem contactRestart_cuts (h : Side) (s : State) : (contactRestart h s).cuts = s.cuts := rfl

@[simp] theorem spoil_now (k : Nat) (s : State) : (spoil k s).now = s.now := rfl
@[simp] theorem spoil_pending (k : Nat) (s : State) : (spoil k s).pending = s.pending := rfl
@[simp] theorem spoil_inbox (k : Nat) (s : State) : (spoil k s).inbox = s.inbox := rfl
@[simp] theorem spoil_brownOuts (k : Nat) (s : State) : (spoil k s).brownOuts = s.brownOuts := rfl
@[simp] theorem spoil_ownAddr (k : Nat) (s : State) : (spoil k s).ownAddr = s.ownAddr := rfl
@[simp] theorem spoil_ports (k : Nat) (s : State) : (spoil k s).ports = s.ports := rfl
@[simp] theorem spoil_tables (k : Nat) (s : State) : (spoil k s).tables = s.tables := rfl
@[simp] theorem spoil_agent (k : Nat) (s : State) : (spoil k s).agent = s.agent := rfl
@[simp] theorem spoil_sampling (k : Nat) (s : State) : (spoil k s).sampling = s.sampling := rfl
@[simp] theorem spoil_poll (k : Nat) (s : State) : (spoil k s).poll = s.poll := rfl
@[simp] theorem spoil_points (k : Nat) (s : State) : (spoil k s).points = s.points := rfl
@[simp] theorem spoil_engine (k : Nat) (s : State) : (spoil k s).engine = s.engine := rfl
@[simp] theorem spoil_alarms (k : Nat) (s : State) : (spoil k s).alarms = s.alarms := rfl
@[simp] theorem spoil_pumps (k : Nat) (s : State) : (spoil k s).pumps = s.pumps := rfl
@[simp] theorem spoil_port (k : Nat) (s : State) : (spoil k s).port = s.port := rfl
@[simp] theorem spoil_supply (k : Nat) (s : State) : (spoil k s).supply = s.supply := rfl
@[simp] theorem spoil_outputs (k : Nat) (s : State) : (spoil k s).outputs = s.outputs := rfl
@[simp] theorem spoil_loader (k : Nat) (s : State) : (spoil k s).loader = s.loader := rfl

@[simp] theorem commitStep_now (st : Store) (s : State) : (commitStep st s).now = s.now := rfl
@[simp] theorem commitStep_pending (st : Store) (s : State) : (commitStep st s).pending = s.pending := rfl
@[simp] theorem commitStep_inbox (st : Store) (s : State) : (commitStep st s).inbox = s.inbox := rfl
@[simp] theorem commitStep_brownOuts (st : Store) (s : State) : (commitStep st s).brownOuts = s.brownOuts := rfl
@[simp] theorem commitStep_ownAddr (st : Store) (s : State) : (commitStep st s).ownAddr = s.ownAddr := rfl
@[simp] theorem commitStep_ports (st : Store) (s : State) : (commitStep st s).ports = s.ports := rfl
@[simp] theorem commitStep_tables (st : Store) (s : State) : (commitStep st s).tables = s.tables := rfl
@[simp] theorem commitStep_agent (st : Store) (s : State) : (commitStep st s).agent = s.agent := rfl
@[simp] theorem commitStep_sampling (st : Store) (s : State) : (commitStep st s).sampling = s.sampling := rfl
@[simp] theorem commitStep_poll (st : Store) (s : State) : (commitStep st s).poll = s.poll := rfl
@[simp] theorem commitStep_points (st : Store) (s : State) : (commitStep st s).points = s.points := rfl
@[simp] theorem commitStep_engine (st : Store) (s : State) : (commitStep st s).engine = s.engine := rfl
@[simp] theorem commitStep_alarms (st : Store) (s : State) : (commitStep st s).alarms = s.alarms := rfl
@[simp] theorem commitStep_pumps (st : Store) (s : State) : (commitStep st s).pumps = s.pumps := rfl
@[simp] theorem commitStep_port (st : Store) (s : State) : (commitStep st s).port = s.port := rfl
@[simp] theorem commitStep_supply (st : Store) (s : State) : (commitStep st s).supply = s.supply := rfl
@[simp] theorem commitStep_outputs (st : Store) (s : State) : (commitStep st s).outputs = s.outputs := rfl
@[simp] theorem commitStep_cuts (st : Store) (s : State) : (commitStep st s).cuts = s.cuts := rfl

@[simp] theorem setStore_now (st : Store) (s : State) : (s.setStore st).now = s.now := rfl
@[simp] theorem setStore_pending (st : Store) (s : State) : (s.setStore st).pending = s.pending := rfl
@[simp] theorem setStore_inbox (st : Store) (s : State) : (s.setStore st).inbox = s.inbox := rfl
@[simp] theorem setStore_brownOuts (st : Store) (s : State) : (s.setStore st).brownOuts = s.brownOuts := rfl
@[simp] theorem setStore_ownAddr (st : Store) (s : State) : (s.setStore st).ownAddr = s.ownAddr := rfl
@[simp] theorem setStore_ports (st : Store) (s : State) : (s.setStore st).ports = s.ports := rfl
@[simp] theorem setStore_tables (st : Store) (s : State) : (s.setStore st).tables = s.tables := rfl
@[simp] theorem setStore_agent (st : Store) (s : State) : (s.setStore st).agent = s.agent := rfl
@[simp] theorem setStore_sampling (st : Store) (s : State) : (s.setStore st).sampling = s.sampling := rfl
@[simp] theorem setStore_poll (st : Store) (s : State) : (s.setStore st).poll = s.poll := rfl
@[simp] theorem setStore_points (st : Store) (s : State) : (s.setStore st).points = s.points := rfl
@[simp] theorem setStore_engine (st : Store) (s : State) : (s.setStore st).engine = s.engine := rfl
@[simp] theorem setStore_alarms (st : Store) (s : State) : (s.setStore st).alarms = s.alarms := rfl
@[simp] theorem setStore_pumps (st : Store) (s : State) : (s.setStore st).pumps = s.pumps := rfl
@[simp] theorem setStore_port (st : Store) (s : State) : (s.setStore st).port = s.port := rfl
@[simp] theorem setStore_supply (st : Store) (s : State) : (s.setStore st).supply = s.supply := rfl
@[simp] theorem setStore_outputs (st : Store) (s : State) : (s.setStore st).outputs = s.outputs := rfl
@[simp] theorem setStore_eeprom (st : Store) (s : State) : (s.setStore st).eeprom = s.eeprom := rfl
@[simp] theorem setStore_cuts (st : Store) (s : State) : (s.setStore st).cuts = s.cuts := rfl

@[simp] theorem drove_now (l : List BusSignal) (s : State) : (s.drove l).now = s.now := rfl
@[simp] theorem drove_pending (l : List BusSignal) (s : State) : (s.drove l).pending = s.pending := rfl
@[simp] theorem drove_inbox (l : List BusSignal) (s : State) : (s.drove l).inbox = s.inbox := rfl
@[simp] theorem drove_brownOuts (l : List BusSignal) (s : State) : (s.drove l).brownOuts = s.brownOuts := rfl
@[simp] theorem drove_ownAddr (l : List BusSignal) (s : State) : (s.drove l).ownAddr = s.ownAddr := rfl
@[simp] theorem drove_ports (l : List BusSignal) (s : State) : (s.drove l).ports = s.ports := rfl
@[simp] theorem drove_tables (l : List BusSignal) (s : State) : (s.drove l).tables = s.tables := rfl
@[simp] theorem drove_agent (l : List BusSignal) (s : State) : (s.drove l).agent = s.agent := rfl
@[simp] theorem drove_sampling (l : List BusSignal) (s : State) : (s.drove l).sampling = s.sampling := rfl
@[simp] theorem drove_poll (l : List BusSignal) (s : State) : (s.drove l).poll = s.poll := rfl
@[simp] theorem drove_points (l : List BusSignal) (s : State) : (s.drove l).points = s.points := rfl
@[simp] theorem drove_engine (l : List BusSignal) (s : State) : (s.drove l).engine = s.engine := rfl
@[simp] theorem drove_alarms (l : List BusSignal) (s : State) : (s.drove l).alarms = s.alarms := rfl
@[simp] theorem drove_pumps (l : List BusSignal) (s : State) : (s.drove l).pumps = s.pumps := rfl
@[simp] theorem drove_port (l : List BusSignal) (s : State) : (s.drove l).port = s.port := rfl
@[simp] theorem drove_supply (l : List BusSignal) (s : State) : (s.drove l).supply = s.supply := rfl
@[simp] theorem drove_outputs (l : List BusSignal) (s : State) : (s.drove l).outputs = s.outputs := rfl
@[simp] theorem drove_eeprom (l : List BusSignal) (s : State) : (s.drove l).eeprom = s.eeprom := rfl
@[simp] theorem drove_cuts (l : List BusSignal) (s : State) : (s.drove l).cuts = s.cuts := rfl
@[simp] theorem drove_driven (l : List BusSignal) (s : State) : (s.drove l).loader.driven = l := rfl
@[simp] theorem drove_autoload (l : List BusSignal) (s : State) : (s.drove l).loader.autoload = s.loader.autoload := rfl
@[simp] theorem drove_store (l : List BusSignal) (s : State) : (s.drove l).loader.store = s.loader.store := rfl
@[simp] theorem drove_source (l : List BusSignal) (s : State) : (s.drove l).loader.source = s.loader.source := rfl

@[simp] theorem setInput_now (i : Nat) (n : Input) (s : State) : (s.setInput i n).now = s.now := rfl
@[simp] theorem setInput_pending (i : Nat) (n : Input) (s : State) : (s.setInput i n).pending = s.pending := rfl
@[simp] theorem setInput_inbox (i : Nat) (n : Input) (s : State) : (s.setInput i n).inbox = s.inbox := rfl
@[simp] theorem setInput_brownOuts (i : Nat) (n : Input) (s : State) : (s.setInput i n).brownOuts = s.brownOuts := rfl
@[simp] theorem setInput_ownAddr (i : Nat) (n : Input) (s : State) : (s.setInput i n).ownAddr = s.ownAddr := rfl
@[simp] theorem setInput_ports (i : Nat) (n : Input) (s : State) : (s.setInput i n).ports = s.ports := rfl
@[simp] theorem setInput_tables (i : Nat) (n : Input) (s : State) : (s.setInput i n).tables = s.tables := rfl
@[simp] theorem setInput_agent (i : Nat) (n : Input) (s : State) : (s.setInput i n).agent = s.agent := rfl
@[simp] theorem setInput_sampling (i : Nat) (n : Input) (s : State) : (s.setInput i n).sampling = s.sampling := rfl
@[simp] theorem setInput_poll (i : Nat) (n : Input) (s : State) : (s.setInput i n).poll = s.poll := rfl
@[simp] theorem setInput_engine (i : Nat) (n : Input) (s : State) : (s.setInput i n).engine = s.engine := rfl
@[simp] theorem setInput_alarms (i : Nat) (n : Input) (s : State) : (s.setInput i n).alarms = s.alarms := rfl
@[simp] theorem setInput_pumps (i : Nat) (n : Input) (s : State) : (s.setInput i n).pumps = s.pumps := rfl
@[simp] theorem setInput_port (i : Nat) (n : Input) (s : State) : (s.setInput i n).port = s.port := rfl
@[simp] theorem setInput_supply (i : Nat) (n : Input) (s : State) : (s.setInput i n).supply = s.supply := rfl
@[simp] theorem setInput_outputs (i : Nat) (n : Input) (s : State) : (s.setInput i n).outputs = s.outputs := rfl
@[simp] theorem setInput_loader (i : Nat) (n : Input) (s : State) : (s.setInput i n).loader = s.loader := rfl
@[simp] theorem setInput_eeprom (i : Nat) (n : Input) (s : State) : (s.setInput i n).eeprom = s.eeprom := rfl
@[simp] theorem setInput_cuts (i : Nat) (n : Input) (s : State) : (s.setInput i n).cuts = s.cuts := rfl

@[simp] theorem deliver_now (r : List Byte) (s : State) : (deliver r s).now = s.now := rfl
@[simp] theorem deliver_pending (r : List Byte) (s : State) : (deliver r s).pending = s.pending := rfl
@[simp] theorem deliver_inbox (r : List Byte) (s : State) : (deliver r s).inbox = s.inbox := rfl
@[simp] theorem deliver_brownOuts (r : List Byte) (s : State) : (deliver r s).brownOuts = s.brownOuts := rfl
@[simp] theorem deliver_ownAddr (r : List Byte) (s : State) : (deliver r s).ownAddr = s.ownAddr := rfl
@[simp] theorem deliver_tables (r : List Byte) (s : State) : (deliver r s).tables = s.tables := rfl
@[simp] theorem deliver_agent (r : List Byte) (s : State) : (deliver r s).agent = s.agent := rfl
@[simp] theorem deliver_sampling (r : List Byte) (s : State) : (deliver r s).sampling = s.sampling := rfl
@[simp] theorem deliver_poll (r : List Byte) (s : State) : (deliver r s).poll = s.poll := rfl
@[simp] theorem deliver_points (r : List Byte) (s : State) : (deliver r s).points = s.points := rfl
@[simp] theorem deliver_engine (r : List Byte) (s : State) : (deliver r s).engine = s.engine := rfl
@[simp] theorem deliver_alarms (r : List Byte) (s : State) : (deliver r s).alarms = s.alarms := rfl
@[simp] theorem deliver_pumps (r : List Byte) (s : State) : (deliver r s).pumps = s.pumps := rfl
@[simp] theorem deliver_port (r : List Byte) (s : State) : (deliver r s).port = s.port := rfl
@[simp] theorem deliver_supply (r : List Byte) (s : State) : (deliver r s).supply = s.supply := rfl
@[simp] theorem deliver_outputs (r : List Byte) (s : State) : (deliver r s).outputs = s.outputs := rfl
@[simp] theorem deliver_loader (r : List Byte) (s : State) : (deliver r s).loader = s.loader := rfl
@[simp] theorem deliver_eeprom (r : List Byte) (s : State) : (deliver r s).eeprom = s.eeprom := rfl
@[simp] theorem deliver_cuts (r : List Byte) (s : State) : (deliver r s).cuts = s.cuts := rfl

end Sys2Proof.Machine
end

