-- ==== Sys2Proof/Laws/Frames.lean ====
section
/-! SUPPORT. What each shared operation leaves as it was: one lemma for each, a conjunction over the fields it does not
touch. -/

namespace Sys2Proof.Machine

@[simp] theorem spanLoss_frame (x : Side) (s : State) :
    (spanLoss x s).now = s.now ∧ (spanLoss x s).pending = s.pending ∧ (spanLoss x s).inbox = s.inbox ∧
      (spanLoss x s).brownOuts = s.brownOuts ∧ (spanLoss x s).ownAddr = s.ownAddr ∧ (spanLoss x s).ports = s.ports ∧
      (spanLoss x s).tables = s.tables ∧ (spanLoss x s).agent = s.agent ∧ (spanLoss x s).sampling = s.sampling ∧
      (spanLoss x s).poll = s.poll ∧ (spanLoss x s).engine = s.engine ∧ (spanLoss x s).alarms = s.alarms ∧
      (spanLoss x s).pumps = s.pumps ∧ (spanLoss x s).port = s.port ∧ (spanLoss x s).supply = s.supply ∧
      (spanLoss x s).outputs = s.outputs ∧ (spanLoss x s).loader = s.loader ∧ (spanLoss x s).eeprom = s.eeprom ∧
      (spanLoss x s).cuts = s.cuts := by
  unfold spanLoss; split <;> simp

@[simp] theorem afterUpdate_frame (i : Nat) (s : State) :
    (afterUpdate i s).now = s.now ∧ (afterUpdate i s).pending = s.pending ∧ (afterUpdate i s).inbox = s.inbox ∧
      (afterUpdate i s).brownOuts = s.brownOuts ∧ (afterUpdate i s).ownAddr = s.ownAddr ∧
      (afterUpdate i s).ports = s.ports ∧ (afterUpdate i s).tables = s.tables ∧ (afterUpdate i s).agent = s.agent ∧
      (afterUpdate i s).sampling = s.sampling ∧ (afterUpdate i s).poll = s.poll ∧
      (afterUpdate i s).engine = s.engine ∧ (afterUpdate i s).alarms = s.alarms ∧ (afterUpdate i s).pumps = s.pumps ∧
      (afterUpdate i s).port = s.port ∧ (afterUpdate i s).supply = s.supply ∧ (afterUpdate i s).outputs = s.outputs ∧
      (afterUpdate i s).loader = s.loader ∧ (afterUpdate i s).eeprom = s.eeprom ∧ (afterUpdate i s).cuts = s.cuts := by
  unfold afterUpdate; split <;> [simp; (split <;> simp)]

@[simp] theorem pulseRequest_frame (o : Nat) (s : State) :
    (pulseRequest o s).now = s.now ∧ (pulseRequest o s).pending = s.pending ∧ (pulseRequest o s).inbox = s.inbox ∧
      (pulseRequest o s).brownOuts = s.brownOuts ∧ (pulseRequest o s).ownAddr = s.ownAddr ∧
      (pulseRequest o s).ports = s.ports ∧ (pulseRequest o s).tables = s.tables ∧
      (pulseRequest o s).agent = s.agent ∧ (pulseRequest o s).sampling = s.sampling ∧
      (pulseRequest o s).poll = s.poll ∧ (pulseRequest o s).points = s.points ∧
      (pulseRequest o s).engine = s.engine ∧ (pulseRequest o s).alarms = s.alarms ∧
      (pulseRequest o s).pumps = s.pumps ∧ (pulseRequest o s).port = s.port ∧ (pulseRequest o s).supply = s.supply ∧
      (pulseRequest o s).loader = s.loader ∧ (pulseRequest o s).eeprom = s.eeprom ∧ (pulseRequest o s).cuts = s.cuts := by
  unfold pulseRequest; split <;> simp

@[simp] theorem retargetPumps_frame (s : State) :
    (retargetPumps s).now = s.now ∧ (retargetPumps s).pending = s.pending ∧ (retargetPumps s).inbox = s.inbox ∧
      (retargetPumps s).brownOuts = s.brownOuts ∧ (retargetPumps s).ownAddr = s.ownAddr ∧
      (retargetPumps s).ports = s.ports ∧ (retargetPumps s).tables = s.tables ∧ (retargetPumps s).agent = s.agent ∧
      (retargetPumps s).sampling = s.sampling ∧ (retargetPumps s).poll = s.poll ∧
      (retargetPumps s).engine = s.engine ∧ (retargetPumps s).alarms = s.alarms ∧
      (retargetPumps s).supply = s.supply ∧ (retargetPumps s).outputs = s.outputs ∧
      (retargetPumps s).loader = s.loader ∧ (retargetPumps s).eeprom = s.eeprom ∧ (retargetPumps s).cuts = s.cuts := by
  unfold retargetPumps; simp

@[simp] theorem modeRequest_frame (c : Channel) (m : Mode) (s : State) :
    (modeRequest c m s).now = s.now ∧ (modeRequest c m s).pending = s.pending ∧ (modeRequest c m s).inbox = s.inbox ∧
      (modeRequest c m s).brownOuts = s.brownOuts ∧ (modeRequest c m s).ownAddr = s.ownAddr ∧
      (modeRequest c m s).ports = s.ports ∧ (modeRequest c m s).tables = s.tables ∧
      (modeRequest c m s).agent = s.agent ∧ (modeRequest c m s).sampling = s.sampling ∧
      (modeRequest c m s).poll = s.poll ∧ (modeRequest c m s).engine = s.engine ∧
      (modeRequest c m s).alarms = s.alarms ∧ (modeRequest c m s).supply = s.supply ∧
      (modeRequest c m s).outputs = s.outputs ∧ (modeRequest c m s).loader = s.loader ∧
      (modeRequest c m s).eeprom = s.eeprom ∧ (modeRequest c m s).cuts = s.cuts := by
  unfold modeRequest; simp

@[simp] theorem reactTo_frame (b : State) (c : Channel) (s : State) :
    (reactTo b c s).now = s.now ∧ (reactTo b c s).pending = s.pending ∧ (reactTo b c s).inbox = s.inbox ∧
      (reactTo b c s).brownOuts = s.brownOuts ∧ (reactTo b c s).ownAddr = s.ownAddr ∧
      (reactTo b c s).ports = s.ports ∧ (reactTo b c s).tables = s.tables ∧ (reactTo b c s).agent = s.agent ∧
      (reactTo b c s).sampling = s.sampling ∧ (reactTo b c s).poll = s.poll ∧ (reactTo b c s).engine = s.engine ∧
      (reactTo b c s).alarms = s.alarms ∧ (reactTo b c s).supply = s.supply ∧ (reactTo b c s).outputs = s.outputs ∧
      (reactTo b c s).loader = s.loader ∧ (reactTo b c s).eeprom = s.eeprom ∧ (reactTo b c s).cuts = s.cuts := by
  unfold reactTo; split <;> simp

@[simp] theorem reactBoth_frame (b s : State) :
    (reactBoth b s).now = s.now ∧ (reactBoth b s).pending = s.pending ∧ (reactBoth b s).inbox = s.inbox ∧
      (reactBoth b s).brownOuts = s.brownOuts ∧ (reactBoth b s).ownAddr = s.ownAddr ∧
      (reactBoth b s).ports = s.ports ∧ (reactBoth b s).tables = s.tables ∧ (reactBoth b s).agent = s.agent ∧
      (reactBoth b s).sampling = s.sampling ∧ (reactBoth b s).poll = s.poll ∧ (reactBoth b s).engine = s.engine ∧
      (reactBoth b s).alarms = s.alarms ∧ (reactBoth b s).supply = s.supply ∧ (reactBoth b s).outputs = s.outputs ∧
      (reactBoth b s).loader = s.loader ∧ (reactBoth b s).eeprom = s.eeprom ∧ (reactBoth b s).cuts = s.cuts := by
  unfold reactBoth; simp

@[simp] theorem recomputeShed_frame (s : State) :
    (recomputeShed s).now = s.now ∧ (recomputeShed s).pending = s.pending ∧ (recomputeShed s).inbox = s.inbox ∧
      (recomputeShed s).brownOuts = s.brownOuts ∧ (recomputeShed s).ownAddr = s.ownAddr ∧
      (recomputeShed s).ports = s.ports ∧ (recomputeShed s).tables = s.tables ∧ (recomputeShed s).agent = s.agent ∧
      (recomputeShed s).sampling = s.sampling ∧ (recomputeShed s).poll = s.poll ∧
      (recomputeShed s).engine = s.engine ∧ (recomputeShed s).alarms = s.alarms ∧
      (recomputeShed s).loader = s.loader ∧ (recomputeShed s).eeprom = s.eeprom ∧ (recomputeShed s).cuts = s.cuts := by
  unfold recomputeShed; split <;> simp

@[simp] theorem aimPumps_frame (s : State) :
    (aimPumps s).now = s.now ∧ (aimPumps s).pending = s.pending ∧ (aimPumps s).inbox = s.inbox ∧
      (aimPumps s).brownOuts = s.brownOuts ∧ (aimPumps s).ownAddr = s.ownAddr ∧ (aimPumps s).ports = s.ports ∧
      (aimPumps s).tables = s.tables ∧ (aimPumps s).agent = s.agent ∧ (aimPumps s).sampling = s.sampling ∧
      (aimPumps s).poll = s.poll ∧ (aimPumps s).points = s.points ∧ (aimPumps s).engine = s.engine ∧
      (aimPumps s).alarms = s.alarms ∧ (aimPumps s).port = s.port ∧ (aimPumps s).supply = s.supply ∧
      (aimPumps s).outputs = s.outputs ∧ (aimPumps s).loader = s.loader ∧ (aimPumps s).eeprom = s.eeprom ∧
      (aimPumps s).cuts = s.cuts := by
  unfold aimPumps; simp

@[simp] theorem recomputeAtRestart_frame (s : State) :
    (recomputeAtRestart s).now = s.now ∧ (recomputeAtRestart s).pending = s.pending ∧
      (recomputeAtRestart s).inbox = s.inbox ∧ (recomputeAtRestart s).brownOuts = s.brownOuts ∧
      (recomputeAtRestart s).ownAddr = s.ownAddr ∧ (recomputeAtRestart s).ports = s.ports ∧
      (recomputeAtRestart s).tables = s.tables ∧ (recomputeAtRestart s).agent = s.agent ∧
      (recomputeAtRestart s).sampling = s.sampling ∧ (recomputeAtRestart s).poll = s.poll ∧
      (recomputeAtRestart s).engine = s.engine ∧ (recomputeAtRestart s).alarms = s.alarms ∧
      (recomputeAtRestart s).port = s.port ∧
      (recomputeAtRestart s).loader = s.loader ∧ (recomputeAtRestart s).eeprom = s.eeprom ∧
      (recomputeAtRestart s).cuts = s.cuts := by
  unfold recomputeAtRestart; split <;> simp

@[simp] theorem takeHandedLevel_frame (s : State) :
    (takeHandedLevel s).now = s.now ∧ (takeHandedLevel s).pending = s.pending ∧ (takeHandedLevel s).inbox = s.inbox ∧
      (takeHandedLevel s).brownOuts = s.brownOuts ∧ (takeHandedLevel s).ownAddr = s.ownAddr ∧
      (takeHandedLevel s).ports = s.ports ∧ (takeHandedLevel s).tables = s.tables ∧
      (takeHandedLevel s).agent = s.agent ∧ (takeHandedLevel s).sampling = s.sampling ∧
      (takeHandedLevel s).poll = s.poll ∧ (takeHandedLevel s).engine = s.engine ∧
      (takeHandedLevel s).alarms = s.alarms ∧ (takeHandedLevel s).supply = { s.supply with handed := false } ∧
      (takeHandedLevel s).outputs = s.outputs ∧ (takeHandedLevel s).loader = s.loader ∧
      (takeHandedLevel s).eeprom = s.eeprom ∧ (takeHandedLevel s).cuts = s.cuts := by
  unfold takeHandedLevel; simp

@[simp] theorem handOutputs_frame (s : State) :
    (handOutputs s).now = s.now ∧ (handOutputs s).pending = s.pending ∧ (handOutputs s).inbox = s.inbox ∧
      (handOutputs s).brownOuts = s.brownOuts ∧ (handOutputs s).ownAddr = s.ownAddr ∧
      (handOutputs s).ports = s.ports ∧ (handOutputs s).tables = s.tables ∧ (handOutputs s).agent = s.agent ∧
      (handOutputs s).sampling = s.sampling ∧ (handOutputs s).poll = s.poll ∧ (handOutputs s).alarms = s.alarms ∧
      (handOutputs s).loader = s.loader ∧ (handOutputs s).eeprom = s.eeprom ∧ (handOutputs s).cuts = s.cuts := by
  unfold handOutputs; simp

@[simp] theorem reevaluate_frame (x : Side) (s : State) :
    (reevaluate x s).now = s.now ∧ (reevaluate x s).pending = s.pending ∧ (reevaluate x s).inbox = s.inbox ∧
      (reevaluate x s).brownOuts = s.brownOuts ∧ (reevaluate x s).ownAddr = s.ownAddr ∧
      (reevaluate x s).tables = s.tables ∧ (reevaluate x s).agent = s.agent ∧
      (reevaluate x s).sampling = s.sampling ∧ (reevaluate x s).poll = s.poll ∧ (reevaluate x s).engine = s.engine ∧
      (reevaluate x s).alarms = s.alarms ∧ (reevaluate x s).pumps = s.pumps ∧ (reevaluate x s).port = s.port ∧
      (reevaluate x s).supply = s.supply ∧ (reevaluate x s).outputs = s.outputs ∧
      (reevaluate x s).loader = s.loader ∧ (reevaluate x s).eeprom = s.eeprom ∧ (reevaluate x s).cuts = s.cuts := by
  simp only [reevaluate]; split <;> simp

@[simp] theorem takeMiss_frame (x : Side) (s : State) :
    (takeMiss x s).now = s.now ∧ (takeMiss x s).pending = s.pending ∧ (takeMiss x s).inbox = s.inbox ∧
      (takeMiss x s).brownOuts = s.brownOuts ∧ (takeMiss x s).ownAddr = s.ownAddr ∧
      (takeMiss x s).tables = s.tables ∧ (takeMiss x s).agent = s.agent ∧ (takeMiss x s).sampling = s.sampling ∧
      (takeMiss x s).poll = s.poll ∧ (takeMiss x s).engine = s.engine ∧ (takeMiss x s).alarms = s.alarms ∧
      (takeMiss x s).supply = s.supply ∧ (takeMiss x s).outputs = s.outputs ∧ (takeMiss x s).loader = s.loader ∧
      (takeMiss x s).eeprom = s.eeprom ∧ (takeMiss x s).cuts = s.cuts := by
  simp only [takeMiss]; split <;> simp

@[simp] theorem takeConfirm_frame (p : Side) (b : Bool) (s : State) :
    (takeConfirm p b s).now = s.now ∧ (takeConfirm p b s).pending = s.pending ∧ (takeConfirm p b s).inbox = s.inbox ∧
      (takeConfirm p b s).brownOuts = s.brownOuts ∧ (takeConfirm p b s).ownAddr = s.ownAddr ∧
      (takeConfirm p b s).tables = s.tables ∧ (takeConfirm p b s).agent = s.agent ∧
      (takeConfirm p b s).sampling = s.sampling ∧ (takeConfirm p b s).poll = s.poll ∧
      (takeConfirm p b s).engine = s.engine ∧ (takeConfirm p b s).alarms = s.alarms ∧
      (takeConfirm p b s).supply = s.supply ∧ (takeConfirm p b s).outputs = s.outputs ∧
      (takeConfirm p b s).loader = s.loader ∧ (takeConfirm p b s).eeprom = s.eeprom ∧ (takeConfirm p b s).cuts = s.cuts := by
  simp only [takeConfirm]; split <;> simp

@[simp] theorem takeRaise_frame (r : Raise) (s : State) :
    (takeRaise r s).now = s.now ∧ (takeRaise r s).pending = s.pending ∧ (takeRaise r s).inbox = s.inbox ∧
      (takeRaise r s).brownOuts = s.brownOuts ∧ (takeRaise r s).ownAddr = s.ownAddr ∧
      (takeRaise r s).tables = s.tables ∧ (takeRaise r s).agent = s.agent ∧ (takeRaise r s).sampling = s.sampling ∧
      (takeRaise r s).poll = s.poll ∧ (takeRaise r s).points = s.points ∧ (takeRaise r s).engine = s.engine ∧
      (takeRaise r s).pumps = s.pumps ∧ (takeRaise r s).port = s.port ∧ (takeRaise r s).supply = s.supply ∧
      (takeRaise r s).outputs = s.outputs ∧ (takeRaise r s).loader = s.loader ∧ (takeRaise r s).eeprom = s.eeprom ∧
      (takeRaise r s).cuts = s.cuts := by
  simp only [takeRaise]; split <;> simp

@[simp] theorem takeClear_frame (i : Nat) (v : Int) (s : State) :
    (takeClear i v s).now = s.now ∧ (takeClear i v s).pending = s.pending ∧ (takeClear i v s).inbox = s.inbox ∧
      (takeClear i v s).brownOuts = s.brownOuts ∧ (takeClear i v s).ownAddr = s.ownAddr ∧
      (takeClear i v s).tables = s.tables ∧ (takeClear i v s).agent = s.agent ∧
      (takeClear i v s).sampling = s.sampling ∧ (takeClear i v s).poll = s.poll ∧
      (takeClear i v s).points = s.points ∧ (takeClear i v s).engine = s.engine ∧ (takeClear i v s).pumps = s.pumps ∧
      (takeClear i v s).port = s.port ∧ (takeClear i v s).supply = s.supply ∧ (takeClear i v s).outputs = s.outputs ∧
      (takeClear i v s).loader = s.loader ∧ (takeClear i v s).eeprom = s.eeprom ∧ (takeClear i v s).cuts = s.cuts := by
  unfold takeClear; split <;> [simp; (split <;> simp)]

@[simp] theorem takeReconfigure_frame (i : Nat) (s : State) :
    (takeReconfigure i s).now = s.now ∧ (takeReconfigure i s).pending = s.pending ∧
      (takeReconfigure i s).inbox = s.inbox ∧ (takeReconfigure i s).brownOuts = s.brownOuts ∧
      (takeReconfigure i s).ownAddr = s.ownAddr ∧ (takeReconfigure i s).tables = s.tables ∧
      (takeReconfigure i s).agent = s.agent ∧ (takeReconfigure i s).sampling = s.sampling ∧
      (takeReconfigure i s).poll = s.poll ∧ (takeReconfigure i s).points = s.points ∧
      (takeReconfigure i s).engine = s.engine ∧ (takeReconfigure i s).pumps = s.pumps ∧
      (takeReconfigure i s).port = s.port ∧ (takeReconfigure i s).supply = s.supply ∧
      (takeReconfigure i s).outputs = s.outputs ∧ (takeReconfigure i s).loader = s.loader ∧
      (takeReconfigure i s).eeprom = s.eeprom ∧ (takeReconfigure i s).cuts = s.cuts := by
  unfold takeReconfigure; split <;> [simp; (split <;> simp)]

@[simp] theorem takeSuppression_frame (i : Nat) (b : Bool) (s : State) :
    (takeSuppression i b s).now = s.now ∧ (takeSuppression i b s).pending = s.pending ∧
      (takeSuppression i b s).inbox = s.inbox ∧ (takeSuppression i b s).brownOuts = s.brownOuts ∧
      (takeSuppression i b s).ownAddr = s.ownAddr ∧ (takeSuppression i b s).tables = s.tables ∧
      (takeSuppression i b s).agent = s.agent ∧ (takeSuppression i b s).sampling = s.sampling ∧
      (takeSuppression i b s).poll = s.poll ∧ (takeSuppression i b s).points = s.points ∧
      (takeSuppression i b s).engine = s.engine ∧ (takeSuppression i b s).pumps = s.pumps ∧
      (takeSuppression i b s).port = s.port ∧ (takeSuppression i b s).supply = s.supply ∧
      (takeSuppression i b s).outputs = s.outputs ∧ (takeSuppression i b s).loader = s.loader ∧
      (takeSuppression i b s).eeprom = s.eeprom ∧ (takeSuppression i b s).cuts = s.cuts := by
  simp only [takeSuppression]; split <;> [simp; (split <;> [(split <;> simp); simp])]

@[simp] theorem takeLaunch_frame (x : Side) (v : Int) (s : State) :
    (takeLaunch x v s).now = s.now ∧ (takeLaunch x v s).pending = s.pending ∧ (takeLaunch x v s).inbox = s.inbox ∧
      (takeLaunch x v s).brownOuts = s.brownOuts ∧ (takeLaunch x v s).ownAddr = s.ownAddr ∧
      (takeLaunch x v s).ports = s.ports ∧ (takeLaunch x v s).tables = s.tables ∧
      (takeLaunch x v s).agent = s.agent ∧ (takeLaunch x v s).sampling = s.sampling ∧
      (takeLaunch x v s).poll = s.poll ∧ (takeLaunch x v s).engine = s.engine ∧
      (takeLaunch x v s).alarms = s.alarms ∧ (takeLaunch x v s).pumps = s.pumps ∧ (takeLaunch x v s).port = s.port ∧
      (takeLaunch x v s).supply = s.supply ∧ (takeLaunch x v s).outputs = s.outputs ∧
      (takeLaunch x v s).loader = s.loader ∧ (takeLaunch x v s).eeprom = s.eeprom ∧ (takeLaunch x v s).cuts = s.cuts := by
  unfold takeLaunch; simp

@[simp] theorem takeHeader_frame (x : Side) (h : Header) (s : State) :
    (takeHeader x h s).now = s.now ∧ (takeHeader x h s).pending = s.pending ∧ (takeHeader x h s).inbox = s.inbox ∧
      (takeHeader x h s).brownOuts = s.brownOuts ∧ (takeHeader x h s).ownAddr = s.ownAddr ∧
      (takeHeader x h s).tables = s.tables ∧ (takeHeader x h s).agent = s.agent ∧
      (takeHeader x h s).sampling = s.sampling ∧ (takeHeader x h s).poll = s.poll ∧
      (takeHeader x h s).engine = s.engine ∧ (takeHeader x h s).alarms = s.alarms ∧
      (takeHeader x h s).supply = s.supply ∧ (takeHeader x h s).outputs = s.outputs ∧
      (takeHeader x h s).loader = s.loader ∧ (takeHeader x h s).eeprom = s.eeprom ∧ (takeHeader x h s).cuts = s.cuts := by
  unfold takeHeader; split <;> simp

@[simp] theorem takeArea_frame (x : Side) (f : List Byte) (s : State) :
    (takeArea x f s).now = s.now ∧ (takeArea x f s).pending = s.pending ∧ (takeArea x f s).brownOuts = s.brownOuts ∧
      (takeArea x f s).ownAddr = s.ownAddr ∧ (takeArea x f s).tables = s.tables ∧ (takeArea x f s).agent = s.agent ∧
      (takeArea x f s).sampling = s.sampling ∧ (takeArea x f s).poll = s.poll ∧ (takeArea x f s).points = s.points ∧
      (takeArea x f s).engine = s.engine ∧ (takeArea x f s).alarms = s.alarms ∧ (takeArea x f s).pumps = s.pumps ∧
      (takeArea x f s).port = s.port ∧ (takeArea x f s).supply = s.supply ∧ (takeArea x f s).outputs = s.outputs ∧
      (takeArea x f s).loader = s.loader ∧ (takeArea x f s).eeprom = s.eeprom ∧ (takeArea x f s).cuts = s.cuts := by
  unfold takeArea; split <;> simp

@[simp] theorem takeFrame_frame (x : Side) (f : List Byte) (s : State) :
    (takeFrame x f s).now = s.now ∧ (takeFrame x f s).pending = s.pending ∧
      (takeFrame x f s).brownOuts = s.brownOuts ∧ (takeFrame x f s).ownAddr = s.ownAddr ∧
      (takeFrame x f s).tables = s.tables ∧ (takeFrame x f s).agent = s.agent ∧
      (takeFrame x f s).sampling = s.sampling ∧ (takeFrame x f s).poll = s.poll ∧
      (takeFrame x f s).engine = s.engine ∧ (takeFrame x f s).alarms = s.alarms ∧
      (takeFrame x f s).supply = s.supply ∧ (takeFrame x f s).outputs = s.outputs ∧
      (takeFrame x f s).loader = s.loader ∧ (takeFrame x f s).eeprom = s.eeprom ∧ (takeFrame x f s).cuts = s.cuts := by
  unfold takeFrame; simp

@[simp] theorem takeSupply_frame (v : Supply) (l : List PortWord) (s : State) :
    (takeSupply v l s).now = s.now ∧ (takeSupply v l s).pending = s.pending ∧ (takeSupply v l s).inbox = s.inbox ∧
      (takeSupply v l s).brownOuts = s.brownOuts ∧ (takeSupply v l s).ownAddr = s.ownAddr ∧
      (takeSupply v l s).ports = s.ports ∧ (takeSupply v l s).tables = s.tables ∧
      (takeSupply v l s).agent = s.agent ∧ (takeSupply v l s).sampling = s.sampling ∧
      (takeSupply v l s).poll = s.poll ∧ (takeSupply v l s).engine = s.engine ∧
      (takeSupply v l s).alarms = s.alarms ∧ (takeSupply v l s).loader = s.loader ∧
      (takeSupply v l s).eeprom = s.eeprom ∧ (takeSupply v l s).cuts = s.cuts := by
  unfold takeSupply; simp

@[simp] theorem checkSupply_frame (s : State) :
    (checkSupply s).now = s.now ∧ (checkSupply s).pending = s.pending ∧ (checkSupply s).inbox = s.inbox ∧
      (checkSupply s).brownOuts = s.brownOuts ∧ (checkSupply s).ownAddr = s.ownAddr ∧
      (checkSupply s).ports = s.ports ∧ (checkSupply s).tables = s.tables ∧ (checkSupply s).agent = s.agent ∧
      (checkSupply s).sampling = s.sampling ∧ (checkSupply s).poll = s.poll ∧ (checkSupply s).engine = s.engine ∧
      (checkSupply s).alarms = s.alarms ∧ (checkSupply s).loader = s.loader ∧ (checkSupply s).eeprom = s.eeprom ∧
      (checkSupply s).cuts = s.cuts := by
  unfold checkSupply; simp

@[simp] theorem brownOutCompare_frame (ch : Nat) (v : Int) (s : State) :
    (brownOutCompare ch v s).now = s.now ∧ (brownOutCompare ch v s).pending = s.pending ∧
      (brownOutCompare ch v s).inbox = s.inbox ∧ (brownOutCompare ch v s).ownAddr = s.ownAddr ∧
      (brownOutCompare ch v s).ports = s.ports ∧ (brownOutCompare ch v s).tables = s.tables ∧
      (brownOutCompare ch v s).agent = s.agent ∧ (brownOutCompare ch v s).sampling = s.sampling ∧
      (brownOutCompare ch v s).poll = s.poll ∧ (brownOutCompare ch v s).points = s.points ∧
      (brownOutCompare ch v s).engine = s.engine ∧ (brownOutCompare ch v s).alarms = s.alarms ∧
      (brownOutCompare ch v s).pumps = s.pumps ∧ (brownOutCompare ch v s).port = s.port ∧
      (brownOutCompare ch v s).supply = s.supply ∧ (brownOutCompare ch v s).outputs = s.outputs ∧
      (brownOutCompare ch v s).loader = s.loader ∧ (brownOutCompare ch v s).eeprom = s.eeprom ∧
      (brownOutCompare ch v s).cuts = s.cuts := by
  unfold brownOutCompare; split <;> simp

@[simp] theorem keepSample_frame (ch : Nat) (v : Int × Validity) (b : Bool) (s : State) :
    (keepSample ch v b s).now = s.now ∧ (keepSample ch v b s).pending = s.pending ∧
      (keepSample ch v b s).inbox = s.inbox ∧ (keepSample ch v b s).brownOuts = s.brownOuts ∧
      (keepSample ch v b s).ownAddr = s.ownAddr ∧ (keepSample ch v b s).ports = s.ports ∧
      (keepSample ch v b s).tables = s.tables ∧ (keepSample ch v b s).agent = s.agent ∧
      (keepSample ch v b s).poll = s.poll ∧ (keepSample ch v b s).engine = s.engine ∧
      (keepSample ch v b s).alarms = s.alarms ∧ (keepSample ch v b s).pumps = s.pumps ∧
      (keepSample ch v b s).port = s.port ∧ (keepSample ch v b s).supply = s.supply ∧
      (keepSample ch v b s).outputs = s.outputs ∧ (keepSample ch v b s).loader = s.loader ∧
      (keepSample ch v b s).eeprom = s.eeprom ∧ (keepSample ch v b s).cuts = s.cuts := by
  unfold keepSample; simp

@[simp] theorem handleCode_frame (ch c : Nat) (s : State) :
    (handleCode ch c s).now = s.now ∧ (handleCode ch c s).pending = s.pending ∧ (handleCode ch c s).inbox = s.inbox ∧
      (handleCode ch c s).ownAddr = s.ownAddr ∧ (handleCode ch c s).ports = s.ports ∧
      (handleCode ch c s).tables = s.tables ∧ (handleCode ch c s).agent = s.agent ∧
      (handleCode ch c s).poll = s.poll ∧ (handleCode ch c s).engine = s.engine ∧
      (handleCode ch c s).alarms = s.alarms ∧ (handleCode ch c s).pumps = s.pumps ∧
      (handleCode ch c s).port = s.port ∧ (handleCode ch c s).supply = s.supply ∧
      (handleCode ch c s).outputs = s.outputs ∧ (handleCode ch c s).loader = s.loader ∧
      (handleCode ch c s).eeprom = s.eeprom ∧ (handleCode ch c s).cuts = s.cuts := by
  unfold handleCode; split <;> simp

@[simp] theorem conversionDone_frame (k c : Nat) (s : State) :
    (conversionDone k c s).now = s.now ∧ (conversionDone k c s).pending = s.pending ∧
      (conversionDone k c s).inbox = s.inbox ∧ (conversionDone k c s).ownAddr = s.ownAddr ∧
      (conversionDone k c s).ports = s.ports ∧ (conversionDone k c s).tables = s.tables ∧
      (conversionDone k c s).agent = s.agent ∧ (conversionDone k c s).poll = s.poll ∧
      (conversionDone k c s).engine = s.engine ∧ (conversionDone k c s).alarms = s.alarms ∧
      (conversionDone k c s).pumps = s.pumps ∧ (conversionDone k c s).port = s.port ∧
      (conversionDone k c s).supply = s.supply ∧ (conversionDone k c s).outputs = s.outputs ∧
      (conversionDone k c s).loader = s.loader ∧ (conversionDone k c s).eeprom = s.eeprom ∧
      (conversionDone k c s).cuts = s.cuts := by
  unfold conversionDone; simp

@[simp] theorem readSuccess_frame (i : Nat) (e : PollEntry) (d : List Bool) (s : State) :
    (readSuccess i e d s).now = s.now ∧ (readSuccess i e d s).pending = s.pending ∧
      (readSuccess i e d s).inbox = s.inbox ∧ (readSuccess i e d s).brownOuts = s.brownOuts ∧
      (readSuccess i e d s).ownAddr = s.ownAddr ∧ (readSuccess i e d s).ports = s.ports ∧
      (readSuccess i e d s).tables = s.tables ∧ (readSuccess i e d s).agent = s.agent ∧
      (readSuccess i e d s).sampling = s.sampling ∧ (readSuccess i e d s).engine = s.engine ∧
      (readSuccess i e d s).alarms = s.alarms ∧ (readSuccess i e d s).pumps = s.pumps ∧
      (readSuccess i e d s).port = s.port ∧ (readSuccess i e d s).supply = s.supply ∧
      (readSuccess i e d s).outputs = s.outputs ∧ (readSuccess i e d s).loader = s.loader ∧
      (readSuccess i e d s).eeprom = s.eeprom ∧ (readSuccess i e d s).cuts = s.cuts := by
  unfold readSuccess; simp

@[simp] theorem readFailed_frame (i : Nat) (e : PollEntry) (s : State) :
    (readFailed i e s).now = s.now ∧ (readFailed i e s).pending = s.pending ∧ (readFailed i e s).inbox = s.inbox ∧
      (readFailed i e s).brownOuts = s.brownOuts ∧ (readFailed i e s).ownAddr = s.ownAddr ∧
      (readFailed i e s).ports = s.ports ∧ (readFailed i e s).tables = s.tables ∧
      (readFailed i e s).agent = s.agent ∧ (readFailed i e s).sampling = s.sampling ∧
      (readFailed i e s).engine = s.engine ∧ (readFailed i e s).alarms = s.alarms ∧
      (readFailed i e s).pumps = s.pumps ∧ (readFailed i e s).port = s.port ∧ (readFailed i e s).supply = s.supply ∧
      (readFailed i e s).outputs = s.outputs ∧ (readFailed i e s).loader = s.loader ∧
      (readFailed i e s).eeprom = s.eeprom ∧ (readFailed i e s).cuts = s.cuts := by
  simp only [readFailed]; split <;> simp

@[simp] theorem becomeDue_frame (i : Nat) (s : State) :
    (becomeDue i s).now = s.now ∧ (becomeDue i s).pending = s.pending ∧ (becomeDue i s).inbox = s.inbox ∧
      (becomeDue i s).brownOuts = s.brownOuts ∧ (becomeDue i s).ownAddr = s.ownAddr ∧
      (becomeDue i s).ports = s.ports ∧ (becomeDue i s).tables = s.tables ∧ (becomeDue i s).agent = s.agent ∧
      (becomeDue i s).sampling = s.sampling ∧ (becomeDue i s).points = s.points ∧ (becomeDue i s).engine = s.engine ∧
      (becomeDue i s).alarms = s.alarms ∧ (becomeDue i s).pumps = s.pumps ∧ (becomeDue i s).port = s.port ∧
      (becomeDue i s).supply = s.supply ∧ (becomeDue i s).outputs = s.outputs ∧ (becomeDue i s).loader = s.loader ∧
      (becomeDue i s).eeprom = s.eeprom ∧ (becomeDue i s).cuts = s.cuts := by
  unfold becomeDue; simp

@[simp] theorem invalidatePolls_frame (n : Nat) (s : State) :
    (invalidatePolls n s).now = s.now ∧ (invalidatePolls n s).pending = s.pending ∧
      (invalidatePolls n s).inbox = s.inbox ∧ (invalidatePolls n s).brownOuts = s.brownOuts ∧
      (invalidatePolls n s).ownAddr = s.ownAddr ∧ (invalidatePolls n s).ports = s.ports ∧
      (invalidatePolls n s).tables = s.tables ∧ (invalidatePolls n s).agent = s.agent ∧
      (invalidatePolls n s).sampling = s.sampling ∧ (invalidatePolls n s).poll = s.poll ∧
      (invalidatePolls n s).engine = s.engine ∧ (invalidatePolls n s).alarms = s.alarms ∧
      (invalidatePolls n s).pumps = s.pumps ∧ (invalidatePolls n s).port = s.port ∧
      (invalidatePolls n s).supply = s.supply ∧ (invalidatePolls n s).outputs = s.outputs ∧
      (invalidatePolls n s).loader = s.loader ∧ (invalidatePolls n s).eeprom = s.eeprom ∧
      (invalidatePolls n s).cuts = s.cuts := by
  induction n with
  | zero => simp [invalidatePolls]
  | succ n ih => simp [invalidatePolls, ih]

@[simp] theorem takeBusFault_frame (s : State) :
    (takeBusFault s).now = s.now ∧ (takeBusFault s).pending = s.pending ∧ (takeBusFault s).inbox = s.inbox ∧
      (takeBusFault s).brownOuts = s.brownOuts ∧ (takeBusFault s).ownAddr = s.ownAddr ∧
      (takeBusFault s).ports = s.ports ∧ (takeBusFault s).tables = s.tables ∧ (takeBusFault s).agent = s.agent ∧
      (takeBusFault s).sampling = s.sampling ∧ (takeBusFault s).engine = s.engine ∧
      (takeBusFault s).alarms = s.alarms ∧ (takeBusFault s).pumps = s.pumps ∧ (takeBusFault s).port = s.port ∧
      (takeBusFault s).supply = s.supply ∧ (takeBusFault s).outputs = s.outputs ∧
      (takeBusFault s).loader = s.loader ∧ (takeBusFault s).eeprom = s.eeprom ∧ (takeBusFault s).cuts = s.cuts := by
  unfold takeBusFault; simp

@[simp] theorem takeRecovery_frame (o : BusOp) (h : Bool) (s : State) :
    (takeRecovery o h s).now = s.now ∧ (takeRecovery o h s).pending = s.pending ∧
      (takeRecovery o h s).inbox = s.inbox ∧ (takeRecovery o h s).brownOuts = s.brownOuts ∧
      (takeRecovery o h s).ownAddr = s.ownAddr ∧ (takeRecovery o h s).ports = s.ports ∧
      (takeRecovery o h s).tables = s.tables ∧ (takeRecovery o h s).agent = s.agent ∧
      (takeRecovery o h s).sampling = s.sampling ∧ (takeRecovery o h s).points = s.points ∧
      (takeRecovery o h s).engine = s.engine ∧ (takeRecovery o h s).alarms = s.alarms ∧
      (takeRecovery o h s).pumps = s.pumps ∧ (takeRecovery o h s).port = s.port ∧
      (takeRecovery o h s).supply = s.supply ∧ (takeRecovery o h s).outputs = s.outputs ∧
      (takeRecovery o h s).loader = s.loader ∧ (takeRecovery o h s).eeprom = s.eeprom ∧
      (takeRecovery o h s).cuts = s.cuts := by
  unfold takeRecovery; split <;> [(split <;> simp); simp]

@[simp] theorem takeStartup_frame (s : State) :
    (takeStartup s).now = s.now ∧ (takeStartup s).pending = s.pending ∧ (takeStartup s).inbox = s.inbox ∧
      (takeStartup s).brownOuts = s.brownOuts ∧ (takeStartup s).ownAddr = s.ownAddr ∧
      (takeStartup s).ports = s.ports ∧ (takeStartup s).tables = s.tables ∧ (takeStartup s).agent = s.agent ∧
      (takeStartup s).sampling = s.sampling ∧ (takeStartup s).points = s.points ∧ (takeStartup s).engine = s.engine ∧
      (takeStartup s).alarms = s.alarms ∧ (takeStartup s).pumps = s.pumps ∧ (takeStartup s).port = s.port ∧
      (takeStartup s).supply = s.supply ∧ (takeStartup s).outputs = s.outputs ∧ (takeStartup s).loader = s.loader ∧
      (takeStartup s).eeprom = s.eeprom ∧ (takeStartup s).cuts = s.cuts := by
  unfold takeStartup; simp

@[simp] theorem takePollWrite_frame (i : Nat) (e : PollEntry) (s : State) :
    (takePollWrite i e s).now = s.now ∧ (takePollWrite i e s).pending = s.pending ∧
      (takePollWrite i e s).inbox = s.inbox ∧ (takePollWrite i e s).brownOuts = s.brownOuts ∧
      (takePollWrite i e s).ownAddr = s.ownAddr ∧ (takePollWrite i e s).ports = s.ports ∧
      (takePollWrite i e s).agent = s.agent ∧ (takePollWrite i e s).sampling = s.sampling ∧
      (takePollWrite i e s).engine = s.engine ∧ (takePollWrite i e s).alarms = s.alarms ∧
      (takePollWrite i e s).pumps = s.pumps ∧ (takePollWrite i e s).port = s.port ∧
      (takePollWrite i e s).supply = s.supply ∧ (takePollWrite i e s).outputs = s.outputs ∧
      (takePollWrite i e s).loader = s.loader ∧ (takePollWrite i e s).eeprom = s.eeprom ∧
      (takePollWrite i e s).cuts = s.cuts := by
  unfold takePollWrite; simp

@[simp] theorem takeVisit_frame (b : Bool) (v : Visit) (s : State) :
    (takeVisit b v s).now = s.now ∧ (takeVisit b v s).pending = s.pending ∧ (takeVisit b v s).inbox = s.inbox ∧
      (takeVisit b v s).brownOuts = s.brownOuts ∧ (takeVisit b v s).ownAddr = s.ownAddr ∧
      (takeVisit b v s).tables = s.tables ∧ (takeVisit b v s).agent = s.agent ∧
      (takeVisit b v s).sampling = s.sampling ∧ (takeVisit b v s).poll = s.poll ∧
      (takeVisit b v s).points = s.points ∧ (takeVisit b v s).engine = s.engine ∧ (takeVisit b v s).pumps = s.pumps ∧
      (takeVisit b v s).port = s.port ∧ (takeVisit b v s).supply = s.supply ∧ (takeVisit b v s).outputs = s.outputs ∧
      (takeVisit b v s).loader = s.loader ∧ (takeVisit b v s).eeprom = s.eeprom ∧ (takeVisit b v s).cuts = s.cuts := by
  unfold takeVisit; split <;> simp

@[simp] theorem takeReports_frame (b : State) (a l : List Visit) (s : State) :
    (takeReports b a l s).now = s.now ∧ (takeReports b a l s).pending = s.pending ∧
      (takeReports b a l s).inbox = s.inbox ∧ (takeReports b a l s).brownOuts = s.brownOuts ∧
      (takeReports b a l s).ownAddr = s.ownAddr ∧ (takeReports b a l s).tables = s.tables ∧
      (takeReports b a l s).agent = s.agent ∧ (takeReports b a l s).sampling = s.sampling ∧
      (takeReports b a l s).poll = s.poll ∧ (takeReports b a l s).points = s.points ∧
      (takeReports b a l s).engine = s.engine ∧ (takeReports b a l s).pumps = s.pumps ∧
      (takeReports b a l s).port = s.port ∧ (takeReports b a l s).supply = s.supply ∧
      (takeReports b a l s).outputs = s.outputs ∧ (takeReports b a l s).loader = s.loader ∧
      (takeReports b a l s).eeprom = s.eeprom ∧ (takeReports b a l s).cuts = s.cuts := by
  induction l generalizing s with
  | nil => simp [takeReports]
  | cons v l ih => simp [takeReports, ih]

@[simp] theorem pulseOf_frame (v : Visit) (s : State) :
    (pulseOf v s).now = s.now ∧ (pulseOf v s).pending = s.pending ∧ (pulseOf v s).inbox = s.inbox ∧
      (pulseOf v s).brownOuts = s.brownOuts ∧ (pulseOf v s).ownAddr = s.ownAddr ∧ (pulseOf v s).ports = s.ports ∧
      (pulseOf v s).tables = s.tables ∧ (pulseOf v s).agent = s.agent ∧ (pulseOf v s).sampling = s.sampling ∧
      (pulseOf v s).poll = s.poll ∧ (pulseOf v s).points = s.points ∧ (pulseOf v s).engine = s.engine ∧
      (pulseOf v s).alarms = s.alarms ∧ (pulseOf v s).pumps = s.pumps ∧ (pulseOf v s).port = s.port ∧
      (pulseOf v s).supply = s.supply ∧ (pulseOf v s).loader = s.loader ∧ (pulseOf v s).eeprom = s.eeprom ∧
      (pulseOf v s).cuts = s.cuts := by
  unfold pulseOf; split <;> simp

@[simp] theorem takePulses_frame (l : List Visit) (s : State) :
    (takePulses l s).now = s.now ∧ (takePulses l s).pending = s.pending ∧ (takePulses l s).inbox = s.inbox ∧
      (takePulses l s).brownOuts = s.brownOuts ∧ (takePulses l s).ownAddr = s.ownAddr ∧
      (takePulses l s).ports = s.ports ∧ (takePulses l s).tables = s.tables ∧ (takePulses l s).agent = s.agent ∧
      (takePulses l s).sampling = s.sampling ∧ (takePulses l s).poll = s.poll ∧ (takePulses l s).points = s.points ∧
      (takePulses l s).engine = s.engine ∧ (takePulses l s).alarms = s.alarms ∧ (takePulses l s).pumps = s.pumps ∧
      (takePulses l s).port = s.port ∧ (takePulses l s).supply = s.supply ∧ (takePulses l s).loader = s.loader ∧
      (takePulses l s).eeprom = s.eeprom ∧ (takePulses l s).cuts = s.cuts := by
  induction l generalizing s with
  | nil => simp [takePulses]
  | cons v l ih => simp [takePulses, ih]

@[simp] theorem takeSuppressions_frame (b : State) (a l : List Visit) (s : State) :
    (takeSuppressions b a l s).now = s.now ∧ (takeSuppressions b a l s).pending = s.pending ∧
      (takeSuppressions b a l s).inbox = s.inbox ∧ (takeSuppressions b a l s).brownOuts = s.brownOuts ∧
      (takeSuppressions b a l s).ownAddr = s.ownAddr ∧ (takeSuppressions b a l s).tables = s.tables ∧
      (takeSuppressions b a l s).agent = s.agent ∧ (takeSuppressions b a l s).sampling = s.sampling ∧
      (takeSuppressions b a l s).poll = s.poll ∧ (takeSuppressions b a l s).points = s.points ∧
      (takeSuppressions b a l s).engine = s.engine ∧ (takeSuppressions b a l s).pumps = s.pumps ∧
      (takeSuppressions b a l s).port = s.port ∧ (takeSuppressions b a l s).supply = s.supply ∧
      (takeSuppressions b a l s).outputs = s.outputs ∧ (takeSuppressions b a l s).loader = s.loader ∧
      (takeSuppressions b a l s).eeprom = s.eeprom ∧ (takeSuppressions b a l s).cuts = s.cuts := by
  induction l generalizing s with
  | nil => simp [takeSuppressions]
  | cons v l ih => unfold takeSuppressions; split <;> simp [ih]

@[simp] theorem takePass_frame (s : State) :
    (takePass s).now = s.now ∧ (takePass s).pending = s.pending ∧ (takePass s).inbox = s.inbox ∧
      (takePass s).brownOuts = s.brownOuts ∧ (takePass s).ownAddr = s.ownAddr ∧ (takePass s).tables = s.tables ∧
      (takePass s).agent = s.agent ∧ (takePass s).sampling = s.sampling ∧ (takePass s).poll = s.poll ∧
      (takePass s).loader = s.loader ∧ (takePass s).eeprom = s.eeprom ∧ (takePass s).cuts = s.cuts := by
  simp only [takePass]
  generalize visits s = vs
  simp

@[simp] theorem takeConditionWrite_frame (i : Nat) (c : Condition) (s : State) :
    (takeConditionWrite i c s).now = s.now ∧ (takeConditionWrite i c s).pending = s.pending ∧
      (takeConditionWrite i c s).inbox = s.inbox ∧ (takeConditionWrite i c s).brownOuts = s.brownOuts ∧
      (takeConditionWrite i c s).ownAddr = s.ownAddr ∧ (takeConditionWrite i c s).agent = s.agent ∧
      (takeConditionWrite i c s).sampling = s.sampling ∧ (takeConditionWrite i c s).poll = s.poll ∧
      (takeConditionWrite i c s).loader = s.loader ∧ (takeConditionWrite i c s).eeprom = s.eeprom ∧
      (takeConditionWrite i c s).cuts = s.cuts := by
  simp only [takeConditionWrite]; split <;> simp

@[simp] theorem dequeue_frame (h : Handed) (s : State) :
    (dequeue h s).now = s.now ∧ (dequeue h s).pending = s.pending ∧ (dequeue h s).brownOuts = s.brownOuts ∧
      (dequeue h s).ownAddr = s.ownAddr ∧ (dequeue h s).ports = s.ports ∧ (dequeue h s).tables = s.tables ∧
      (dequeue h s).agent = s.agent ∧ (dequeue h s).sampling = s.sampling ∧ (dequeue h s).poll = s.poll ∧
      (dequeue h s).points = s.points ∧ (dequeue h s).engine = s.engine ∧ (dequeue h s).alarms = s.alarms ∧
      (dequeue h s).pumps = s.pumps ∧ (dequeue h s).port = s.port ∧ (dequeue h s).supply = s.supply ∧
      (dequeue h s).outputs = s.outputs ∧ (dequeue h s).loader = s.loader ∧ (dequeue h s).eeprom = s.eeprom ∧
      (dequeue h s).cuts = s.cuts := by
  unfold dequeue; split <;> [(split <;> simp); simp]

@[simp] theorem takeManaged_frame (h : Handed) (s : State) :
    (takeManaged h s).now = s.now ∧ (takeManaged h s).pending = s.pending ∧
      (takeManaged h s).brownOuts = s.brownOuts ∧ (takeManaged h s).ownAddr = s.ownAddr ∧
      (takeManaged h s).ports = s.ports ∧ (takeManaged h s).tables = s.tables ∧
      (takeManaged h s).sampling = s.sampling ∧ (takeManaged h s).poll = s.poll ∧
      (takeManaged h s).engine = s.engine ∧ (takeManaged h s).alarms = s.alarms ∧ (takeManaged h s).pumps = s.pumps ∧
      (takeManaged h s).port = s.port ∧ (takeManaged h s).supply = s.supply ∧ (takeManaged h s).outputs = s.outputs ∧
      (takeManaged h s).loader = s.loader ∧ (takeManaged h s).eeprom = s.eeprom ∧ (takeManaged h s).cuts = s.cuts := by
  unfold takeManaged; split <;> simp

@[simp] theorem adoptSupply_frame (g : SupplySettings) (s : State) :
    (adoptSupply g s).now = s.now ∧ (adoptSupply g s).pending = s.pending ∧ (adoptSupply g s).inbox = s.inbox ∧
      (adoptSupply g s).brownOuts = s.brownOuts ∧ (adoptSupply g s).ownAddr = s.ownAddr ∧
      (adoptSupply g s).ports = s.ports ∧ (adoptSupply g s).tables = s.tables ∧ (adoptSupply g s).agent = s.agent ∧
      (adoptSupply g s).sampling = s.sampling ∧ (adoptSupply g s).poll = s.poll ∧
      (adoptSupply g s).engine = s.engine ∧ (adoptSupply g s).alarms = s.alarms ∧
      (adoptSupply g s).loader = s.loader ∧ (adoptSupply g s).eeprom = s.eeprom ∧ (adoptSupply g s).cuts = s.cuts := by
  unfold adoptSupply; simp

@[simp] theorem adoptOutputs_frame (a : List (BitVec 7)) (b : List Bool) (s : State) :
    (adoptOutputs a b s).now = s.now ∧ (adoptOutputs a b s).pending = s.pending ∧
      (adoptOutputs a b s).inbox = s.inbox ∧ (adoptOutputs a b s).brownOuts = s.brownOuts ∧
      (adoptOutputs a b s).ownAddr = s.ownAddr ∧ (adoptOutputs a b s).ports = s.ports ∧
      (adoptOutputs a b s).tables = s.tables ∧ (adoptOutputs a b s).agent = s.agent ∧
      (adoptOutputs a b s).sampling = s.sampling ∧ (adoptOutputs a b s).poll = s.poll ∧
      (adoptOutputs a b s).points = s.points ∧ (adoptOutputs a b s).engine = s.engine ∧
      (adoptOutputs a b s).alarms = s.alarms ∧ (adoptOutputs a b s).pumps = s.pumps ∧
      (adoptOutputs a b s).port = s.port ∧ (adoptOutputs a b s).supply = s.supply ∧
      (adoptOutputs a b s).loader = s.loader ∧ (adoptOutputs a b s).eeprom = s.eeprom ∧
      (adoptOutputs a b s).cuts = s.cuts := by
  unfold adoptOutputs; simp

@[simp] theorem adoptPump_frame (c : Channel) (t : PumpSettings) (s : State) :
    (adoptPump c t s).now = s.now ∧ (adoptPump c t s).pending = s.pending ∧ (adoptPump c t s).inbox = s.inbox ∧
      (adoptPump c t s).brownOuts = s.brownOuts ∧ (adoptPump c t s).ownAddr = s.ownAddr ∧
      (adoptPump c t s).ports = s.ports ∧ (adoptPump c t s).tables = s.tables ∧ (adoptPump c t s).agent = s.agent ∧
      (adoptPump c t s).sampling = s.sampling ∧ (adoptPump c t s).poll = s.poll ∧
      (adoptPump c t s).engine = s.engine ∧ (adoptPump c t s).alarms = s.alarms ∧
      (adoptPump c t s).supply = s.supply ∧ (adoptPump c t s).outputs = s.outputs ∧
      (adoptPump c t s).loader = s.loader ∧ (adoptPump c t s).eeprom = s.eeprom ∧ (adoptPump c t s).cuts = s.cuts := by
  unfold adoptPump; simp

@[simp] theorem applyStoredMode_frame (c : Channel) (s : State) :
    (applyStoredMode c s).now = s.now ∧ (applyStoredMode c s).pending = s.pending ∧
      (applyStoredMode c s).inbox = s.inbox ∧ (applyStoredMode c s).brownOuts = s.brownOuts ∧
      (applyStoredMode c s).ownAddr = s.ownAddr ∧ (applyStoredMode c s).ports = s.ports ∧
      (applyStoredMode c s).tables = s.tables ∧ (applyStoredMode c s).agent = s.agent ∧
      (applyStoredMode c s).sampling = s.sampling ∧ (applyStoredMode c s).poll = s.poll ∧
      (applyStoredMode c s).engine = s.engine ∧ (applyStoredMode c s).alarms = s.alarms ∧
      (applyStoredMode c s).supply = s.supply ∧ (applyStoredMode c s).outputs = s.outputs ∧
      (applyStoredMode c s).loader = s.loader ∧ (applyStoredMode c s).eeprom = s.eeprom ∧
      (applyStoredMode c s).cuts = s.cuts := by
  unfold applyStoredMode; split <;> simp

@[simp] theorem installTables_frame (t : Option Tables) (s : State) :
    (installTables t s).now = s.now ∧ (installTables t s).pending = s.pending ∧ (installTables t s).inbox = s.inbox ∧
      (installTables t s).brownOuts = s.brownOuts ∧ (installTables t s).ownAddr = s.ownAddr ∧
      (installTables t s).ports = s.ports ∧ (installTables t s).agent = s.agent ∧
      (installTables t s).sampling = s.sampling ∧ (installTables t s).poll = s.poll ∧
      (installTables t s).engine = s.engine ∧ (installTables t s).alarms = s.alarms ∧
      (installTables t s).pumps = s.pumps ∧ (installTables t s).port = s.port ∧
      (installTables t s).supply = s.supply ∧ (installTables t s).outputs = s.outputs ∧
      (installTables t s).eeprom = s.eeprom ∧ (installTables t s).cuts = s.cuts := by
  unfold installTables; simp

@[simp] theorem startBlocks_frame (s : State) :
    (startBlocks s).now = s.now ∧ (startBlocks s).pending = s.pending ∧ (startBlocks s).inbox = s.inbox ∧
      (startBlocks s).brownOuts = s.brownOuts ∧ (startBlocks s).ownAddr = s.ownAddr ∧
      (startBlocks s).ports = s.ports ∧ (startBlocks s).tables = s.tables ∧ (startBlocks s).agent = s.agent ∧
      (startBlocks s).points = s.points ∧ (startBlocks s).alarms = s.alarms ∧ (startBlocks s).pumps = s.pumps ∧
      (startBlocks s).port = s.port ∧ (startBlocks s).supply = s.supply ∧ (startBlocks s).outputs = s.outputs ∧
      (startBlocks s).loader = s.loader ∧ (startBlocks s).eeprom = s.eeprom ∧ (startBlocks s).cuts = s.cuts := by
  unfold startBlocks; simp

@[simp] theorem startPumps_frame (b : Bool) (s : State) :
    (startPumps b s).now = s.now ∧ (startPumps b s).pending = s.pending ∧ (startPumps b s).inbox = s.inbox ∧
      (startPumps b s).brownOuts = s.brownOuts ∧ (startPumps b s).ownAddr = s.ownAddr ∧
      (startPumps b s).ports = s.ports ∧ (startPumps b s).tables = s.tables ∧ (startPumps b s).agent = s.agent ∧
      (startPumps b s).sampling = s.sampling ∧ (startPumps b s).poll = s.poll ∧ (startPumps b s).engine = s.engine ∧
      (startPumps b s).alarms = s.alarms ∧ (startPumps b s).supply = s.supply ∧
      (startPumps b s).outputs = s.outputs ∧ (startPumps b s).loader = s.loader ∧
      (startPumps b s).eeprom = s.eeprom ∧ (startPumps b s).cuts = s.cuts := by
  unfold startPumps; split <;> simp

@[simp] theorem startSupply_frame (b : Bool) (s : State) :
    (startSupply b s).now = s.now ∧ (startSupply b s).pending = s.pending ∧ (startSupply b s).inbox = s.inbox ∧
      (startSupply b s).brownOuts = s.brownOuts ∧ (startSupply b s).ownAddr = s.ownAddr ∧
      (startSupply b s).ports = s.ports ∧ (startSupply b s).tables = s.tables ∧ (startSupply b s).agent = s.agent ∧
      (startSupply b s).sampling = s.sampling ∧ (startSupply b s).poll = s.poll ∧
      (startSupply b s).engine = s.engine ∧ (startSupply b s).alarms = s.alarms ∧
      (startSupply b s).loader = s.loader ∧ (startSupply b s).eeprom = s.eeprom ∧ (startSupply b s).cuts = s.cuts := by
  unfold startSupply; split <;> simp

@[simp] theorem endAutoload_frame (b : Bool) (t : Option Tables) (s : State) :
    (endAutoload b t s).now = s.now ∧ (endAutoload b t s).pending = s.pending ∧ (endAutoload b t s).inbox = s.inbox ∧
      (endAutoload b t s).brownOuts = s.brownOuts ∧ (endAutoload b t s).ownAddr = s.ownAddr ∧
      (endAutoload b t s).ports = s.ports ∧ (endAutoload b t s).agent = s.agent ∧
      (endAutoload b t s).alarms = s.alarms ∧ (endAutoload b t s).eeprom = s.eeprom ∧
      (endAutoload b t s).cuts = s.cuts := by
  unfold endAutoload; simp

@[simp] theorem cutPage_frame (k : Nat) (s : State) :
    (cutPage k s).now = s.now ∧ (cutPage k s).pending = s.pending ∧ (cutPage k s).inbox = s.inbox ∧ (cutPage k
      s).brownOuts = s.brownOuts ∧ (cutPage k s).ownAddr = s.ownAddr ∧ (cutPage k s).ports = s.ports ∧ (cutPage
      k s).tables = s.tables ∧ (cutPage k s).agent = s.agent ∧ (cutPage k s).sampling = s.sampling ∧ (cutPage k
      s).poll = s.poll ∧ (cutPage k s).points = s.points ∧ (cutPage k s).engine = s.engine ∧ (cutPage k
      s).alarms = s.alarms ∧ (cutPage k s).pumps = s.pumps ∧ (cutPage k s).port = s.port ∧ (cutPage k s).supply
      = s.supply ∧ (cutPage k s).outputs = s.outputs ∧ (cutPage k s).loader = s.loader := by
  unfold cutPage; split <;> simp

@[simp] theorem doubtContent_frame (s : State) :
    (doubtContent s).now = s.now ∧ (doubtContent s).pending = s.pending ∧ (doubtContent s).inbox = s.inbox ∧
      (doubtContent s).brownOuts = s.brownOuts ∧ (doubtContent s).ownAddr = s.ownAddr ∧ (doubtContent s).ports =
      s.ports ∧ (doubtContent s).tables = s.tables ∧ (doubtContent s).agent = s.agent ∧ (doubtContent
      s).sampling = s.sampling ∧ (doubtContent s).poll = s.poll ∧ (doubtContent s).points = s.points ∧
      (doubtContent s).engine = s.engine ∧ (doubtContent s).alarms = s.alarms ∧ (doubtContent s).pumps = s.pumps
      ∧ (doubtContent s).port = s.port ∧ (doubtContent s).supply = s.supply ∧ (doubtContent s).outputs =
      s.outputs ∧ (doubtContent s).loader = s.loader := by
  simp [doubtContent]

@[simp] theorem endStore_frame (b : Bool) (s : State) :
    (endStore b s).now = s.now ∧ (endStore b s).pending = s.pending ∧ (endStore b s).inbox = s.inbox ∧
      (endStore b s).brownOuts = s.brownOuts ∧ (endStore b s).ownAddr = s.ownAddr ∧
      (endStore b s).tables = s.tables ∧ (endStore b s).sampling = s.sampling ∧ (endStore b s).poll = s.poll ∧
      (endStore b s).points = s.points ∧ (endStore b s).engine = s.engine ∧ (endStore b s).alarms = s.alarms ∧
      (endStore b s).pumps = s.pumps ∧ (endStore b s).port = s.port ∧ (endStore b s).supply = s.supply ∧
      (endStore b s).outputs = s.outputs ∧ (endStore b s).eeprom = s.eeprom ∧ (endStore b s).cuts = s.cuts := by
  unfold endStore; split <;> simp

@[simp] theorem takeBrownOut_frame (s : State) :
    (takeBrownOut s).now = s.now ∧ (takeBrownOut s).pending = s.pending ∧ (takeBrownOut s).inbox = s.inbox ∧
      (takeBrownOut s).brownOuts = s.brownOuts ∧ (takeBrownOut s).ownAddr = s.ownAddr ∧
      (takeBrownOut s).ports = s.ports ∧ (takeBrownOut s).tables = s.tables ∧ (takeBrownOut s).agent = s.agent ∧
      (takeBrownOut s).sampling = s.sampling ∧ (takeBrownOut s).poll = s.poll ∧ (takeBrownOut s).engine = s.engine ∧
      (takeBrownOut s).alarms = s.alarms ∧ (takeBrownOut s).loader = s.loader ∧ (takeBrownOut s).eeprom = s.eeprom ∧
      (takeBrownOut s).cuts = s.cuts := by
  unfold takeBrownOut; simp

@[simp] theorem takeReply_frame (d : Device) (r : BitVec 16) (s : State) :
    (takeReply d r s).now = s.now ∧ (takeReply d r s).pending = s.pending ∧ (takeReply d r s).inbox = s.inbox ∧
      (takeReply d r s).brownOuts = s.brownOuts ∧ (takeReply d r s).ownAddr = s.ownAddr ∧
      (takeReply d r s).ports = s.ports ∧ (takeReply d r s).tables = s.tables ∧ (takeReply d r s).agent = s.agent ∧
      (takeReply d r s).sampling = s.sampling ∧ (takeReply d r s).poll = s.poll ∧
      (takeReply d r s).engine = s.engine ∧ (takeReply d r s).alarms = s.alarms ∧
      (takeReply d r s).loader = s.loader ∧ (takeReply d r s).eeprom = s.eeprom ∧ (takeReply d r s).cuts = s.cuts := by
  unfold takeReply; split <;> [(split <;> simp); simp]

@[simp] theorem endTransfer_frame (d : List PortSignal) (s : State) :
    (endTransfer d s).now = s.now ∧ (endTransfer d s).pending = s.pending ∧ (endTransfer d s).inbox = s.inbox ∧
      (endTransfer d s).brownOuts = s.brownOuts ∧ (endTransfer d s).ownAddr = s.ownAddr ∧
      (endTransfer d s).ports = s.ports ∧ (endTransfer d s).tables = s.tables ∧ (endTransfer d s).agent = s.agent ∧
      (endTransfer d s).sampling = s.sampling ∧ (endTransfer d s).poll = s.poll ∧ (endTransfer d s).points = s.points ∧
      (endTransfer d s).engine = s.engine ∧ (endTransfer d s).alarms = s.alarms ∧ (endTransfer d s).pumps = s.pumps ∧
      (endTransfer d s).supply = s.supply ∧ (endTransfer d s).outputs = s.outputs ∧ (endTransfer d s).loader = s.loader ∧
      (endTransfer d s).eeprom = s.eeprom ∧ (endTransfer d s).cuts = s.cuts := by
  unfold endTransfer; simp

@[simp] theorem endPulse_frame (o : Nat) (s : State) :
    (endPulse o s).now = s.now ∧ (endPulse o s).pending = s.pending ∧ (endPulse o s).inbox = s.inbox ∧
      (endPulse o s).brownOuts = s.brownOuts ∧ (endPulse o s).ownAddr = s.ownAddr ∧ (endPulse o s).ports = s.ports ∧
      (endPulse o s).tables = s.tables ∧ (endPulse o s).agent = s.agent ∧ (endPulse o s).sampling = s.sampling ∧
      (endPulse o s).poll = s.poll ∧ (endPulse o s).points = s.points ∧ (endPulse o s).engine = s.engine ∧
      (endPulse o s).alarms = s.alarms ∧ (endPulse o s).pumps = s.pumps ∧ (endPulse o s).port = s.port ∧
      (endPulse o s).supply = s.supply ∧ (endPulse o s).loader = s.loader ∧ (endPulse o s).eeprom = s.eeprom ∧
      (endPulse o s).cuts = s.cuts := by
  unfold endPulse; simp

@[simp] theorem setOutputForcing_frame (o : Nat) (f : Option Bool) (s : State) :
    (setOutputForcing o f s).now = s.now ∧ (setOutputForcing o f s).pending = s.pending ∧
      (setOutputForcing o f s).inbox = s.inbox ∧ (setOutputForcing o f s).brownOuts = s.brownOuts ∧
      (setOutputForcing o f s).ownAddr = s.ownAddr ∧ (setOutputForcing o f s).ports = s.ports ∧
      (setOutputForcing o f s).tables = s.tables ∧ (setOutputForcing o f s).sampling = s.sampling ∧
      (setOutputForcing o f s).poll = s.poll ∧ (setOutputForcing o f s).points = s.points ∧
      (setOutputForcing o f s).engine = s.engine ∧ (setOutputForcing o f s).alarms = s.alarms ∧
      (setOutputForcing o f s).pumps = s.pumps ∧ (setOutputForcing o f s).port = s.port ∧
      (setOutputForcing o f s).supply = s.supply ∧ (setOutputForcing o f s).loader = s.loader ∧
      (setOutputForcing o f s).eeprom = s.eeprom ∧ (setOutputForcing o f s).cuts = s.cuts := by
  unfold setOutputForcing; simp

@[simp] theorem setShedForcing_frame (f : Option Nat) (s : State) :
    (setShedForcing f s).now = s.now ∧ (setShedForcing f s).pending = s.pending ∧
      (setShedForcing f s).inbox = s.inbox ∧ (setShedForcing f s).brownOuts = s.brownOuts ∧
      (setShedForcing f s).ownAddr = s.ownAddr ∧ (setShedForcing f s).ports = s.ports ∧
      (setShedForcing f s).tables = s.tables ∧ (setShedForcing f s).sampling = s.sampling ∧
      (setShedForcing f s).poll = s.poll ∧ (setShedForcing f s).engine = s.engine ∧
      (setShedForcing f s).alarms = s.alarms ∧ (setShedForcing f s).loader = s.loader ∧
      (setShedForcing f s).eeprom = s.eeprom ∧ (setShedForcing f s).cuts = s.cuts := by
  unfold setShedForcing; simp

@[simp] theorem forcePumps_frame (k : Nat) (m : Mode) (s : State) :
    (forcePumps k m s).now = s.now ∧ (forcePumps k m s).pending = s.pending ∧ (forcePumps k m s).inbox = s.inbox ∧
      (forcePumps k m s).brownOuts = s.brownOuts ∧ (forcePumps k m s).ownAddr = s.ownAddr ∧
      (forcePumps k m s).ports = s.ports ∧ (forcePumps k m s).tables = s.tables ∧
      (forcePumps k m s).sampling = s.sampling ∧ (forcePumps k m s).poll = s.poll ∧
      (forcePumps k m s).engine = s.engine ∧ (forcePumps k m s).alarms = s.alarms ∧
      (forcePumps k m s).supply = s.supply ∧ (forcePumps k m s).outputs = s.outputs ∧
      (forcePumps k m s).loader = s.loader ∧ (forcePumps k m s).eeprom = s.eeprom ∧ (forcePumps k m s).cuts = s.cuts := by
  unfold forcePumps setPumpForcing; split <;> [simp; (split <;> simp)]

@[simp] theorem autonomy_frame (s : State) :
    (autonomy s).now = s.now ∧ (autonomy s).pending = s.pending ∧ (autonomy s).inbox = s.inbox ∧
      (autonomy s).brownOuts = s.brownOuts ∧ (autonomy s).ownAddr = s.ownAddr ∧ (autonomy s).ports = s.ports ∧
      (autonomy s).tables = s.tables ∧ (autonomy s).sampling = s.sampling ∧ (autonomy s).poll = s.poll ∧
      (autonomy s).engine = s.engine ∧ (autonomy s).alarms = s.alarms ∧ (autonomy s).loader = s.loader ∧
      (autonomy s).eeprom = s.eeprom ∧ (autonomy s).cuts = s.cuts := by
  unfold autonomy; simp

@[simp] theorem contactExpiry_frame (h : Side) (s : State) :
    (contactExpiry h s).now = s.now ∧ (contactExpiry h s).pending = s.pending ∧ (contactExpiry h s).inbox = s.inbox ∧
      (contactExpiry h s).brownOuts = s.brownOuts ∧ (contactExpiry h s).ownAddr = s.ownAddr ∧
      (contactExpiry h s).ports = s.ports ∧ (contactExpiry h s).tables = s.tables ∧
      (contactExpiry h s).sampling = s.sampling ∧ (contactExpiry h s).poll = s.poll ∧
      (contactExpiry h s).engine = s.engine ∧ (contactExpiry h s).alarms = s.alarms ∧
      (contactExpiry h s).pumps = s.pumps ∧ (contactExpiry h s).port = s.port ∧
      (contactExpiry h s).supply = s.supply ∧ (contactExpiry h s).outputs = s.outputs ∧
      (contactExpiry h s).loader = s.loader ∧ (contactExpiry h s).eeprom = s.eeprom ∧
      (contactExpiry h s).cuts = s.cuts := by
  unfold contactExpiry; simp

end Sys2Proof.Machine
end

