-- ==== Sys2Proof/Laws/Memory.lean ====
section
/-! SUPPORT. The EEPROM's memory laws: what a read gives after a write, and the canonical form kept. -/

namespace Sys2Proof.Machine

@[simp] theorem readByte_nil (a : Nat) : readByte [] a = erased := rfl

/-- Strictly rising addresses, all above a bound, none erased: the form the writes keep. -/
theorem canonical_cons (k : Nat) (w : Byte) (l : List Host.Cell) :
    canonical ((k, w) :: l) = true ↔ (∀ c ∈ l.head?, k < c.1) ∧ w ≠ erased ∧ canonical l = true := by
  cases l with
  | nil => simp [canonical, chain]
  | cons d l => simp [canonical, chain, and_assoc, and_left_comm]

/-- Every address behind a cell of a canonical memory is above the cell's. -/
theorem canonical_below (k : Nat) (w : Byte) (l : List Host.Cell) (h : canonical ((k, w) :: l) = true) :
    ∀ d ∈ l, k < d.1 := by
  induction l generalizing k w with
  | nil => simp
  | cons d l ih =>
    obtain ⟨d1, d2⟩ := d
    have hc := (canonical_cons k w ((d1, d2) :: l)).1 h
    have h1 : k < d1 := by simpa using hc.1
    intro e he
    rcases List.mem_cons.1 he with rfl | he
    · exact h1
    · exact Nat.lt_trans h1 (ih d1 d2 hc.2.2 e he)

/-- A read below every listed address. -/
theorem readByte_below (l : List Host.Cell) (x : Nat) (h : ∀ d ∈ l, x < d.1) : readByte l x = erased := by
  induction l with
  | nil => rfl
  | cons d l ih =>
    obtain ⟨d1, d2⟩ := d
    have : x < d1 := h (d1, d2) (by simp)
    simp only [readByte]
    rw [if_neg (by omega)]
    exact ih (fun e he => h e (by simp [he]))

/-- A read of the byte just written. -/
theorem readByte_writeByte_same (m : List Host.Cell) (a : Nat) (v : Byte) (h : canonical m = true) :
    readByte (writeByte m a v) a = v := by
  induction m with
  | nil => simp only [writeByte]; split <;> simp_all [readByte]
  | cons c l ih =>
    obtain ⟨k, w⟩ := c
    have hk := canonical_below k w l h
    have hread : ∀ x, x ≤ k → readByte l x = erased :=
      fun x hx => readByte_below l x (fun d hd => Nat.lt_of_le_of_lt hx (hk d hd))
    simp only [writeByte]
    split
    · split
      · rename_i hak hv
        simp only [readByte]
        rw [if_neg (by omega), hread a (by omega), hv]
      · simp [readByte]
    · split
      · rename_i h1 h2
        split
        · rename_i hv
          rw [hread a (by omega), hv]
        · simp [readByte]
      · rename_i h1 h2
        simp only [readByte]
        rw [if_neg (by omega)]
        exact ih ((canonical_cons k w l).1 h).2.2

/-- A read of another byte. -/
theorem readByte_writeByte_other (m : List Host.Cell) (a x : Nat) (v : Byte) (hx : x ≠ a) :
    readByte (writeByte m a v) x = readByte m x := by
  induction m with
  | nil => simp only [writeByte]; split <;> simp [readByte]; omega
  | cons c l ih =>
    obtain ⟨k, w⟩ := c
    simp only [writeByte]
    split
    · split
      · rfl
      · simp only [readByte]; rw [if_neg (Ne.symm hx)]
    · split
      · rename_i h2
        subst h2
        split
        · simp only [readByte]; rw [if_neg (Ne.symm hx)]
        · simp only [readByte]; rw [if_neg (Ne.symm hx), if_neg (Ne.symm hx)]
      · simp only [readByte, ih]

/-- Where the first cell of a memory written to stands. -/
theorem head_writeByte (m : List Host.Cell) (a : Nat) (v : Byte) (k : Nat) (hm : ∀ c ∈ m.head?, k < c.1) (ha : k < a)
    (hc : canonical m = true) : ∀ c ∈ (writeByte m a v).head?, k < c.1 := by
  cases m with
  | nil => simp only [writeByte]; split <;> simp [ha]
  | cons d l =>
    obtain ⟨d1, d2⟩ := d
    have hd : k < d1 := by simpa using hm
    simp only [writeByte]
    split
    · split <;> simp [hd, ha]
    · split
      · split
        · intro c hcm
          have := (canonical_cons d1 d2 l).1 hc
          exact Nat.lt_trans hd (this.1 c hcm)
        · simp [ha]
      · simp [hd]

/-- A write keeps the canonical form. -/
theorem canonical_writeByte (m : List Host.Cell) (a : Nat) (v : Byte) (h : canonical m = true) :
    canonical (writeByte m a v) = true := by
  induction m with
  | nil =>
    simp only [writeByte]
    split
    · rfl
    · rw [canonical_cons]; exact ⟨by simp, by assumption, by rfl⟩
  | cons c l ih =>
    obtain ⟨k, w⟩ := c
    have hc := (canonical_cons k w l).1 h
    simp only [writeByte]
    split
    · split
      · exact h
      · rw [canonical_cons]; exact ⟨by simpa, by assumption, h⟩
    · split
      · rename_i h1 h2
        subst h2
        split
        · exact hc.2.2
        · rw [canonical_cons]; exact ⟨hc.1, by assumption, hc.2.2⟩
      · rw [canonical_cons]
        exact ⟨head_writeByte l a v k hc.1 (by omega) hc.2.2, hc.2.1, ih hc.2.2⟩

/-- Writing consecutive bytes keeps the canonical form. -/
theorem canonical_writeBytes (m : List Host.Cell) (a : Nat) (l : List Byte) (h : canonical m = true) :
    canonical (writeBytes m a l) = true := by
  induction l generalizing m a with
  | nil => exact h
  | cons b l ih => exact ih _ _ (canonical_writeByte m a b h)

/-- A read outside the bytes written. -/
theorem readByte_writeBytes_outside (m : List Host.Cell) (a : Nat) (l : List Byte) (x : Nat)
    (hx : x < a ∨ a + l.length ≤ x) : readByte (writeBytes m a l) x = readByte m x := by
  induction l generalizing m a with
  | nil => rfl
  | cons b l ih =>
    simp only [writeBytes, List.length_cons] at *
    rw [ih _ _ (by omega), readByte_writeByte_other _ _ _ _ (by omega)]

/-- A read of one of the bytes written. -/
theorem readByte_writeBytes_inside (m : List Host.Cell) (a : Nat) (l : List Byte) (i : Nat) (hi : i < l.length)
    (h : canonical m = true) : readByte (writeBytes m a l) (a + i) = l[i] := by
  induction l generalizing m a i with
  | nil => simp at hi
  | cons b l ih =>
    simp only [writeBytes]
    cases i with
    | zero =>
      rw [readByte_writeBytes_outside _ _ _ _ (by omega)]
      simpa using readByte_writeByte_same m a b h
    | succ i =>
      have := ih (writeByte m a b) (a + 1) i (by simpa using hi) (canonical_writeByte m a b h)
      simpa [Nat.add_comm, Nat.add_left_comm] using this

/-- Every cell of a memory written to is an old one or lies among the bytes written. -/
theorem mem_writeByte (m : List Host.Cell) (a : Nat) (v : Byte) :
    ∀ c ∈ writeByte m a v, c.1 = a ∨ c ∈ m := by
  induction m with
  | nil => simp only [writeByte]; split <;> simp
  | cons d l ih =>
    obtain ⟨k, w⟩ := d
    simp only [writeByte]
    intro c hc
    split at hc
    · split at hc
      · exact .inr hc
      · rcases List.mem_cons.1 hc with rfl | h
        · exact .inl rfl
        · exact .inr h
    · split at hc
      · split at hc
        · exact .inr (List.mem_cons_of_mem _ hc)
        · rcases List.mem_cons.1 hc with rfl | h
          · exact .inl rfl
          · exact .inr (List.mem_cons_of_mem _ h)
      · rcases List.mem_cons.1 hc with rfl | h
        · exact .inr (by simp)
        · exact (ih c h).imp id (List.mem_cons_of_mem _)

/-- The same for consecutive bytes. -/
theorem mem_writeBytes (m : List Host.Cell) (a : Nat) (l : List Byte) :
    ∀ c ∈ writeBytes m a l, c.1 < a + l.length ∨ c ∈ m := by
  induction l generalizing m a with
  | nil => exact fun c hc => .inr hc
  | cons b l ih =>
    intro c hc
    rcases ih _ _ c hc with h | h
    · exact .inl (by simp only [List.length_cons]; omega)
    · rcases mem_writeByte m a b c h with h | h
      · exact .inl (by simp only [List.length_cons]; omega)
      · exact .inr h

/-- A page 0 left without a valid signature does not begin with C2h 46h. -/
theorem unsigned_signature (c : Nat) (l : List Byte) : (unsigned c l).take 2 ≠ [0xC2, 0x46] := by
  unfold unsigned
  split
  · intro h
    have hn := (Config.otherSignature c).isLt
    generalize hm : (Config.otherSignature c).val = n at hn
    simp only [otherSignature, bytes16, hm, List.cons_append, List.nil_append, List.take_succ_cons, List.take_zero,
      List.cons.injEq, and_true] at h
    have h1 := congrArg BitVec.toNat h.1
    have h2 := congrArg BitVec.toNat h.2
    simp only [BitVec.toNat_ofNat] at h1 h2
    have e1 : (0xC2 : Byte).toNat = 194 := rfl
    have e2 : (0x46 : Byte).toNat = 70 := rfl
    rw [e1] at h1
    rw [e2] at h2
    by_cases hc : n < 0xC246
    · simp only [if_pos hc] at h1 h2
      omega
    · simp only [if_neg hc] at h1 h2
      omega
  · assumption

end Sys2Proof.Machine
end

