-- ==== Sys2Proof/Laws/Ops.lean ====
section
/-! SUPPORT. What each shared operation does: one lemma for each, to be cited instead of unfolding it. -/

namespace Sys2Proof.Machine

/-! Pairs and channels. -/

@[simp] theorem Pair.get_set_same {α : Type} (p : Pair α) (x : Side) (v : α) : (p.set x v).get x = v := by cases x <;> rfl

@[simp] theorem Pair.get_set_other {α : Type} (p : Pair α) (x : Side) (v : α) :
    (p.set x v).get (otherSide x) = p.get (otherSide x) := by cases x <;> rfl

@[simp] theorem Duo.get_set_same {α : Type} (p : Duo α) (c : Channel) (v : α) : (p.set c v).get c = v := by cases c <;> rfl

theorem Duo.get_set_other {α : Type} (p : Duo α) (c d : Channel) (v : α) (h : d ≠ c) : (p.set c v).get d = p.get d := by
  cases c <;> cases d <;> simp_all [Duo.set, Duo.get]

/-! Numbers. -/

/-- Saturation stays within its range. -/
theorem saturate_within (lo hi x : Int) (h : lo ≤ hi) : lo ≤ saturate lo hi x ∧ saturate lo hi x ≤ hi := by
  unfold saturate; split <;> [simp [h]; (split <;> omega)]

/-- Saturation leaves a value of the range as it is. -/
theorem saturate_inside (lo hi x : Int) (h1 : lo ≤ x) (h2 : x ≤ hi) : saturate lo hi x = x := by
  unfold saturate; split <;> [omega; (split <;> omega)]

/-- Two's complement there and back. -/
theorem toSigned_ofSigned (v : Int) (h : isSigned16 v) : toSigned (ofSigned v) = v := by
  unfold toSigned ofSigned isSigned16 at *; split <;> omega

/-- The effective target never exceeds the ceiling (R133). -/
theorem effectiveTarget_le (t : PumpSettings) (m : Mode) (level : Nat) : effectiveTarget t m level ≤ t.ceiling := by
  unfold effectiveTarget; exact Nat.min_le_right _ _

/-- R69: the filter's next accumulator lies between the accumulator and the sample. -/
theorem filterStep_between (avg v : Int) (k : Nat) :
    (avg ≤ v → avg ≤ filterStep avg v k ∧ filterStep avg v k ≤ v) ∧
      (v ≤ avg → v ≤ filterStep avg v k ∧ filterStep avg v k ≤ avg) := by
  unfold filterStep
  have hp : (1 : Int) ≤ ((2 ^ k : Nat) : Int) := by exact_mod_cast Nat.one_le_two_pow
  generalize ((2 ^ k : Nat) : Int) = n at *
  constructor
  · intro h
    have h1 : 0 ≤ (v - avg) / n := Int.ediv_nonneg (by omega) (by omega)
    have h2 : (v - avg) / n ≤ v - avg := Int.ediv_le_self _ (by omega)
    omega
  · intro h
    have h1 : (v - avg) / n ≤ 0 := by
      have := Int.ediv_le_ediv (a := v - avg) (b := 0) (c := n) (by omega) (by omega); simpa using this
    have h2 : v - avg ≤ (v - avg) / n := by
      rw [Int.le_ediv_iff_mul_le (by omega)]; nlinarith
    omega

/-! Points. -/

/-- A point read after its write. -/
theorem point_writePoint_same (i : Nat) (v : Int) (x : Validity) (s : State) (h : i < s.points.recs.length) :
    (writePoint i v x s).point i = ⟨v, x, 0⟩ := by
  simp [writePoint, PointTable.write, State.point, List.getD_eq_getElem?_getD, h]

/-- Another point read after a write. -/
theorem point_writePoint_other (i j : Nat) (v : Int) (x : Validity) (s : State) (h : j ≠ i) :
    (writePoint i v x s).point j = s.point j := by
  simp [writePoint, PointTable.write, State.point, List.getD_eq_getElem?_getD, Ne.symm h]

@[simp] theorem writePoint_recs_length (i : Nat) (v : Int) (x : Validity) (s : State) :
    (writePoint i v x s).points.recs.length = s.points.recs.length := by simp [writePoint, PointTable.write]

/-! Insert queues. -/

/-- R19, R20: an offer to a queue with room. -/
theorem offer_room (alert : Bool) (q : Queued) (p : LinePort) (h : p.queue.length < queueCap) :
    p.offer alert q = { p with queue := p.queue ++ [q] } := by simp [LinePort.offer, h]

/-- R19, R20: whatever is offered, the queue keeps what it had in order and gains at most one message, and nothing else but
the two loss counters differs. -/
theorem offer_spec (alert : Bool) (q : Queued) (p : LinePort) :
    ((p.offer alert q).queue = p.queue ++ [q] ∧ p.queue.length < queueCap ∨
        (p.offer alert q).queue = p.queue ∧ queueCap ≤ p.queue.length) ∧
      (p.offer alert q).relay = p.relay ∧ (p.offer alert q).sync = p.sync ∧ (p.offer alert q).lineState = p.lineState ∧
      (p.offer alert q).rfmRun = p.rfmRun := by
  unfold LinePort.offer; split <;> [simp_all; (split <;> simp_all)]

/-! The Control Port. -/

/-- R144: a placement adds no second word for a device and register. -/
theorem joinWord_keys (w : PortWord) (l : List PortWord) :
    ((joinWord w l).map (fun x => (x.device, x.register)) = l.map (fun x => (x.device, x.register)) ∧
        (w.device, w.register) ∈ l.map (fun x => (x.device, x.register))) ∨
      (joinWord w l = l ++ [w] ∧ (w.device, w.register) ∉ l.map (fun x => (x.device, x.register))) := by
  induction l with
  | nil => simp [joinWord]
  | cons x l ih =>
    simp only [joinWord]
    split
    · rename_i h; left; simp [h.1, h.2]
    · rename_i h
      have hne : (w.device, w.register) ≠ (x.device, x.register) := by
        intro e; exact h ⟨(congrArg Prod.fst e).symm, (congrArg Prod.snd e).symm⟩
      rcases ih with ⟨h1, h2⟩ | ⟨h1, h2⟩
      · left; exact ⟨by simp [h1], by simpa using Or.inr h2⟩
      · right; exact ⟨by simp [h1], by simpa [hne] using h2⟩

/-- The word taken of a class is of that class and the rest is the others in order. -/
theorem takeClass_spec (c : WordClass) (l : List PortWord) (w : PortWord) (r : List PortWord)
    (h : takeClass c l = some (w, r)) : w.cls = c ∧ l.Perm (w :: r) ∧ r.Sublist l := by
  induction l generalizing r with
  | nil => simp [takeClass] at h
  | cons x l ih =>
    simp only [takeClass] at h
    split at h
    · obtain ⟨rfl, rfl⟩ := by simpa using h
      exact ⟨by assumption, List.Perm.refl _, List.sublist_cons_self _ _⟩
    · split at h
      · rename_i y r' heq
        obtain ⟨rfl, rfl⟩ := by simpa using h
        obtain ⟨h1, h2, h3⟩ := ih _ heq
        exact ⟨h1, (List.Perm.cons x h2).trans (List.Perm.swap y x r'), h3.cons_cons x⟩
      · simp at h

/-- No word of a class is left when none can be taken. -/
theorem takeClass_none (c : WordClass) (l : List PortWord) (h : takeClass c l = none) : ∀ w ∈ l, w.cls ≠ c := by
  induction l with
  | nil => simp
  | cons x l ih =>
    simp only [takeClass] at h
    split at h
    · simp at h
    · split at h
      · simp at h
      · rename_i hx _ hn
        intro w hw
        rcases List.mem_cons.1 hw with rfl | hw
        · exact hx
        · exact ih hn w hw

/-- The arbiter leaves a set empty only when it was (R145). -/
theorem chooseWord_none (l : List PortWord) (h : chooseWord l = none) : l = [] := by
  unfold chooseWord at h
  cases h1 : takeClass .safety l with
  | some r => simp [h1] at h
  | none =>
    cases h2 : takeClass .pump l with
    | some r => simp [h1, h2] at h
    | none =>
      simp [h1, h2] at h
      cases l with
      | nil => rfl
      | cons x l =>
        have a := takeClass_none _ _ h1 x (by simp)
        have b := takeClass_none _ _ h2 x (by simp)
        have c := takeClass_none _ _ h x (by simp)
        cases hx : x.cls <;> simp_all

/-! Filling a frame (R22). -/

/-- R22: what a source gives and what it keeps: a split of it, the part given fitting the room. -/
theorem fillFrom_spec {α : Type} (size : α → Nat) (room : Nat) (l : List α) :
    (fillFrom size room l).1 ++ (fillFrom size room l).2 = l ∧ ((fillFrom size room l).1.map size).sum ≤ room ∧
      ∀ x ∈ (fillFrom size room l).2.head?, room < ((fillFrom size room l).1.map size).sum + size x := by
  induction l generalizing room with
  | nil => simp [fillFrom]
  | cons x l ih =>
    simp only [fillFrom]
    split
    · rename_i h
      obtain ⟨h1, h2, h3⟩ := ih (room - size x)
      refine ⟨by simp [h1], by simp; omega, ?_⟩
      intro y hy
      have := h3 y hy
      simp; omega
    · rename_i h
      refine ⟨by simp, by simp, ?_⟩
      intro y hy
      have : y = x := by simpa using Eq.symm (Option.mem_some_iff.1 (by simpa using hy))
      simp [this]; omega

/-! Outputs and the shed level. -/

@[simp] theorem resolveOutputs_levels (s : State) : (resolveOutputs s).outputs.levels = (List.range 7).map s.outLevel := rfl

/-- R155: after a recomputation the level in force is what its sources give. -/
theorem recomputeShed_level (s : State) : (recomputeShed s).supply.level = s.shedLevel := by
  unfold recomputeShed
  split
  · simp_all
  · simp [resolveOutputs, retargetPumps, applyPump, writePoint]

/-- R155: a recomputation touches nothing of the supply but the level. -/
theorem recomputeShed_supply (s : State) : (recomputeShed s).supply = { s.supply with level := s.shedLevel } := by
  unfold recomputeShed
  split
  · rename_i h; rw [h]
  · simp [resolveOutputs, retargetPumps, applyPump, writePoint]

/-- R155, R159: what a recomputation at a RESTART does to the supply: the level is what its sources give, and a change of it
stands handed. -/
theorem recomputeAtRestart_supply (s : State) :
    (recomputeAtRestart s).supply =
      { s.supply with level := s.shedLevel, handed := s.supply.handed || decide (s.shedLevel ≠ s.supply.level) } := by
  unfold recomputeAtRestart
  split
  · rename_i h; simp [h]
  · rename_i h; simp [h]

/-- R97: of the points, a recomputation at a RESTART writes point 39 alone. -/
theorem recomputeAtRestart_point (s : State) (i : Nat) (hi : i ≠ 39) : (recomputeAtRestart s).point i = s.point i := by
  unfold recomputeAtRestart
  split
  · rfl
  · simp [State.point, resolveOutputs, writePoint, PointTable.write, List.getD_eq_getElem?_getD, hi.symm]

/-- R133: at a recomputation at a RESTART a channel keeps all but its target, which a change of the level sets. -/
theorem recomputeAtRestart_pump (s : State) (c : Channel) :
    (recomputeAtRestart s).pumps.get c =
      if s.shedLevel = s.supply.level then s.pumps.get c else (s.pumps.get c).aim s.shedLevel := by
  unfold recomputeAtRestart
  split
  · simp [resolveOutputs]
  · cases c <;> simp [resolveOutputs, aimPumps, writePoint, Duo.get]

/-- R133: a channel that catches up keeps its target. -/
theorem catchUp_target (now : Nat) (p : Pump) : (p.catchUp now).pump.target = p.target := by
  unfold Pump.catchUp Pump.follow Pump.enterRamp
  repeat' split
  all_goals rfl

/-- R133, R135: a channel in RUN or PROBE that has caught up runs at its target. -/
theorem catchUp_atTarget (now : Nat) (p : Pump) : (p.catchUp now).pump.atTarget := by
  unfold Pump.catchUp Pump.follow Pump.enterRamp
  repeat' split
  all_goals simp_all [Pump.atTarget]

/-- R133: once both channels have acted on a handed level they keep their targets, and those in RUN and PROBE run at them. -/
theorem takeHandedLevel_pump (s : State) (c : Channel) :
    (takeHandedLevel s).pumps.get c = ((s.pumps.get c).catchUp s.now).pump := by
  cases c <;> simp [takeHandedLevel, applyPump, Duo.get, Duo.set]

/-- A pump event taken: the channel is the event's result, the other channel stands. -/
theorem applyPump_pump (c d : Channel) (r : PumpResult) (s : State) :
    (applyPump c r s).pumps.get d = if d = c then r.pump else s.pumps.get d := by
  cases c <;> cases d <;> rfl

/-! Lists of alarms. -/

/-- The list without a condition holds no entry of it. -/
theorem without_index (i : Nat) (l : List Standing) : ∀ e ∈ without i l, e.index ≠ i ∧ e ∈ l := by
  intro e he; simpa [without, and_comm] using he

/-- An acknowledgement leaves a selection of the list's conditions, in order. -/
theorem acknowledge_indices (w : Option Nat) (l : List Standing) :
    ((acknowledge w l).map Standing.index).Sublist (l.map Standing.index) := by
  induction l with
  | nil => simp [acknowledge]
  | cons e l ih =>
    unfold acknowledge at *
    simp only [List.filterMap_cons]
    split
    · exact List.Sublist.cons _ ih
    · rename_i b hb
      have : b.index = e.index := by
        split at hb
        · unfold ackEntry at hb; split at hb <;> simp_all; rw [← hb]
        · simp_all
      simp only [List.map_cons, this]
      exact ih.cons_cons _

end Sys2Proof.Machine
end

