-- ==== Sys2Proof/Laws/SerialPort.lean ====
section
/-! SUPPORT. The Control Port's shift register: what one clock does to it, and how many clocks a transfer has. -/

namespace Sys2Proof.Machine

/-- R143: a clock moves every bit one place up, and the bit sampled stands in bit 0. -/
theorem shiftClock_bit (r : BitVec 16) (b : Bool) (i : Nat) :
    (shiftClock r b).getLsbD i = if i = 0 then b else decide (i < 16) && r.getLsbD (i - 1) := by
  unfold shiftClock
  rcases i with _ | i
  · simp
  · by_cases h : i < 15
    · simp [h]
      omega
    · simp [h]
      omega

/-- R143: a clock presents for the next one the bit below the one it has presented. -/
theorem shiftClock_msb (r : BitVec 16) (b : Bool) : (shiftClock r b).msb = r.getLsbD 14 := by
  rw [BitVec.msb_eq_getLsbD_last, shiftClock_bit]; simp

/-- R143: one clock for each bit sampled. -/
@[simp] theorem clockSignals_length (r : BitVec 16) (l : List Bool) : (clockSignals r l).length = l.length := by
  induction l generalizing r with
  | nil => rfl
  | cons b l ih => simp [clockSignals, ih]

end Sys2Proof.Machine
end

