-- ==== Sys2Proof/Laws/Store.lean ====
section
/-! SUPPORT. The EEPROM a store has written: its pages, and that StoreLawful holds over it at the read-back and before the
last page write. -/

namespace Sys2Proof.Machine

/-- The EEPROM a store of a buffer has written up to its read-back. -/
def written (buf : List Byte) : List Host.Cell := writeBytes [] 0 (buf ++ List.replicate 7 0)

/-- The data of a step from 2 on are its page of the buffer filled up with 00h. -/
theorem stepData_eq (buf : List Byte) (h : buf.length = 1625) (k : Nat) (h1 : 2 ≤ k) (h2 : k ≤ 52) :
    stepData buf k = ((buf ++ List.replicate 7 0).drop (32 * stepPage k)).take 32 := by
  have hp : stepPage k ≤ 50 := by unfold stepPage; split <;> omega
  have hl : (buf.drop (32 * stepPage k)).length = 1625 - 32 * stepPage k := by simp [h]
  rw [stepData, if_neg (by omega), padTo, List.drop_append_of_le_length (by omega), hl]
  by_cases hc : stepPage k = 50
  · rw [hc]
  · rw [List.take_append_of_le_length (by omega), List.take_append_of_le_length (by omega)]

/-- The EEPROM written holds every page from step 2 on. -/
theorem written_pages (buf : List Byte) (h : buf.length = 1625) (k : Nat) (h1 : 2 ≤ k) (h2 : k ≤ 52) :
    readBytes (written buf) (32 * stepPage k) 32 = stepData buf k := by
  have hp : stepPage k ≤ 50 := by unfold stepPage; split <;> omega
  rw [stepData_eq buf h k h1 h2]
  apply List.ext_getElem
  · simp [readBytes, h]; omega
  · intro i hi _
    have hi' : i < 32 := by simpa [readBytes] using hi
    have := readByte_writeBytes_inside [] 0 (buf ++ List.replicate 7 0) (32 * stepPage k + i) (by simp [h]; omega) rfl
    simpa [readBytes, written, List.getElem_take, List.getElem_drop] using this

/-- A store at its read-back over the EEPROM it has written obeys the laws. -/
theorem lawful_at_readBack (s : State) (buf : List Byte) (m : Sender) (hs : s.loader.store = some ⟨buf, 52, .readBack⟩)
    (hb : buf = s.tables.image) (hl : buf.length = 1625) (hm : s.eeprom = written buf) (ha : s.agent.store = some m)
    (hn : s.loader.autoload = none) : StoreLawful s := by
  refine ⟨by simp [hs, ha], by simp [hn], ⟨?_, ?_⟩, ?_⟩
  · rw [hm]; exact canonical_writeBytes [] 0 _ rfl
  · rw [hm]
    intro c hc
    rcases mem_writeBytes _ _ _ c hc with h | h
    · simp only [List.length_append, List.length_replicate] at h
      omega
    · simp at h
  · intro st hst
    have : st = ⟨buf, 52, .readBack⟩ := by rw [hs] at hst; exact (Option.some.inj hst).symm
    subst this
    refine ⟨hb, by simp, by simp, by simp, ?_, ?_⟩
    · intro k hk _
      by_cases h0 : k = 0
      · exact .inl ⟨h0, rfl⟩
      · have := List.mem_range.1 hk
        rw [hm]
        exact .inr (written_pages buf hl (k + 1) (by omega) (by omega))
    · intro _
      rw [hm]
      exact written_pages buf hl 52 (by omega) (by omega)

/-- The EEPROM a store of a buffer has written before step 52: page 0 without its signature. -/
def writtenUnsigned (buf : List Byte) : List Host.Cell := writeBytes (written buf) 0 [0x00, 0x00]

/-- A read of a page past page 0 does not see the signature bytes. -/
theorem readBytes_unsigned (buf : List Byte) (a n : Nat) (ha : 2 ≤ a) :
    readBytes (writtenUnsigned buf) a n = readBytes (written buf) a n := by
  apply List.map_congr_left
  intro i _
  exact readByte_writeBytes_outside _ _ _ _ (.inr (by simp only [List.length_cons, List.length_nil]; omega))

/-- Page 0 without its signature is the data of step 1. -/
theorem unsigned_page0 (buf : List Byte) (h : buf.length = 1625) :
    readBytes (writtenUnsigned buf) (32 * stepPage 1) 32 = stepData buf 1 := by
  have hw : canonical (written buf) = true := canonical_writeBytes [] 0 _ rfl
  have hd : stepData buf 1 = [0x00, 0x00] ++ (buf.take 32).drop 2 := by
    rw [stepData, if_pos rfl, padTo]
    simp only [stepPage]
    rw [if_neg (by omega), Nat.sub_self, Nat.mul_zero, List.drop_zero, List.take_append_of_le_length (by omega)]
  rw [hd]
  apply List.ext_getElem
  · simp [readBytes, h]
  · intro i hi _
    have hi' : i < 32 := by simpa [readBytes] using hi
    have e0 : 32 * stepPage 1 = 0 := rfl
    by_cases h2 : i < 2
    · have h3 := readByte_writeBytes_inside (written buf) 0 [0x00, 0x00] i (by simpa using h2) hw
      rw [List.getElem_append_left (by simpa using h2)]
      simpa [readBytes, writtenUnsigned, e0] using h3
    · have h3 := readByte_writeBytes_outside (written buf) 0 [0x00, 0x00] i
        (.inr (by simp only [List.length_cons, List.length_nil]; omega))
      have h4 := readByte_writeBytes_inside [] 0 (buf ++ List.replicate 7 0) i (by simp [h]; omega) rfl
      rw [List.getElem_append_right (by simp only [List.length_cons, List.length_nil]; omega)]
      rw [List.getElem_append_left (by omega)] at h4
      simp only [List.length_cons, List.length_nil, List.getElem_drop, List.getElem_take]
      have h5 : 0 + 1 + 1 + (i - (0 + 1 + 1)) = i := by omega
      simp only [readBytes, List.getElem_map, List.getElem_range, e0, Nat.zero_add, h5]
      simpa [writtenUnsigned, written] using h3.trans (by simpa [written] using h4)

/-- A store before its last two page writes, over the EEPROM it has written so far and old pages, obeys the laws. -/
theorem lawful_before_signature (s : State) (buf : List Byte) (m : Sender) (k : Nat) (hk1 : 51 ≤ k) (hk2 : k ≤ 52)
    (hs : s.loader.store = some ⟨buf, k, .writing⟩) (hb : buf = s.tables.image) (hl : buf.length = 1625)
    (hm : s.eeprom = writtenUnsigned buf) (ha : s.agent.store = some m) (hn : s.loader.autoload = none) : StoreLawful s := by
  refine ⟨by simp [hs, ha], by simp [hn], ⟨?_, ?_⟩, ?_⟩
  · rw [hm]; exact canonical_writeBytes _ 0 _ (canonical_writeBytes [] 0 _ rfl)
  · rw [hm]
    intro c hc
    rcases mem_writeBytes _ _ _ c hc with h | h
    · simp only [List.length_cons, List.length_nil] at h
      omega
    · rcases mem_writeBytes _ _ _ c h with h | h
      · simp only [List.length_append, List.length_replicate] at h
        omega
      · simp at h
  · intro st hst
    have : st = ⟨buf, k, .writing⟩ := by rw [hs] at hst; exact (Option.some.inj hst).symm
    subst this
    refine ⟨hb, by dsimp only; omega, hk2, by simp, ?_, ?_⟩
    · intro j hj hc
      have := List.mem_range.1 hj
      right
      show readBytes s.eeprom (32 * stepPage (j + 1)) 32 = stepData buf (j + 1)
      rw [hm]
      by_cases h0 : j = 0
      · subst h0; exact unsigned_page0 buf hl
      · rw [readBytes_unsigned buf _ _ (by simp only [stepPage]; split <;> omega)]
        exact written_pages buf hl (j + 1) (by omega) (by omega)
    · intro hc
      simp only [Store.committed] at hc
      omega

/-- A store at step 1 over an EEPROM nothing was stored in obeys the laws. -/
theorem lawful_at_start (s : State) (st : Store) (m : Sender) (hs : s.loader.store = some st) (h1 : st.step = 1)
    (hp : st.phase ≠ .readBack) (hb : st.buffer = s.tables.image) (hm : s.eeprom = []) (ha : s.agent.store = some m)
    (hn : s.loader.autoload = none) : StoreLawful s := by
  have hc : st.committed = 0 := by
    unfold Store.committed
    split
    · contradiction
    · omega
    · omega
  refine ⟨by simp [hs, ha], by simp [hn], ⟨by rw [hm]; rfl, by simp [hm]⟩, ?_⟩
  intro t ht
  obtain rfl : t = st := by rw [hs] at ht; exact (Option.some.inj ht).symm
  exact ⟨hb, by omega, by omega, fun h => absurd h hp, fun k _ hk => by omega, fun h => by omega⟩

end Sys2Proof.Machine
end

