-- ==== Sys2Proof/Laws/TwoWire.lean ====
section
/-! SUPPORT. The two-wire bus: what a byte and a read transaction come to, and where they can fail. -/

namespace Sys2Proof.Machine

@[simp] theorem sendByte_length (b : Byte) : (sendByte b).length = 9 := rfl
@[simp] theorem receiveByte_length (a : Bool) : (receiveByte a).length = 9 := rfl

/-- R74: a byte the part sends ends with its one acknowledge clock. -/
theorem sendByte_await (b : Byte) (n : Nat) : (sendByte b)[n]? = some .awaitAcknowledge ↔ n = 8 := by
  rcases n with _ | _ | _ | _ | _ | _ | _ | _ | _ | n <;> simp [sendByte, List.range_succ]

/-- R75: the part awaits no acknowledge of a byte it receives. -/
theorem receiveByte_await (a : Bool) : BusSignal.awaitAcknowledge ∉ receiveByte a := by
  cases a <;> decide

/-- R75: the part awaits no acknowledge in the data phase. -/
theorem data_await (r : BusRead) : BusSignal.awaitAcknowledge ∉ r.phase .data := by
  simp only [BusRead.phase, List.mem_append, List.mem_flatten, List.mem_replicate, not_or, not_exists, not_and]
  exact ⟨fun l h => h.2 ▸ receiveByte_await true, receiveByte_await false⟩

/-- R75: a not-acknowledge that ends a sensor's read is one some sensor's read can have. -/
theorem mayFail_inPhase (e : PollEntry) (f : ReadFailure) (h : e.busRead.mayFail f = true) : f.inPhase = true := by
  have hd : ∀ n : Nat, (e.busRead.phase .data)[n]? ≠ some .awaitAcknowledge := fun n hn =>
    data_await _ (List.mem_of_getElem? hn)
  rcases f with ⟨ph, n⟩ | ⟨ph, n⟩
  · cases ph <;> simp only [BusRead.mayFail, beq_iff_eq, ReadFailure.inPhase] at h ⊢
    · rcases n with _ | n <;> simp [BusRead.phase] at h
    · exact (sendByte_await _ n).1 h
    · simpa [BusRead.phase, PollEntry.busRead, sendByte_await] using h
    · rcases n with _ | n <;> simp [BusRead.phase] at h
    · exact (sendByte_await _ n).1 h
    · exact absurd h (hd n)
    · rcases n with _ | n <;> simp [BusRead.phase] at h
  · rfl

/-- R161: an autoload's read position is within the image. -/
theorem position_le (t : Nat) (l : Autoload) : ∀ n ∈ l.position t, n ≤ imageLength := by
  intro n hn
  obtain ⟨t0, -, rfl⟩ := Option.map_eq_some_iff.1 hn
  exact Nat.min_le_left _ _

end Sys2Proof.Machine
end

