-- ==== Sys2Proof/Tests/Slice0.lean ====
section
/-! SUPPORT. Tests: the smoke of WellFormed, the manual's worked examples, and for each statement with hypotheses a
concrete state and operands that meet them. -/

namespace Sys2Proof.Tests

set_option Elab.async false

open Sys2Proof Sys2Proof.Machine

/-! Helpers. -/

/-- The state a command leaves, or the state itself where it stops. -/
def next (i : Instr) (s : State) : State := match exec i s with | .next t => t | _ => s

/-- Head Station A, a command for this hut. -/
def headA : Sender := ⟨62, 7, .mine, .a⟩

/-- The state after reset with the autoload ended and the control side at Head Station A. -/
def ready : State :=
  { State.reset with
    loader := { State.reset.loader with autoload := none }, agent := { State.reset.agent with control := some .a } }

/-- `ready` with one point record. -/
def withPoint (i : Nat) (v : Int) (x : Validity) (s : State) : State :=
  { s with points := { s.points with recs := s.points.recs.set i ⟨v, x, 0⟩ } }

/-- A frame of a header with RFM and launch 1750, and messages. -/
def frameOf (ms : List Message) : List Byte :=
  buildFrame ⟨1, 2, false, true, true, 0, 1750, (ms.flatMap Message.bytes).length⟩ (ms.flatMap Message.bytes)

/-- A BEAT of Head Station A, hop budget 5. -/
def beatMessage : Message := ⟨4, 61, 62, 5, 0, [0, 0, 1, 0]⟩

/-- `s` with a port replaced. -/
def withPort (p : Side) (f : LinePort → LinePort) (s : State) : State := s.setPort p (f (s.at p))

/-- `s` with a supply replaced. -/
def withSupply (f : Supply → Supply) (s : State) : State := { s with supply := f s.supply }

/-! WellFormed refuses an ill-formed command of each check. -/

theorem test_ill_formed_sync : (Instr.syncPatternFound .a 0 0x7A 0xC3 0x5F).wellFormed = false := by decide
theorem test_ill_formed_miss : (Instr.missedSync .a 0x7A 0xC3 0x5E).wellFormed = false := by decide
theorem test_ill_formed_errored_length : (Instr.erroredFrame .a [0x7A, 0xC3, 0x5E]).wellFormed = false := by decide
theorem test_ill_formed_good_frame : (Instr.goodFrameArrival .a (List.replicate 384 0)).wellFormed = false := by decide +kernel
theorem test_ill_formed_source : (Instr.identify ⟨64, 0, .mine, .a⟩ []).wellFormed = false := by decide
theorem test_ill_formed_long_payload : (Instr.identify headA (List.replicate 64 0)).wellFormed = false := by decide +kernel
theorem test_ill_formed_long_write : (Instr.writeScanList headA (List.replicate 63 0)).wellFormed = false := by decide +kernel
theorem test_ill_formed_other_table : (Instr.writeEntryOtherTable headA [12]).wellFormed = false := by decide
theorem test_ill_formed_unknown : (Instr.unknownCommand headA [0x11]).wellFormed = false := by decide
theorem test_ill_formed_unknown_class : (Instr.unknownCommand ⟨62, 0, .all, .a⟩ []).wellFormed = false := by decide
theorem test_ill_formed_ignored : (Instr.ignoredCommand headA [1]).wellFormed = false := by decide
theorem test_ill_formed_autoload_end :
    (Instr.autoloadReadDone (.lost (.notAcknowledged .addressWrite 8))).wellFormed = false := by decide
theorem test_ill_formed_read_back_end :
    (Instr.readBackDone (.lost (.notAcknowledged .register 7))).wellFormed = false := by decide
theorem test_ill_formed_sample : (Instr.brownOutEvent 32768).wellFormed = false := by decide
theorem test_ill_formed_reading : (Instr.transactionSuccess (List.replicate 7 true)).wellFormed = false := by decide
theorem test_ill_formed_failure : (Instr.transactionFailure (.notAcknowledged .data 8)).wellFormed = false := by decide

/-- R74: the data line of a byte sent, C2h, at the moments the clock is high, and of a start and a stop condition. -/
theorem test_bus_lines :
    (((sendByte 0xC2).flatMap BusSignal.lines).filter (fun x => x.clock)).map BusLines.data =
        [true, true, false, false, false, false, true, false, true] ∧
      edgesWhileHigh (BusSignal.start.lines ++ BusSignal.stop.lines) = [false, true] := by decide

/-- A table row carries no bits, so no word spells a command. -/
theorem test_no_word_spells_a_command : decodeTableWord 16 0x1234 = none := by decide

/-! Worked examples of the manual. -/

/-- The check value of the CRC-16 of section 4 of the scope file for the digits 1 to 9. -/
theorem test_crc_of_digits : crc16 [0x31, 0x32, 0x33, 0x34, 0x35, 0x36, 0x37, 0x38, 0x39] = 0x29B1#16 := by decide +kernel

/-- Section 3.9: codes on the built-in curve 0. -/
theorem test_curve_worked :
    curveConvert builtinCurve.used 1000 = (-2175, .valid) ∧ curveConvert builtinCurve.used 1100 = (-2012, .valid) ∧
      curveConvert builtinCurve.used 150 = (-4000, .under) := by decide

/-- Section 3.9: the filter of AN0 and of AN8. -/
theorem test_filter_worked :
    filterStep (-2100) (-2175) 2 = -2119 ∧ filterStep (-2144) (-4000) 2 = -2608 ∧ filterStep 4810 4807 2 = 4809 ∧
      filterStep 4804 4807 2 = 4804 := by decide

/-- Section 3.9: linear conversion. -/
theorem test_linear_worked :
    linear 2930 0 1680 = (4807, .valid) ∧ linear 65535 0 4095 = (32767, .over) ∧ linear 512 0 (-3) = (-2, .valid) := by decide

/-- R151: 56.00 °C is HOT, HOT is left at 53.00 °C, WARM at 43.00 °C. -/
theorem test_zone_worked :
    zoneOf builtinSupply .normal 5600 = .hot ∧ zoneOf builtinSupply .hot 5301 = .hot ∧
      zoneOf builtinSupply .hot 5300 = .warm ∧ zoneOf builtinSupply .warm 4301 = .warm ∧
      zoneOf builtinSupply .warm 4300 = .normal := by decide

/-- Section 9.8: the voltage level through a night. -/
theorem test_voltage_level_worked :
    voltageLevelOf builtinSupply 0 4798 = 1 ∧ voltageLevelOf builtinSupply 3 4650 = 2 ∧
      voltageLevelOf builtinSupply 2 4750 = 1 ∧ voltageLevelOf builtinSupply 1 4850 = 0 := by decide

/-- Section 9.8: qualification at Voc 62.40 V and the words it places. -/
theorem test_qualification_worked :
    let u : Supply :=
      { Supply.powerOn with inUse := { builtinSupply with arrayCode := 1 }, pv := .testing, voc := 6240, testAt := some 0 }
    let v := u.testExpiry 0 ⟨5120, .valid, 0⟩
    v.pv = .qualified ∧ v.hold = 4992 ∧ v.limit = 2000 ∧ v.stage = .bulk ∧
      (chargeWords u v).map (fun w => w.value) = [200, 2820, 1] := by decide

/-- Section 8.8: BOOST at shed levels 1, 2 and 4. -/
theorem test_effective_target_worked :
    effectiveTarget builtinPump .boost 1 = 900 ∧ effectiveTarget builtinPump .boost 2 = 600 ∧
      effectiveTarget builtinPump .boost 4 = 300 := by decide

/-- Section 1.9: what a transmit event of port B takes of M1 to M6 and Q1 to Q3. -/
theorem test_frame_fill_worked :
    let m (n : Nat) : Message := ⟨1, 62, 5, 1, 0, List.replicate (n - 6) 0⟩
    let q (n : Nat) : Queued := ⟨m n, false⟩
    let s := withPort .a (fun p => { p with relay := [m 70, m 70, m 70, m 70, m 50, m 70] })
      (withPort .b (fun p => { p with queue := [q 18, q 34, q 18] }) State.reset)
    let f := fillFrame s .b
    (f.relayed.map Message.size, f.inserted.map (fun x => x.msg.size), f.relayLeft.map Message.size,
      f.queueLeft.map (fun x => x.msg.size)) = ([70, 70, 70, 70, 50], [18], [70], [34, 18]) := by decide +kernel

/-- Section 1.8: the appends of hut 22 and hut 24, and the sixteenth entry refused. -/
theorem test_survey_worked :
    let hut (a : Byte) (e : List Byte) : RelayView := ⟨a, builtinActions, 63, e⟩
    surveyAppend (hut 21 [21, 0, 0, 1]) [21, 0, 0] = [21, 0, 0] ∧
      surveyAppend (hut 22 [22, 0, 0, 1]) [21, 0, 0] = [21, 1, 0, 22, 0, 0, 1] ∧
      surveyAppend (hut 0 [0, 0, 0, 0]) [21, 1, 0, 22, 0, 0, 1] = [21, 1, 0, 22, 0, 0, 1] ∧
      surveyAppend (hut 24 [24, 1, 2, 0]) [21, 1, 0, 22, 0, 0, 1] = [21, 2, 0, 22, 0, 0, 1, 24, 1, 2, 0] ∧
      surveyAppend (hut 60 [60, 0, 0, 0]) ([0, 15, 0] ++ List.replicate 60 1) = [0, 15, 1] ++ List.replicate 60 1 := by
  decide +kernel

/-- Section 2.5: READ POINTS from 40 with count 12 answers six points, PARTIAL. -/
theorem test_read_points_worked :
    (((next (.readPoints headA [40, 12]) ready).at .a).queue.map (fun q => (q.msg.payload.take 4, q.msg.payload.length))) =
      [([0x06, byteOf Status.partially.code, 40, 6], 4 + 24)] := by decide +kernel

/-- The image has the signature, format and length of R160, and 1625 bytes. -/
theorem test_image_head :
    builtinTables.image.take 5 = [0xC2, 0x46, 0x01, 0x06, 0x59] ∧ builtinTables.image.length = 1625 := by decide +kernel

/-! Witnesses: for each statement with hypotheses, states and operands that meet them, clause by clause. -/

/-- StepRunsFrontCommand, and step takes it. -/
theorem test_witness_StepRunsFrontCommand :
    let s : State := { State.reset with pending := [.hutTimeTick, .pass] }
    s.pending = .hutTimeTick :: [.pass] ∧ step s = exec .hutTimeTick { s with pending := [.pass] } := by
  exact ⟨rfl, rfl⟩

theorem test_witness_WellFormedCommandsAlwaysRun :
    Instr.wellFormed .pass = true ∧ (Instr.pageWriteDone (.refusedAt 34)).wellFormed = true ∧
      (Instr.brownOutEvent 32767).wellFormed = true ∧ (Instr.identify ⟨63, 0, .mine, .a⟩ (List.replicate 63 0)).wellFormed = true := by
  decide +kernel

theorem test_witness_IdleStepTakesHandedWorkInOrder :
    let handed : State := { State.reset with inbox := [⟨.beat, headA, [0, 0, 0, 1]⟩], brownOuts := [4000] }
    let brown : State := { State.reset with brownOuts := [4000] }
    let due : State := { State.reset with poll := State.reset.poll.setRun 11 ⟨.due, 0, none⟩ }
    let shed : State := withSupply (fun u => { u with level := 4, brownHold := 4, handed := true }) State.reset
    let run : Pump := { State.reset.pumps.ab with state := .run, target := 300, current := 600 }
    let off : State := { shed with pumps := ⟨run, { run with state := .probe }⟩ }
    shed.pending = [] ∧ shed.supply.handed = true ∧ handed.supply.handed = false ∧ handed.pending = [] ∧
      handed.inbox ≠ [] ∧ brown.inbox = [] ∧ brown.brownOuts ≠ [] ∧ due.poll.op = none ∧
      due.poll.firstDue = some 11 ∧ State.reset.poll.firstDue = none ∧
      (run.state = .run ∧ run.current ≠ run.target) ∧
      ((takeHandedLevel off).pumps.ab.state = .ramp ∧ (takeHandedLevel off).pumps.ba.current = 300) := by decide +kernel

theorem test_witness_PowerOnAndPinResetSetEveryBlock :
    State.reset.loader.store = none ∧ (next (.powerOnReset 60 0x81) State.reset).ownAddr = 60 ∧
      (next (.resetPin 61 0x81) State.reset).ownAddr = 0 ∧ (next (.resetPin 0 0x81) State.reset).ownAddr = 0 ∧
      ((next (.resetPin 1 0x81) State.reset).points.input 7).raw = true := by decide +kernel

/-- A forced shed level ends at the RESTART: the target of a channel in RUN is the new one, and its current stands. -/
theorem test_witness_RestartResetKeepsTrafficAndPumps :
    let s (r : Option RestartPending) : State := { State.reset with agent := { State.reset.agent with restart := r } }
    let forced := withSupply (fun u => { u with level := 3 }) (s (some ⟨.a, true⟩))
    let boosted := { forced with
      pumps := ⟨{ State.reset.pumps.ab with state := .run, mode := .boost, target := 600, current := 600 }, State.reset.pumps.ba⟩ }
    (next (.restartReset 1) forced).supply.level = 0 ∧ (next (.restartReset 1) forced).supply.handed = true ∧
    ((next (.restartReset 1) boosted).pumps.ab.target = 900 ∧ (next (.restartReset 1) boosted).pumps.ab.current = 600) ∧
    (s none).points.recs.length = 46 ∧ (s (some ⟨.a, false⟩)).agent.restart ≠ none ∧
      (s (some ⟨.a, true⟩)).agent.restart = some ⟨.a, true⟩ ∧
      (next (.restartReset 1) (s (some ⟨.a, true⟩))).agent.restart = none := by decide +kernel

theorem test_witness_ReceiverFindsAndLosesAlignment :
    let at' (y : SyncState) (m : Nat) (l : LineState) : State :=
      withPort .a (fun q => { q with sync := y, missed := m, lineState := l, pos := 7 }) State.reset
    ((at' .hunt 0 .lost).at .a).pos ≤ 7 ∧ ¬((0x7A : Byte) = 0x7A ∧ (0xC3 : Byte) = 0xC3 ∧ (0x5F : Byte) = 0x5E) ∧
      ((at' .confirm 0 .lost).at .a).lineState = .lost ∧ ((at' .sync 1 .ok).at .a).missed + 1 < 3 ∧
      ((at' .sync 2 .ok).at .a).missed + 1 = 3 ∧ ((at' .sync 2 .ok).at .a).lineState ≠ .lost ∧
      ((next (.missedSync .a 0x7A 0xC3 0x5F) (at' .sync 2 .ok)).at .a).sync = .hunt ∧
      ((next (.missedSync .a 0x7A 0xC3 0x5F) (at' .sync 1 .ok)).at .a).sync = .sync := by decide +kernel

set_option maxRecDepth 100000 in
theorem test_witness_ErroredFramesAreCountedByTheWindow :
    let good := frameOf []
    let bad := good.set 383 0xEE
    let s := withPort .a (fun q => { q with sync := .sync, lineState := .ok, window := 10 }) State.reset
    good.length = 384 ∧ good.take 3 = [0x7A, 0xC3, 0x5E] ∧ crcGood good = true ∧ crcGood bad = false ∧ bad.length = 384 ∧
      (State.reset.at .a).sync ≠ .sync ∧ (s.at .a).lossMatches ∧ (State.reset.at .a).lossMatches ∧
      ((next (.erroredFrame .a bad) s).at .a).window = 11 ∧ ((next (.windowTimerExpiry .a) s).at .a).lineState = .degraded := by
  decide +kernel

set_option maxRecDepth 100000 in
theorem test_witness_GoodFrameHeaderIsRecorded :
    let f := frameOf [beatMessage]
    let s := withPort .a (fun q => { q with sync := .sync, lineState := .ok, rfmRun := 2 }) State.reset
    goodFrame f = true ∧ (frameHeader f).rfm = true ∧ (frameHeader f).launchValid = true ∧ (frameHeader f).launch = 1750 ∧
      (s.at .a).sync = .sync ∧ (s.at .a).rfmRun + 1 = 3 ∧ s.points.recs.length = 46 ∧
      (next (.goodFrameArrival .a f) s).inbox.length = 1 ∧
      (frameHeader (buildFrame ⟨1, 2, false, false, false, 0, 0, 0⟩ [])).launchValid = false := by decide +kernel

theorem test_witness_FrameMessagesAreTakenInOrder :
    let f := frameOf [beatMessage, beatMessage]
    let area := beatMessage.bytes ++ [1, 2, 3, 4, 5]
    let g := buildFrame ⟨1, 2, false, false, false, 0, 0, area.length⟩ area
    let over' := buildFrame ⟨1, 2, false, false, false, 0, 0, 371⟩ []
    areaLength < (frameHeader over').used ∧ (frameHeader f).used ≤ areaLength ∧
      (∀ m ∈ [beatMessage, beatMessage], m.inForm) ∧
      frameUsed f = [beatMessage, beatMessage].flatMap Message.bytes ++ [] ∧
      frameUsed g = [beatMessage].flatMap Message.bytes ++ [1, 2, 3, 4, 5] ∧ nextMessage [1, 2, 3, 4, 5] = none := by
  decide +kernel

/-- Any action may stand for any type, and the boundaries of a SURVEY's entry count. -/
theorem test_witness_MessageActionsAndSurveysAreApplied :
    let v (a : Action) : RelayView := ⟨1, List.replicate 32 a, 63, []⟩
    let m (t : Byte) (src : Byte) : Message := ⟨t, 1, src, 5, 0, [0, 0, 0]⟩
    let r : RelayIO := ⟨State.reset.ports, []⟩
    (∀ a ∈ [Action.discard, .forward, .consume, .copy], ∀ t ∈ [(1 : Byte), 2, 4, 5],
      (v a).actions.getD (4 * (t.toNat % 8) + 0) .discard = a) ∧
      destClass 1 1 = .mine ∧ (takeMessage (v .consume) .a (m 1 62) r).inbox.length = 1 ∧
      (takeMessage (v .copy) .b (m 4 62) r).ports.b.relay.length = 1 ∧ (m 5 62).src = headAddress .a ∧
      (m 5 5).src ≠ 62 ∧ (m 5 5).src ≠ 63 ∧ State.reset.ownAddr ≠ 0 ∧ (0 : Nat) < State.reset.ownAddr.toNat ∧
      (List.replicate 56 (0 : Byte)).length = 4 * 14 ∧ (List.replicate 60 (0 : Byte)).length = 4 * 15 ∧
      ¬(1 : Nat) < State.reset.ownAddr.toNat ∧ ([1, 2] : List Byte).length < 3 := by decide +kernel

set_option maxRecDepth 100000 in
theorem test_witness_SentFrameReadsBackWhole :
    MessagesInForm State.reset ∧ isSigned16 (State.reset.point (launchPoint .a)).value ∧
      goodFrame ((next (.transmitEvent .a) State.reset).at .a).sent = true ∧
      (frameHeader ((next (.transmitEvent .a) (next (.powerOnReset 9 0) State.reset)).at .a).sent).ufmOrigin = 9 := by decide +kernel

theorem test_witness_ContactIsRestartedAndRepliesAreQueued :
    let h : Handed := ⟨.beat, headA, [0, 0, 0, 1]⟩
    let s : State := { State.reset with inbox := [h] }
    s.inbox = h :: [] ∧ h.sender.source = headAddress .a ∧
      (⟨.beat, ⟨5, 0, .all, .b⟩, []⟩ : Handed).sender.source ≠ 62 := by decide +kernel

/-- The last short payload, the first whole one, of READ ENTRY; a controlled command without the control side. -/
theorem test_witness_EarlyRefusalsChangeNothingElse :
    headA.cls = .mine ∧ ready.ownAddr ≠ 0 ∧ 1 + ([1, 0] : List Byte).length < fixedPart 4 ∧
      fixedPart 4 ≤ 1 + ([1, 0, 1] : List Byte).length ∧ ready.agent.restart = none ∧ isControlled 17 = true ∧
      holdsControl ⟨63, 0, .mine, .b⟩ ready = false ∧
      ({ ready with agent := { ready.agent with restart := some ⟨.a, false⟩ } } : State).agent.restart ≠ none := by
  decide +kernel

theorem test_witness_PointsAndStandingAlarmsAreRead :
    reaches 3 false headA (0x06 :: 45 :: 12 :: []) ready ∧ ready.points.recs.length = 46 ∧
      reaches 2 false headA (0x07 :: 0 :: []) ready := by decide +kernel

theorem test_witness_IdentifyAndReadEntryAnswer :
    reaches 1 false headA (0x01 :: []) ready ∧ reaches 4 false headA (0x04 :: 12 :: 0 :: 4 :: []) ready := by decide +kernel

theorem test_witness_ClaimAndReleaseMoveTheControlSide :
    let free : State := { ready with agent := { ready.agent with control := none } }
    reaches 1 false headA (0x02 :: []) ready ∧ headA.source = headAddress .a ∧ ready.agent.control = some .a ∧
      free.agent.control = none ∧ reaches 1 false ⟨63, 0, .mine, .b⟩ (0x02 :: []) ready ∧
      ready.agent.control = some (otherSide .b) ∧ reaches 1 false ⟨5, 0, .mine, .a⟩ (0x03 :: []) ready := by decide +kernel

/-- The first entry bytes of a table. -/
def firstEntry (id : Nat) : List Byte := (builtinTables.entryBytes id).getD 0 []

/-- `ready` with the safety lock set. -/
def lockedState : State := { ready with agent := { ready.agent with lock := true } }

/-- `ready` with a store in flight. -/
def storing : State :=
  { ready with
    agent := { ready.agent with store := some headA },
    loader := { ready.loader with store := some ⟨builtinTables.image, 1, .writing⟩ } }

/-- Each refusal of WRITE ENTRY at a boundary: an entry one byte short, the index after the last, a bad mode. -/
theorem test_witness_WriteRefusalsComeInOrder :
    let loading : State := { State.reset with agent := ready.agent }
    otherTable [13, 0] = true ∧ reaches 3 true headA (0x05 :: [13, 0]) ready ∧
      reaches 3 true headA (0x05 :: byteOf 12 :: 0 :: []) ready ∧ ((firstEntry 12).take 2).length < entrySize 12 ∧
      ¬(firstEntry 1).length < entrySize 1 ∧ entryCount 1 ≤ (32 : Byte).toNat ∧ ¬entryCount 1 ≤ (31 : Byte).toNat ∧
      loading.loader.autoload ≠ none ∧ reaches 3 true headA (0x05 :: byteOf 1 :: 0 :: firstEntry 1) loading ∧
      lockRefuses 9 0 (firstEntry 9) lockedState = true ∧ lockRefuses 6 3 (firstEntry 6) lockedState = true ∧
      lockRefuses 6 0 (firstEntry 6) lockedState = false ∧ storing.agent.store ≠ none ∧
      reaches 3 true headA (0x05 :: byteOf 1 :: 0 :: firstEntry 1) storing ∧ entryAccepted 1 0 [4] = false ∧
      entryAccepted 1 4 [0] = false := by decide +kernel

/-- A write of the last entry of each of the twelve tables that its owner accepts. -/
theorem test_witness_AcceptedWriteReadsBackExactly :
    TablesLawful ready ∧ ∀ id ∈ [1, 2, 3, 4, 5, 6, 7, 8, 9, 10, 11, 12],
      writeReaches id headA (byteOf (entryCount id - 1)) (firstEntry id) ready ∧
        entryAccepted id (entryCount id - 1) ((firstEntry id).take (entrySize id)) = true := by
  refine ⟨?_, ?_⟩ <;> decide +kernel

/-- What the owner reads of an entry of tables 1 and 7 to 12, and that each write is reached. -/
theorem test_witness_AcceptedWriteReachesItsOwner :
    (∀ id ∈ [1, 7, 8, 9, 10, 11, 12], writeReaches id headA 0 (firstEntry id) ready) ∧ (∀ x ∈ [Side.a, .b], (ready.at x).lossMatches) ∧
      (readAction 0 ((firstEntry 1).take 1)).isSome = true ∧ (readShed ((firstEntry 7).take 1)).isSome = true ∧
      (readSupply ((firstEntry 8).take 43)).isSome = true ∧ (readPump ((firstEntry 9).take 15)).isSome = true ∧
      (readLine ((firstEntry 10).take 3)).isSome = true ∧ (readIdle 0 ((firstEntry 11).take 1)).isSome = true ∧
      (readManagement ((firstEntry 12).take 3)).isSome = true ∧ TablesLawful ready ∧ ready.points.recs.length = 46 := by
  refine ⟨?_, ?_, ?_, ?_, ?_, ?_, ?_, ?_, ?_, ?_, ?_⟩ <;> decide +kernel

theorem test_witness_SamplingWritesRestartSettling :
    TablesLawful ready ∧ writeReaches 2 headA 0 (firstEntry 2) ready ∧ (readScan ((firstEntry 2).take 19)).isSome = true ∧
      writeReaches 3 headA 15 (firstEntry 3) ready ∧ (readCalibration ((firstEntry 3).take 7)).isSome = true ∧
      writeReaches 4 headA 3 (firstEntry 4) ready ∧ (readCurve ((firstEntry 4).take 49)).isSome = true := by
  refine ⟨?_, ?_, ?_⟩ <;> decide +kernel

/-- A poll entry in use and an unused one, on a free bus, on a busy one, and on one whose read it marks. -/
theorem test_witness_PollWriteRestartsItsEntry :
    let e : List Byte := (firstEntry 5).set 0 127
    let o (k : BusOpKind) (i : Nat) : Option BusOp := some ⟨k, i, { builtinPoll with addr := 9 }, false⟩
    let busy : State :=
      { ready with poll := { (ready.poll.setRun 11 ⟨.active, 0, none⟩) with bus := .busy, op := o .read 11 } }
    TablesLawful ready ∧ PollLawful ready ∧ PollLawful busy ∧ ready.points.recs.length = 46 ∧
      writeReaches 5 headA 11 (firstEntry 5) ready ∧ writeReaches 5 headA 11 e busy ∧
      (readPollEntry ((firstEntry 5).take 12)).map PollEntry.addr = some 0 ∧
      (readPollEntry (e.take 12)).map PollEntry.addr = some 127 ∧ ready.poll.op = none ∧ busy.poll.op ≠ none := by
  refine ⟨?_, ?_, ?_, ?_, ?_⟩ <;> decide +kernel

theorem test_witness_ConditionWriteStartsItsConditionAgain :
    TablesLawful ready ∧ ListLawful ready ∧ EngineLawful ready ∧ writeReaches 6 headA 63 (firstEntry 6) ready ∧
      (readCondition 63 ((firstEntry 6).take 16)).isSome = true := by
  refine ⟨?_, ?_, ?_, ?_⟩ <;> decide +kernel

theorem test_witness_ForcingsAreSetAndTakenAtOnce :
    reaches 3 true headA (0x09 :: 6 :: 2 :: []) ready ∧ reaches 2 true headA (0x0A :: 4 :: []) ready ∧
      reaches 3 true headA (0x0B :: 2 :: 2 :: []) ready ∧ (6 : Byte).toNat ≤ 6 ∧ 6 < (7 : Byte).toNat ∧ (4 : Byte).toNat ≤ 4 ∧
      4 < (5 : Byte).toNat ∧ (5 : Byte) ≠ 0xFF ∧ (2 : Byte).toNat ≤ 2 ∧ 2 < (3 : Byte).toNat ∧
      (next (.forceShed headA [4]) ready).supply.level = 4 := by decide +kernel

/-- Durations 100 and 5000 ms are right, 99 and 5001 wrong, output 6 right, 7 wrong. -/
theorem test_witness_PulsesInvertUntilTheirEnd :
    let s : State := { ready with tables := { ready.tables with mgmt := { ready.tables.mgmt with remote := true } } }
    let d (hi lo : Byte) : Nat := hi.toNat * 256 + lo.toNat
    let wrong (o hi lo : Byte) : Prop := 6 < o.toNat ∨ d hi lo < 100 ∨ 5000 < d hi lo
    reaches 4 true headA (0x0C :: 6 :: 0 :: 100 :: []) s ∧ s.outputs.pulses.length = 7 ∧ ready.tables.mgmt.remote = false ∧
      ¬wrong 6 0 100 ∧ ¬wrong 6 19 136 ∧ wrong 6 0 99 ∧ wrong 6 19 137 ∧ wrong 7 0 100 ∧
      s.outputs.pulses.getD 6 none = none ∧ (next (.pulseOutput headA [6, 0, 100]) s).outputs.pulses.length = 7 ∧
      (next (.pulseOutput headA [6, 0, 100]) s).outputs.pulses.getD 6 none = some ⟨true, 100000⟩ := by decide +kernel

theorem test_witness_AcknowledgementMarksOrRemoves :
    reaches 2 true headA (0x08 :: 63 :: []) ready ∧ (63 : Byte).toNat ≤ 63 ∧ 63 < (64 : Byte).toNat ∧ (64 : Byte) ≠ 0xFF := by
  decide +kernel

/-- An array locked out and one not; the charge stage in FAULT with PV QUALIFIED and absent; a full insert queue. -/
theorem test_witness_SupplyLockStoreAndRestartCommands :
    let out := withSupply (fun u => { u with pv := .lockedOut, failures := 5 }) ready
    let fault := withSupply (fun u =>
      { u with pv := .qualified, stage := .fault, limit := 200, derated := true, hold := 5000 }) ready
    let dark := withSupply (fun u => { u with stage := .fault }) ready
    let full := withPort .a (fun q => { q with queue := List.replicate 24 ⟨beatMessage, false⟩ }) ready
    reaches 1 true headA (0x0D :: []) out ∧ SupplyLawful out ∧ ShedLawful out ∧ SupplyLawful ready ∧ ShedLawful ready ∧
      reaches 1 true headA (0x0E :: []) fault ∧ SupplyLawful fault ∧ SupplyLawful dark ∧ ShedLawful dark ∧
      reaches 1 true headA (0x10 :: []) storing ∧ reaches 1 true headA (0x11 :: []) full ∧
      ready.loader.autoload = none ∧ State.reset.loader.autoload ≠ none ∧ (ready.at .a).queue.length < 24 ∧
      24 ≤ (full.at .a).queue.length := by
  refine ⟨?_, ?_, ?_, ?_, ?_, ?_, ?_, ?_, ?_⟩ <;> decide +kernel

theorem test_witness_SafetyLockProtectsReduceAndPumps :
    lockedState.agent.lock = true ∧ lockedState.loader.autoload = none ∧
      (next (.setLock headA []) ready).agent.lock = true ∧
      (next (.writePumpSettings headA (0 :: firstEntry 9)) lockedState).tables.pumps = lockedState.tables.pumps ∧
      (next (.resetPin 1 0) lockedState).agent.lock = false := by decide +kernel

theorem test_witness_BroadcastsActWithoutReply :
    let all : Sender := ⟨62, 0, .all, .a⟩
    ready.ownAddr ≠ 0 ∧ ready.agent.restart = none ∧ ready.loader.autoload = none ∧ holdsControl all ready = true ∧
      holdsControl ⟨63, 0, .all, .b⟩ ready = false ∧ commandRow all [0x0A, 4] = .forceShed all [4] ∧
      commandRow all [0x01] = .ignoredCommand all [0x01] ∧ commandRow all [] = .ignoredCommand all [] := by decide +kernel

theorem test_witness_UnknownIgnoredAndTime :
    headA.cls = .mine ∧ ready.ownAddr ≠ 0 ∧ 17 < (18 : Byte).toNat ∧ ¬17 < (17 : Byte).toNat ∧
      (⟨62, 0, .all, .a⟩ : Sender).cls ≠ .mine ∧ (⟨62, 0, .head, .a⟩ : Sender).cls ≠ .mine ∧ ([0, 0, 0] : List Byte).length < 4 ∧ 4 ≤ ([0, 0, 1, 0] : List Byte).length ∧
      (next (.resetPin 0 0) ready).ownAddr = 0 ∧ (next (.beat headA [0, 0, 1, 0]) ready).agent.hutTime = 256 := by
  decide +kernel

theorem test_witness_ContactExpiryDropsControlAndForcings :
    let last : State := { ready with agent := { ready.agent with contacts := ⟨some 5, none⟩ } }
    ready.agent.contacts.get .a ≠ none ∧ ready.agent.contacts.get (otherSide .a) ≠ none ∧ ready.points.recs.length = 46 ∧
      PumpsLawful ready ∧ last.agent.contacts.get .a = some 5 ∧ last.agent.contacts.get (otherSide .a) = none ∧
      PumpsLawful last ∧ (next (.contactTimerExpiry .a) last).agent.control = none := by
  refine ⟨?_, ?_, ?_, ?_, ?_⟩ <;> decide +kernel

set_option maxRecDepth 1000000 in
theorem test_witness_ImageAndTablesCorrespond :
    builtinTables.good ∧ (acceptImage builtinTables.image).isSome = true := by decide +kernel

theorem test_witness_AutoloadEndsAndStartsEveryBlock :
    let tried (n : Nat) : State :=
      { State.reset with loader := { State.reset.loader with autoload := some ⟨false, n, some 9000, 100000, none⟩ } }
    (EepromRead.afterAddress (.lost (.notAcknowledged .register 17)) = true ∧ EepromRead.afterAddress .stored = true ∧
      EepromRead.afterAddress (.lost (.notAcknowledged .addressWrite 8)) = false ∧
      EepromRead.afterAddress (.lost (.lostDataLine .addressRead 7)) = true) ∧
      (next (.autoloadReadDone (.lost (.notAcknowledged .register 8))) State.reset).loader.driven =
        [.start] ++ sendByte 0xA8 ++ sendByte 0x00 ++ [.stop] ∧
      (next (.autoloadAddressRetry true) (tried 3)).loader.autoload = some ⟨false, 4, none, 100000, some 9000⟩ ∧
      State.reset.loader.autoload ≠ none ∧ State.reset.points.recs.length = 46 ∧ PumpsLawful State.reset ∧ PumpsLawful (tried 9) ∧
      8 + 1 < 10 ∧ 10 ≤ 9 + 1 ∧ (next (.autoloadAddressRetry false) (tried 9)).loader.autoload = none ∧
      (next (.autoloadAddressRetry false) (tried 8)).loader.autoload ≠ none := by
  refine ⟨?_, ?_, ?_, ?_, ?_, ?_, ?_, ?_, ?_⟩ <;> decide +kernel

/-- `ready` with a store of its tables at a step's phase over an EEPROM content. -/
def storeAt (k : Nat) (ph : StorePhase) (m : List Host.Cell) : State :=
  { ready with
    agent := { ready.agent with store := some headA },
    loader := { ready.loader with store := some ⟨builtinTables.image, k, ph⟩ }, eeprom := m }

theorem test_image_length : builtinTables.image.length = 1625 := by decide +kernel

theorem test_store_at_readBack_lawful : StoreLawful (storeAt 52 .readBack (written builtinTables.image)) :=
  lawful_at_readBack _ builtinTables.image headA (by simp only [storeAt]) (by simp only [storeAt, ready]; rfl) test_image_length
    (by simp only [storeAt]) (by simp only [storeAt]) (by simp only [storeAt, ready])

theorem test_store_at_step51_lawful : StoreLawful (storeAt 51 .writing (writtenUnsigned builtinTables.image)) :=
  lawful_before_signature _ builtinTables.image headA 51 (by omega) (by omega) (by simp only [storeAt])
    (by simp only [storeAt, ready]; rfl) test_image_length (by simp only [storeAt]) (by simp only [storeAt])
    (by simp only [storeAt, ready])

theorem test_store_at_step52_lawful : StoreLawful (storeAt 52 .writing (writtenUnsigned builtinTables.image)) :=
  lawful_before_signature _ builtinTables.image headA 52 (by omega) (by omega) (by simp only [storeAt])
    (by simp only [storeAt, ready]; rfl) test_image_length (by simp only [storeAt]) (by simp only [storeAt])
    (by simp only [storeAt, ready])

theorem test_store_at_step1_lawful (ph : StorePhase) (hp : ph ≠ .readBack) : StoreLawful (storeAt 1 ph []) :=
  lawful_at_start _ ⟨builtinTables.image, 1, ph⟩ headA (by simp only [storeAt]) rfl hp (by simp only [storeAt, ready]; rfl)
    (by simp only [storeAt]) (by simp only [storeAt]) (by simp only [storeAt, ready])

/-- The page write of a step of a store of the built-in tables. -/
def sentAt (step : Nat) : List BusSignal := stepSignals ⟨builtinTables.image, step, .writing⟩

/-- A store at step 1, its page write and its cycle, and at its read-back; where a data line can be lost. -/
theorem test_witness_StoreStepsAndOutcomes :
    ((3 : Fin 35).val ≤ 3 ∧ 4 ≤ (4 : Fin 35).val ∧ EepromRead.inPhase .stored = true ∧
      EepromRead.inPhase (.lost (.notAcknowledged .addressWrite 8)) = true) ∧
    (readsBackAt (sentAt 1) 0 = true ∧ readsBackAt (sentAt 1) 36 = false ∧ readsBackAt (sentAt 1) 53 = true ∧
      readsBackAt (sentAt 1) 316 = true ∧ readsBackAt (sentAt 1) 317 = false ∧ readsBackAt (sentAt 52) 28 = true ∧
      readsBackAt (sentAt 52) 316 = true ∧ readsBackAt addressSignals 10 = true) ∧
    (StoreLawful (storeAt 1 .writing []) ∧ StoreLawful (storeAt 1 (.cycle 500 10000) []) ∧
      StoreLawful (storeAt 52 .writing (writtenUnsigned builtinTables.image)) ∧
      StoreLawful (storeAt 52 .readBack (written builtinTables.image))) ∧
      (storeAt 1 .writing []).agent.store = some headA ∧ TablesLawful (storeAt 1 .writing []) :=
  ⟨by decide, by decide +kernel,
    ⟨test_store_at_step1_lawful _ (by decide), test_store_at_step1_lawful _ (by decide), test_store_at_step52_lawful,
      test_store_at_readBack_lawful⟩,
    by simp only [storeAt], by decide +kernel⟩

/-- The read-back, and the first and the last moment at which a cut leaves no good image. -/
theorem test_witness_StoreDecidesTheNextAutoload :
    (StoreLawful (storeAt 52 .readBack (written builtinTables.image)) ∧
      StoreLawful (storeAt 51 .writing (writtenUnsigned builtinTables.image)) ∧
      StoreLawful (storeAt 1 (.cycle 500 10000) [])) ∧ TablesLawful ready ∧
      (1 = 1 ∧ StorePhase.cycle 500 10000 ≠ .writing) ∧ (2 ≤ 51 ∧ 51 < 52) :=
  ⟨⟨test_store_at_readBack_lawful, test_store_at_step51_lawful, test_store_at_step1_lawful _ (by decide)⟩,
    by decide +kernel, by decide, by decide⟩

/-- Slot 0 in flight, channel 0 in each settle state; the last slot. -/
theorem test_witness_ScansSettleFilterAndWritePoints :
    let at' (y : Settle) (slot : Nat) : State :=
      { ready with sampling := ⟨some 100000, some ⟨slot, 20⟩, List.replicate 16 y, List.replicate 16 0⟩ }
    TablesLawful (at' .seed 15) ∧ FiltersLawful (at' .seed 15) ∧ ScanLawful (at' .seed 15) ∧
      ((at' .seed 15).points.recs.length = 46 ∧ (at' .seed 15).points.deadlines.length = 28 ∧
        (at' .discard 0).sampling.settle.getD 0 .discard = .discard ∧ (at' .seed 0).sampling.settle.getD 0 .discard ≠ .discard ∧
        (next (.conversionEvent 1000) (at' .filtering 0)).point 0 = ⟨-544, .valid, 0⟩ ∧
        (next (.conversionEvent 1000) (at' .seed 0)).point 0 = ⟨-2175, .valid, 0⟩ ∧
        (next (.conversionEvent 1000) (at' .discard 0)).point 0 = ⟨0, .invalid, 0⟩) := by
  refine ⟨?_, ?_, ?_, ?_⟩ <;> decide +kernel

/-- Sums of 32767 and 32768, −32768 and −32769. -/
theorem test_witness_LinearConversionRoundsAndSaturates :
    linear 1024 32767 0 = (32767, .valid) ∧ linear 1024 32767 1 = (32767, .over) ∧ linear 1024 (-32768) 0 = (-32768, .valid) ∧
      linear 1024 (-32768) (-1) = (-32768, .under) ∧ isSigned16 32767 ∧ isSigned16 (-32768) ∧
      ready.points.recs.length = 46 := by decide +kernel

/-- Codes 199, 200, 201, 3000 and 3001 of the built-in curve. -/
theorem test_witness_CurveConversionInterpolates :
    builtinCurve.good ∧ curveConvert builtinCurve.used 199 = (-4000, .under) ∧
      curveConvert builtinCurve.used 200 = (-4000, .valid) ∧ curveConvert builtinCurve.used 201 = (-3997, .valid) ∧
      curveConvert builtinCurve.used 3000 = (0, .valid) ∧ curveConvert builtinCurve.used 3001 = (0, .over) := by decide +kernel

theorem test_witness_FilterMovesTowardTheSample :
    isSigned16 (-32768) ∧ isSigned16 32767 ∧ FiltersLawful ready ∧ 15 < 16 ∧
      filterStep 32767 (-32768) 7 = 32255 := by decide +kernel

/-- A poll entry in use, two bytes long, with one retry. -/
def inUse9 : PollEntry := { builtinPoll with addr := 9 }

/-- `ready` with an operation in flight for entry 11 after some failed attempts, entry 3 DUE. -/
def polling (k : BusOpKind) (b : BusState) (attempts : Nat) (mark : Bool) : State :=
  let p := (ready.poll.setRun 3 ⟨.due, 0, none⟩).setRun 11 (if mark = true ∨ k = .startup then ⟨.idle, 0, some 5⟩ else ⟨.active, attempts, none⟩)
  { ready with
    tables := { ready.tables with polls := List.replicate 12 inUse9 },
    poll := { p with op := some ⟨k, 11, inUse9, mark⟩, bus := b, watch := k != .startup } }

theorem test_witness_ReadsEndAndTheBusIsGranted :
    let s := polling .read .busy
    let bits : List Bool := (List.range 16).map (fun i => (0x1234#16).getMsbD i)
    PollLawful (s 0 false) ∧ PollLawful (s 1 false) ∧ PollLawful (s 0 true) ∧
      ((s 0 false).points.recs.length = 46 ∧ inUse9.busRead.mayFail (.notAcknowledged .register 8) = true ∧
        inUse9.busRead.mayFail (.lostDataLine .data 17) = true ∧ inUse9.busRead.mayFail (.lostDataLine .data 8) = false ∧
        inUse9.busRead.mayFail (.lostDataLine .register 7) = false ∧
        (PollEntry.busRead { inUse9 with register := 1 }).mayFail (.lostDataLine .register 7) = true ∧
        bits.length = 8 * inUse9.length ∧ ((s 0 false).poll.run 11).attempts < inUse9.retryLimit ∧
        inUse9.retryLimit ≤ ((s 1 false).poll.run 11).attempts ∧ (s 0 false).poll.firstDue = some 3 ∧
        (next (.transactionSuccess bits) (s 0 false)).point 27 = ⟨0x1234, .valid, 0⟩) := by
  refine ⟨?_, ?_, ?_, ?_⟩ <;> decide +kernel

theorem test_witness_DueTimesBusFaultAndRecovery :
    let free (y : PollState) : State := { ready with poll := ready.poll.setRun 11 ⟨y, 0, some 5⟩ }
    PollLawful (free .idle) ∧ PollLawful (free .failed) ∧ PollLawful (free .waitingRetry) ∧
      PollLawful (polling .startup .idle 0 false) ∧ PollLawful (polling .recovery .fault 0 false) ∧
      PollLawful (polling .read .busy 0 false) ∧ PollLawful (polling .recovery .fault 0 true) ∧
      ((polling .read .busy 0 false).poll.watch = true ∧ (polling .read .busy 0 false).poll.bus ≠ .fault ∧
        ready.poll.watch = false ∧ ((free .failed).poll.run 11).time = some 5 ∧
        (next .busFault (polling .read .busy 0 false)).poll.bus = .fault ∧
        (next (.recoveryComplete true true) (polling .recovery .fault 0 true)).poll.bus = .idle) := by
  refine ⟨?_, ?_, ?_, ?_, ?_, ?_, ?_, ?_⟩ <;> decide +kernel

theorem test_witness_AgesStalenessAndLaunchExpiry :
    let s : State :=
      { withPoint 0 7 .valid ready with
        points := { (withPoint 0 7 .valid ready).points with
          deadlines := ready.points.deadlines.set 0 (some 9), launch := ⟨some ⟨1750, 0, false⟩, none⟩ } }
    s.points.recs.length = 46 ∧ s.points.deadlines.getD 0 none = some 9 ∧ s.points.deadlines.getD 27 none = none ∧
      s.points.launch.get .a = some ⟨1750, 0, false⟩ ∧
      (next (.stalenessDeadline 0) s).point 0 = ⟨7, .invalid, 0⟩ := by decide +kernel

/-- Launches that leave 32767 and 32768 over the input power. -/
theorem test_witness_SpanLossIsLaunchLessInput :
    let s (l : Option Launch) (x : Validity) : State :=
      { withPoint 0 (-1) x ready with points := { (withPoint 0 (-1) x ready).points with launch := ⟨l, none⟩ } }
    (s none .valid).points.recs.length = 46 ∧ (spanLoss .a (s (some ⟨32766, 0, false⟩) .under)).point 28 = ⟨32767, .valid, 0⟩ ∧
      (spanLoss .a (s (some ⟨32767, 0, false⟩) .valid)).point 28 = ⟨32767, .valid, 0⟩ ∧
      (spanLoss .a (s (some ⟨5, 0, true⟩) .valid)).point 28 = ⟨0, .invalid, 0⟩ ∧
      (spanLoss .a (s (some ⟨5, 0, false⟩) .invalid)).point 28 = ⟨0, .invalid, 0⟩ := by decide +kernel

theorem test_witness_InputsAreDebouncedIntoPoint44 :
    let s (r : Bool) : State :=
      { ready with points := { ready.points with inputs := ready.points.inputs.set 7 ⟨r, false, some 9⟩ } }
    (s true).points.inputs.length = 8 ∧ (s true).points.recs.length = 46 ∧ (ready.points.input 7).timer ≠ none ∧
      (next (.debounceTimerExpiry 7) (s true)).point 44 = ⟨128, .valid, 0⟩ ∧
      (next (.debounceTimerExpiry 7) (s false)).point 44 = ready.point 44 ∧
      ((next (.debounceTimerExpiry 7) (s false)).points.input 7).timer = none := by decide +kernel

/-- Values at and beside both levels of a built-in BELOW entry, and a MATCH entry. -/
theorem test_witness_ConditionTestsFollowTheirKind :
    let c := builtinConds.getD 3 builtinUnused
    let m := builtinConds.getD 0 builtinUnused
    c.kind = .below ∧ c.valid = true ∧ setTrue c ⟨-3501, .valid, 0⟩ = true ∧ setTrue c ⟨-3500, .valid, 0⟩ = false ∧
      clearTrue c ⟨-3300, .valid, 0⟩ = false ∧ clearTrue c ⟨-3299, .valid, 0⟩ = true ∧ m.kind = .mtch ∧
      setTrue m ⟨1, .valid, 0⟩ = true ∧ clearTrue m ⟨0, .valid, 0⟩ = true ∧
      setTrue { c with kind := .above } ⟨-3499, .valid, 0⟩ = true ∧ setTrue { c with kind := .above } ⟨-3500, .valid, 0⟩ = false ∧
      setTrue { m with kind := .noMatch } ⟨2, .valid, 0⟩ = true ∧ setTrue { m with kind := .invalid } ⟨1, .invalid, 0⟩ = true ∧
      clearTrue { m with kind := .invalid } ⟨1, .under, 0⟩ = true := by decide +kernel

/-- The pass at which built-in entry 0 raises, and the one at which it clears. -/
theorem test_witness_PassMovesEveryCondition :
    let s : State := { ready with engine := { ready.engine with passAt := some 100000 } }
    let t := next .pass s
    let pulsing : State :=
      { s with
        tables := { s.tables with conds := s.tables.conds.set 0 { s.tables.condition 0 with action := .pulse 2 } } }
    (next .pass pulsing).outputs.pulses.getD 2 none = some ⟨true, 1100000⟩ ∧ s.outputs.pulses.length = 7 ∧
    TablesLawful pulsing ∧ TablesLawful s ∧ ListLawful s ∧ EngineLawful s ∧ TablesLawful t ∧ ListLawful t ∧ EngineLawful t ∧
      ((t.engine.run 0).state = .raised ∧ t.alarms.map Standing.index = [0] ∧
        (next .pass (withPoint 45 0 .valid t)).alarms = []) := by
  refine ⟨?_, ?_, ?_, ?_, ?_, ?_, ?_, ?_, ?_, ?_⟩ <;> decide +kernel

/-- A list entry, RAISED, reported late once its suppressor is gone. -/
theorem test_witness_ReportsChangeTheListAndSendAlerts :
    let e : Standing :=
      { index := 63, severity := .minor, point := 1, latching := true, report := true, raiseTime := 5, timeSet := true,
        value := 7, status := .raised, acknowledged := false, suppressed := true, withheld := true }
    let s : State := { ready with alarms := [e] }
    ListLawful s ∧ e ∈ s.alarms ∧ e.index = 63 ∧ e.status = .raised ∧ (∀ x ∈ s.alarms, x.index ≠ 62) ∧
      (takeSuppression 63 false s).alarms.map Standing.withheld = [false] ∧
      ((takeSuppression 63 false s).at .b).queue.length = 1 := by decide +kernel

/-- A channel in a state, with its target and current. -/
def channel (y : PumpState) (m : Mode) (current : Nat) : Pump :=
  { Pump.powerOn with
    state := y, mode := m, current := current, target := effectiveTarget builtinPump m 0,
    startAt := if y = .startWait then some 9 else none, rampAt := if y = .ramp then some 9 else none,
    probeAt := if y = .reduced then some 9 else none, durationAt := if y = .probe then some 9 else none,
    statusAt := if y = .off then none else some 9 }

/-- Channel AB in a state, its line whole or its trigger present. -/
def pumping (p : Pump) (under : Bool) : State :=
  let s := withPort .b (fun q => { q with sync := .sync, lineState := .ok }) ready
  { s with pumps := ⟨p, Pump.powerOn⟩, engine := { s.engine with reduce := ⟨under, false⟩ } }

/-- At shed level 0 the targets of NORMAL and BOOST differ from one held, in each state; ramps of 25 and of 26 mA. -/
theorem test_witness_PumpTargetsModesAndTriggers :
    effectiveTarget builtinPump .normal 4 = 300 ∧ (channel .run .normal 600).target = effectiveTarget builtinPump .normal 0 ∧
      effectiveTarget builtinPump .normal 4 ≠ (channel .run .normal 600).target ∧ (channel .off .off 0).state = .off ∧
      Mode.boost ≠ .off ∧ ((channel .run .normal 600).appearance 0).pump.state = .reduced ∧
      ((channel .run .normal 600).driverFault).pump.state = .fault := by decide +kernel

theorem test_witness_PumpTimersMoveTheirChannel :
    PumpsLawful (pumping (channel .startWait .normal 0) false) ∧ PumpsLawful (pumping (channel .startWait .normal 0) true) ∧
      PumpsLawful (pumping (channel .ramp .normal 575) false) ∧ PumpsLawful (pumping (channel .ramp .normal 574) false) ∧
      PumpsLawful (pumping (channel .reduced .normal 40) true) ∧ PumpsLawful (pumping (channel .probe .normal 600) true) ∧
      ((pumping (channel .ramp .normal 574) false).points.recs.length = 46 ∧
        ((next (.rampTimerExpiry .ab) (pumping (channel .ramp .normal 575) false)).pumps.ab).state = .run ∧
        ((next (.rampTimerExpiry .ab) (pumping (channel .ramp .normal 574) false)).pumps.ab).current = 599 ∧
        ((next (.probeDurationExpiry .ab) (pumping (channel .probe .normal 600) true)).pumps.ab).state = .reduced) := by
  refine ⟨?_, ?_, ?_, ?_, ?_, ?_, ?_⟩ <;> decide +kernel

theorem test_witness_PlacedWordsCoalesce :
    let l := ready.port.words
    let w : PortWord := ⟨.pumpBA, .setpoint, 70, .safety⟩
    (l.map (fun x => (x.device, x.register))).Nodup ∧ (∀ x ∈ w :: l, x.register.ofDevice x.device = true) ∧
      (Device.pumpAB, Register.setpoint) ∉ l.map (fun x => (x.device, x.register)) ∧
      (joinWord w l).map (fun x => x.value) = [0, 70, 0, 0] ∧ (joinWord w l).map (fun x => x.cls) = [.pump, .safety, .pump, .charger] := by
  decide +kernel

theorem test_witness_TransfersEndAndTheNextWordGoes :
    let s : State := { ready with port := ⟨[⟨.charger, .chargeEnable, 0, .charger⟩], some ⟨.charger, 0xA801#16, 9⟩, []⟩ }
    ready.port.transfer ≠ none ∧ PortLawful ready ∧ SupplyLawful ready ∧ ShedLawful ready ∧ PortLawful s ∧
      (⟨#[true] ++ Array.replicate 15 false, rfl⟩ : Vector Bool 16)[0] = true ∧ driver .ab = .pumpAB ∧
      (let t := next (.transferComplete (Vector.replicate 16 false)) s
       t.port.transfer.map Transfer.word = some 0xA000#16 ∧
        t.port.driven.map (fun g => match g with | .clock p _ => p | _ => false) =
          [false, true, false, true, false, true, false, false, false, false, false, false, false, false, false, false, true,
            false]) := by
  refine ⟨?_, ?_, ?_, ?_, ?_, ?_⟩ <;> decide +kernel

/-- A supply at its check: PV QUALIFIED with a hold point of 50.00 V in a stage, a zone and counts. -/
def charging (g : Stage) (z : Zone) (noSag time : Nat) : Supply :=
  { Supply.powerOn with
    pv := .qualified, hold := 5000, limit := 2000, noSag := noSag, stage := g, zone := z, zoneLevel := zoneLevelOf builtinSupply z,
    stageTime := time, checkAt := some 9 }

/-- `ready` with a supply and the records of points 8, 9 and 10, point 12 INVALID. -/
def supplied (u : Supply) (p8 p9 p10 : Int) : State :=
  withPoint 8 p8 .valid (withPoint 9 p9 .valid (withPoint 10 p10 .valid (withSupply (fun _ => u) ready)))

/-- Lawful supplies for each clause: dark at 999, absent and lit at 1000, sagging at 4999, standing at 5000 with no-sag counts
of 58 and 59, halted, each stage's test and timer at its boundary; zone and level boundaries. -/
theorem test_witness_SupplyCheckWorksThroughItsSteps :
    (∀ u ∈ [charging .bulk .normal 58 71998, charging .bulk .normal 59 71997, charging .absorb .cool 0 28799,
        charging .absorb .normal 0 0, charging .float .warm 0 0, charging .halted .cold 0 0, charging .fault .normal 0 0,
        { Supply.powerOn with checkAt := some 9 }],
      ∀ v ∈ [999, 1000, 4999, 5000], SupplyLawful (supplied u 5639 200 v)) ∧
      (builtinSupply.valid = true ∧
        (next .supplyCheck (supplied (charging .bulk .normal 0 0) 5639 0 999)).supply.stage = .off ∧
        (next .supplyCheck (supplied (charging .bulk .normal 0 0) 5639 0 4999)).supply.limit = 1900 ∧
        (next .supplyCheck (supplied (charging .bulk .normal 0 71998) 5639 0 5000)).supply.stage = .fault ∧
        (next .supplyCheck (supplied (charging .bulk .normal 0 71997) 5639 0 5000)).supply.stage = .bulk ∧
        (next .supplyCheck (supplied (charging .bulk .normal 0 71998) 5640 0 5000)).supply.stage = .absorb ∧
        (next .supplyCheck (supplied (charging .absorb .normal 0 0) 0 199 5000)).supply.stage = .float ∧
        (next .supplyCheck (supplied (charging .float .normal 0 0) 5099 0 5000)).supply.stage = .bulk ∧
        (next .supplyCheck (supplied (charging .halted .cold 0 0) 0 0 5000)).supply.stage = .halted) ∧
      voltageLevelOf builtinSupply 4 4499 = 4 ∧ voltageLevelOf builtinSupply 4 4550 = 3 ∧
        zoneOf builtinSupply .normal 0 = .cool ∧ zoneOf builtinSupply .normal (-1) = .cold := by
  refine ⟨?_, ?_, ?_⟩ <;> decide +kernel

/-- A settle and a test timer with point 10 below and at its limit, the fourth and the fifth failure, and a retry. -/
theorem test_witness_PvTimersQualifyTheArray :
    let settling : Supply := { Supply.powerOn with pv := .settling, settleAt := some 9 }
    let testing (n : Nat) : State :=
      let s := supplied { Supply.powerOn with pv := .testing, testAt := some 9, failures := n, voc := 6240 } 0 0 3999
      { s with outputs := { s.outputs with testLoad := true } }
    let retry : Supply := { Supply.powerOn with pv := .retryWait, retryAt := some 9, failures := 1 }
    SupplyLawful (supplied settling 0 0 999) ∧ SupplyLawful (supplied settling 0 0 1000) ∧ SupplyLawful (testing 3) ∧
      SupplyLawful (testing 4) ∧ SupplyLawful (withPoint 10 4000 .valid (testing 0)) ∧ SupplyLawful (supplied retry 0 0 0) ∧
      ((next .settleTimerExpiry (supplied settling 0 0 999)).supply.pv = .absent ∧
        (next .settleTimerExpiry (supplied settling 0 0 1000)).outputs.testLoad = true ∧
        (next .testTimerExpiry (testing 3)).supply.pv = .retryWait ∧
        (next .testTimerExpiry (testing 4)).supply.pv = .lockedOut ∧
        (next .testTimerExpiry (withPoint 10 4000 .valid (testing 0))).supply.hold = 4992 ∧
        (next .retryTimerExpiry (supplied retry 0 0 0)).supply.pv = .settling) := by
  refine ⟨?_, ?_, ?_, ?_, ?_, ?_, ?_⟩ <;> decide +kernel

/-- For EveryStepKeepsLinePortsAndControl, EveryStepKeepsStatePointsTrue, EveryStepKeepsPumpsAndPort,
EveryStepKeepsTheSupplyAndOutputsLawful, EveryStepKeepsTablesAndStoreTrue, EveryStepKeepsTheListFollowingConditions and
EveryStepKeepsPollsAndMeasurementsInRange: each law holds of `ready` or of a charging supply, and a step there goes on. -/
theorem test_witness_EveryStepKeeps :
    BuffersBounded ready ∧ MessagesInForm ready ∧ SourcesInForm ready ∧ ControlInContact ready ∧
      (∀ p ∈ [Side.a, .b], (ready.at p).lossMatches) ∧ WindowsLawful ready ∧ StatePointsAgree ready ∧ PumpsLawful ready ∧
      PortLawful ready ∧ SupplyLawful (supplied (charging .bulk .normal 58 71998) 5639 200 5000) ∧ OutputsResolved ready ∧
      TablesLawful ready ∧ ShedLawful ready ∧ ListLawful ready ∧ EngineLawful ready ∧ PollLawful ready ∧ ScanLawful ready ∧
      FiltersLawful ready ∧ RecordsLawful ready ∧ StoreLawful ready ∧
      step { ready with pending := [.hutTimeTick] } = exec .hutTimeTick ready ∧
      (next .hutTimeTick ready).agent.hutTime = 1 := by
  refine ⟨?_, ?_, ?_, ?_, ?_, ?_, ?_, ?_, ?_, ?_, ?_, ?_, ?_, ?_, ?_, ?_, ?_, ?_, ?_, ?_, rfl, ?_⟩ <;>
    first | decide +kernel | exact (by simp [ControlInContact, ready]; decide)

end Sys2Proof.Tests
end

/-! PROOF. Management messages (chapter 2): what a COMMAND that reaches its own tests comes to, the bodies of READ POINTS,
READ STANDING, CLAIM and RELEASE as equations, and the statements assembled from them. -/

namespace Sys2Proof.Machine

/-! Taking a message (R27): the agent's fields other than the contact timers, and how many points there are. -/

/-- R34: a contact restart touches no field of the agent but the contact timers. -/
theorem contactRestart_agent (h : Side) (s : State) :
    (contactRestart h s).agent = { s.agent with contacts := s.agent.contacts.set h (some (s.now + s.window)) } := rfl

@[simp] theorem setContacts_recs_length (c : Pair (Option Nat)) (s : State) :
    (setContacts c s).points.recs.length = s.points.recs.length := by
  unfold setContacts
  split
  · rfl
  · exact List.length_set

/-- R27: a message taken leaves the agent's state but its contact timers. -/
theorem takeManaged_agent (h : Handed) (s : State) :
    ∃ c, (takeManaged h s).agent = { s.agent with contacts := c } := by
  unfold takeManaged
  split
  next x _ => exact ⟨s.agent.contacts.set x (some ((dequeue h s).now + (dequeue h s).window)), by simp [contactRestart_agent]⟩
  next => exact ⟨s.agent.contacts, by simp⟩

@[simp] theorem takeManaged_control (h : Handed) (s : State) : (takeManaged h s).agent.control = s.agent.control := by
  obtain ⟨c, hc⟩ := takeManaged_agent h s
  rw [hc]

@[simp] theorem takeManaged_restart (h : Handed) (s : State) : (takeManaged h s).agent.restart = s.agent.restart := by
  obtain ⟨c, hc⟩ := takeManaged_agent h s
  rw [hc]

@[simp] theorem takeManaged_recs_length (h : Handed) (s : State) :
    (takeManaged h s).points.recs.length = s.points.recs.length := by
  unfold takeManaged
  split <;> simp [contactRestart]

/-- R29: the sender of a message holds the control side after the message is taken when it held it before. -/
@[simp] theorem holdsControl_takeManaged (m : Sender) (h : Handed) (s : State) :
    holdsControl m (takeManaged h s) = holdsControl m s := by
  simp [holdsControl]

/-! Senders (R29). -/

@[simp] theorem headOf_headAddress (h : Side) : headOf (headAddress h) = some h := by cases h <;> rfl

/-- A source address that is not a head station's names none. -/
theorem headOf_eq_none {src : Byte} (hA : src ≠ 62) (hB : src ≠ 63) : headOf src = none := by
  rw [headOf, if_neg hA, if_neg hB]

/-- R29: a head station holds the control side exactly when the control side is its own. -/
theorem holdsControl_head {m : Sender} {h : Side} (hm : m.source = headAddress h) (s : State) :
    holdsControl m s = true ↔ s.agent.control = some h := by
  simp [holdsControl, hm]

/-- R29: a sender that is neither head holding its own control side does not hold it. -/
theorem holdsControl_eq_false {m : Sender} {s : State} (hA : m.source = 62 → s.agent.control ≠ some .a)
    (hB : m.source = 63 → s.agent.control ≠ some .b) : holdsControl m s = false := by
  unfold holdsControl headOf
  split_ifs with h62 h63
  · simpa using hA h62
  · simpa using hB h63
  · rfl

/-! Commands (R27, R30). -/

/-- R30: a command that passes the tests every command meets has none of their refusals once it is taken. -/
theorem earlyRefusal_of_reaches {fixed : Nat} {controlled : Bool} {m : Sender} {payload : List Byte} {s : State}
    (h : reaches fixed controlled m payload s) : earlyRefusal fixed controlled m payload (s.after m payload) = none := by
  obtain ⟨-, -, hlen, hrestart, hcontrol⟩ := h
  cases controlled
  · simp [earlyRefusal, hlen, hrestart]
  · simp [earlyRefusal, hlen, hrestart, hcontrol rfl]

/-- R27, R30: a command that passes the tests every command meets is answered by its own body, in the state in which the
message has been taken. -/
theorem command_of_reaches {fixed : Nat} {controlled : Bool} {m : Sender} {payload : List Byte} {s : State} (code : Byte)
    (body : State → Answer) (h : reaches fixed controlled m payload s) :
    command code fixed controlled m payload body s = giveAnswer m code (body (s.after m payload)) := by
  have hearly := earlyRefusal_of_reaches h
  obtain ⟨haddr, hcls, -⟩ := h
  simp only [command, if_neg haddr, hcls, hearly]

/-- READ POINTS that passes the tests every command meets (R41). -/
theorem exec_readPoints {m : Sender} {args : List Byte} {s : State} (h : reaches 3 false m (0x06 :: args) s) :
    exec (.readPoints m args) s = .next (giveAnswer m 0x06 (readPointsBody args (s.after m (0x06 :: args)))) := by
  rw [← command_of_reaches _ _ h]; rfl

/-- READ STANDING that passes the tests every command meets (R42). -/
theorem exec_readStanding {m : Sender} {args : List Byte} {s : State} (h : reaches 2 false m (0x07 :: args) s) :
    exec (.readStanding m args) s = .next (giveAnswer m 0x07 (readStandingBody args (s.after m (0x07 :: args)))) := by
  rw [← command_of_reaches _ _ h]; rfl

/-- CLAIM that passes the tests every command meets (R32). -/
theorem exec_claim {m : Sender} {args : List Byte} {s : State} (h : reaches 1 false m (0x02 :: args) s) :
    exec (.claim m args) s = .next (giveAnswer m 0x02 (claimBody m (s.after m (0x02 :: args)))) := by
  rw [← command_of_reaches _ _ h]; rfl

/-- RELEASE that passes the tests every command meets (R33). -/
theorem exec_release {m : Sender} {args : List Byte} {s : State} (h : reaches 1 false m (0x03 :: args) s) :
    exec (.release m args) s = .next (giveAnswer m 0x03 (releaseBody m (s.after m (0x03 :: args)))) := by
  rw [← command_of_reaches _ _ h]; rfl

/-! Bytes of the arguments. -/

@[simp] theorem byteAt_cons_zero (b : Byte) (l : List Byte) : byteAt (b :: l) 0 = b.toNat := rfl

@[simp] theorem byteAt_cons_succ (b : Byte) (l : List Byte) (i : Nat) : byteAt (b :: l) (i + 1) = byteAt l i := rfl

@[simp] theorem byteOf_toNat (b : Byte) : byteOf b.toNat = b := by simp [byteOf]

/-! READ POINTS (R41). -/

/-- The records of the points from `first` on, `n` of them, when the table has so many. -/
theorem recs_drop_take (s : State) (first n : Nat) (h : first + n ≤ s.points.recs.length) :
    (s.points.recs.drop first).take n = (List.range n).map (fun k => s.point (first + k)) := by
  apply List.ext_getElem
  · simp; omega
  · intro k hk _
    have hin : first + k < s.points.recs.length := by simp at hk; omega
    simp [State.point, List.getD_eq_getElem?_getD, hin]

/-- R41: what a READ POINTS comes to, on the bytes of its arguments and the records of the points. -/
theorem readPointsBody_cons (first count : Byte) (extra : List Byte) (u : State) (hlen : u.points.recs.length = 46) :
    let n := min count.toNat (46 - first.toNat)
    readPointsBody (first :: count :: extra) u =
      if count.toNat = 0 ∨ 12 < count.toNat then .refuse .badValue u
      else if 45 < first.toNat then .refuse .badIndex u
      else ⟨u, some (if n = count.toNat then .done else .partially,
        first :: byteOf n :: (List.range n).flatMap (fun k => (u.point (first.toNat + k)).bytes))⟩ := by
  intro n
  by_cases hcount : count.toNat = 0 ∨ 12 < count.toNat
  · rw [if_pos hcount]
    exact if_pos hcount
  by_cases hfirst : 45 < first.toNat
  · rw [if_neg hcount, if_pos hfirst]
    exact (if_neg hcount).trans (if_pos hfirst)
  · have hrecs := recs_drop_take u first.toNat n (by omega)
    rw [if_neg hcount, if_neg hfirst]
    refine (if_neg hcount).trans ((if_neg hfirst).trans ?_)
    simp only [byteAt_cons_zero, byteAt_cons_succ, byteOf_toNat, readStatus]
    rw [hrecs, List.flatMap_map]
    rfl

/-! READ STANDING (R42). -/

/-- R42: what a READ STANDING comes to, on the byte of its argument and the number of entries it finds. -/
theorem readStandingBody_cons (start : Byte) (extra : List Byte) (u : State) :
    let n := min 4 (u.alarms.length - start.toNat)
    readStandingBody (start :: extra) u =
      ⟨u, some (.done, [start, byteOf n, byteOf (bit (decide (start.toNat + n < u.alarms.length)))] ++
        ((u.alarms.drop start.toNat).take n).flatMap Standing.bytes)⟩ := by
  intro n
  have hlen : ((u.alarms.drop start.toNat).take 4).length = n := by simp [n]
  have htake : (u.alarms.drop start.toNat).take 4 = (u.alarms.drop start.toNat).take n := by
    rw [List.take_eq_take_min, List.length_drop]
  simp only [readStandingBody, byteAt_cons_zero, byteOf_toNat, hlen]
  rw [htake]

/-! CLAIM and RELEASE (R32, R33). -/

/-- R32: a CLAIM from a head while the control side is NONE or its own. -/
theorem claimBody_granted {m : Sender} {h : Side} {u : State} (hm : m.source = headAddress h)
    (hc : u.agent.control = none ∨ u.agent.control = some h) :
    claimBody m u =
      ⟨{ u with agent := { u.agent with control := some h } }, some (.done, [byteOf (controlCode (some h))])⟩ := by
  simp [claimBody, hm, hc]

/-- R32: a CLAIM from a head while the other head holds the control side. -/
theorem claimBody_other_head {m : Sender} {h : Side} {u : State} (hm : m.source = headAddress h)
    (hc : u.agent.control = some (otherSide h)) :
    claimBody m u = ⟨u, some (.notController, [byteOf (controlCode u.agent.control)])⟩ := by
  have hne : otherSide h ≠ h := by cases h <;> decide
  simp [claimBody, hm, hc, hne]

/-- R32: a CLAIM from a sender that is not a head station. -/
theorem claimBody_not_head {m : Sender} {u : State} (hA : m.source ≠ 62) (hB : m.source ≠ 63) :
    claimBody m u = ⟨u, some (.notController, [byteOf (controlCode u.agent.control)])⟩ := by
  simp [claimBody, headOf_eq_none hA hB]

/-- R33: a RELEASE from the sender that holds the control side. -/
theorem releaseBody_holder {m : Sender} {u : State} (h : holdsControl m u = true) :
    releaseBody m u = ⟨{ u with agent := { u.agent with control := none } }, some (.done, [0])⟩ := by
  simp [releaseBody, h, controlCode, byteOf]

/-- R33: a RELEASE from any other sender leaves the control side. -/
theorem releaseBody_other {m : Sender} {u : State} (h : holdsControl m u = false) :
    releaseBody m u = ⟨u, some (.done, [byteOf (controlCode u.agent.control)])⟩ := by
  simp [releaseBody, h]

end Sys2Proof.Machine

section

open Sys2Proof Sys2Proof.Machine

/-- Settles O15: each read is its body's equation in the state after the message is taken, which has the points' number
and the alarms of the state before. -/
theorem pointsAndStandingAlarmsAreRead : Obligations.PointsAndStandingAlarmsAreRead := by
  refine ⟨?_, ?_⟩
  · intro m first count extra s hreach hlen u n item
    have hu : u.points.recs.length = 46 := (takeManaged_recs_length _ s).trans hlen
    rw [exec_readPoints hreach, readPointsBody_cons first count extra u hu]
    split_ifs <;> rfl
  · intro m start extra s hreach n item
    have halarms : (s.after m (0x07 :: start :: extra)).alarms = s.alarms := by simp
    rw [exec_readStanding hreach, readStandingBody_cons, halarms]
    rfl

/-- Settles O17: the body of CLAIM or RELEASE by who sends it and who holds the control side, which taking the message
does not change. -/
theorem claimAndReleaseMoveTheControlSide : Obligations.ClaimAndReleaseMoveTheControlSide := by
  intro m h extra s hold code
  have hcode : ∀ c, code c = byteOf (controlCode c) := by rintro (_ | _ | _) <;> rfl
  refine ⟨?_, ?_⟩
  · intro hreach u
    have hcontrol : u.agent.control = s.agent.control := takeManaged_control _ s
    rw [exec_claim hreach, hcode, hcode, ← hcontrol]
    refine ⟨fun hm hc => ?_, fun hm hc => ?_, fun hA hB => ?_⟩
    · rw [claimBody_granted hm hc]; rfl
    · rw [claimBody_other_head hm hc]; rfl
    · rw [claimBody_not_head hA hB]; rfl
  · intro hreach u
    have hcontrol : u.agent.control = s.agent.control := takeManaged_control _ s
    rw [exec_release hreach, hcode, ← hcontrol]
    refine ⟨fun hm hc => ?_, fun hA hB => ?_⟩
    · rw [releaseBody_holder ((holdsControl_head hm u).2 hc)]; rfl
    · rw [releaseBody_other (holdsControl_eq_false hA hB)]; rfl

end

/-! PROOF. Sampling and conversion (chapter 3): rounding, linear conversion by where its sum lies, curve conversion by where
its code lies among the breakpoints, and the statements assembled from them. -/

namespace Sys2Proof.Machine

/-! Rounding half away from zero (R65, R68). -/

/-- R68: a rounded quotient is the rounded quotient of the magnitudes, with the sign of the dividend. -/
theorem roundHalfAway_eq_sign_mul (num : Int) {den : Int} (hden : 0 < den) :
    roundHalfAway num den = num.sign * (((num.natAbs : Int) + den / 2) / den) := by
  rcases lt_trichotomy num 0 with hneg | rfl | hpos
  · have habs : (num.natAbs : Int) = -num := by omega
    rw [roundHalfAway, if_neg (by omega), Int.sign_eq_neg_one_of_neg hneg, habs, neg_one_mul]
  · have hhalf : den / 2 / den = 0 := Int.ediv_eq_zero_of_lt (by omega) (by omega)
    simp [roundHalfAway, hhalf]
  · have habs : (num.natAbs : Int) = num := by omega
    rw [roundHalfAway, if_pos hpos.le, Int.sign_eq_one_of_pos hpos, habs, one_mul]

theorem roundHalfAway_neg (num : Int) {den : Int} (hden : 0 < den) :
    roundHalfAway (-num) den = -roundHalfAway num den := by
  rw [roundHalfAway_eq_sign_mul _ hden, roundHalfAway_eq_sign_mul _ hden, Int.sign_neg, Int.natAbs_neg, neg_mul]

/-- A dividend from 0 to `d` divisors has a rounded quotient from 0 to `d`. -/
theorem roundHalfAway_mem_Icc {num den d : Int} (hden : 0 < den) (h0 : 0 ≤ num) (hd : num ≤ d * den) :
    0 ≤ roundHalfAway num den ∧ roundHalfAway num den ≤ d := by
  rw [roundHalfAway, if_pos h0]
  refine ⟨Int.ediv_nonneg (by omega) hden.le, Int.lt_add_one_iff.1 (Int.ediv_lt_of_lt_mul hden ?_)⟩
  rw [add_mul, one_mul]
  omega

/-- R68: the quotient lies between 0 and the whole difference `d` when `t` of `den` codes are passed. -/
theorem roundHalfAway_between {d t den : Int} (hden : 0 < den) (h0 : 0 ≤ t) (ht : t ≤ den) :
    min 0 d ≤ roundHalfAway (d * t) den ∧ roundHalfAway (d * t) den ≤ max 0 d := by
  rcases le_total 0 d with hd | hd
  · have hq := roundHalfAway_mem_Icc hden (mul_nonneg hd h0) (mul_le_mul_of_nonneg_left ht hd)
    omega
  · have hneg : 0 ≤ -d := neg_nonneg.2 hd
    have hq := roundHalfAway_mem_Icc hden (mul_nonneg hneg h0) (mul_le_mul_of_nonneg_left ht hneg)
    rw [neg_mul, roundHalfAway_neg _ hden] at hq
    omega

/-! Linear conversion (R65). -/

section Linear

variable {gain : Nat} {offset x : Int}

/-- R65: a sum within the range of a point is the value, VALID. -/
theorem linear_of_inside (hlo : -32768 ≤ roundHalfAway (x * gain) 1024 + offset)
    (hhi : roundHalfAway (x * gain) 1024 + offset ≤ 32767) :
    linear gain offset x = (roundHalfAway (x * gain) 1024 + offset, .valid) := by
  rw [linear, clampPoint, saturate_inside _ _ _ hlo hhi, if_neg hhi.not_gt, if_neg hlo.not_gt]

/-- R65: a sum above the range gives its end, OVER. -/
theorem linear_of_above (h : 32767 < roundHalfAway (x * gain) 1024 + offset) : linear gain offset x = (32767, .over) := by
  rw [linear, clampPoint, saturate, if_neg (by omega), if_pos h, if_pos h]

/-- R65: a sum below the range gives its end, UNDER. -/
theorem linear_of_below (h : roundHalfAway (x * gain) 1024 + offset < -32768) :
    linear gain offset x = (-32768, .under) := by
  rw [linear, clampPoint, saturate, if_pos h, if_neg (by omega), if_pos h]

/-- R65: a gain of 0 gives the offset for every input. -/
theorem linear_zero_gain (h : isSigned16 offset) : linear 0 offset x = (offset, .valid) := by
  have hround : roundHalfAway (x * (0 : Nat)) 1024 = 0 := by rw [Int.natCast_zero, mul_zero]; rfl
  obtain ⟨hlo, hhi⟩ := h
  rw [linear_of_inside (by omega) (by omega), hround, zero_add]

/-- R65: the magnitude of the product of an input and a gain. -/
theorem abs_product_le (hlo : -32768 ≤ x) (hhi : x ≤ 65535) (hgain : gain ≤ 65535) : |x * gain| ≤ 65535 * 65535 := by
  have hx : |x| ≤ 65535 := abs_le.2 ⟨by omega, hhi⟩
  have hg : |(gain : Int)| ≤ 65535 := by rw [Nat.abs_cast]; exact_mod_cast hgain
  rw [abs_mul]
  exact mul_le_mul hx hg (abs_nonneg _) (by norm_num)

end Linear

/-- R79: the record of its poll point after a successful read of entry `i`. -/
theorem point_readSuccess {i : Nat} {s : State} (e : PollEntry) (bits : List Bool) (hi : 16 + i < s.points.recs.length) :
    (readSuccess i e bits s).point (16 + i) =
      ⟨(linear e.gain e.offset (readingOf e (rawOf bits))).1, (linear e.gain e.offset (readingOf e (rawOf bits))).2, 0⟩ :=
  point_writePoint_same (16 + i) _ _ s hi

/-! Chains of neighbours (R66). -/

theorem chain_iff_isChain {α : Type} (r : α → α → Bool) (l : List α) :
    chain r l = true ↔ l.IsChain (fun x y => r x y = true) := by
  induction l with
  | nil => simp [chain]
  | cons x l ih =>
    cases l with
    | nil => simp [chain]
    | cons y l => simp [chain, ih]

/-- Under a transitive relation, a chain of neighbours relates every member to every later one. -/
theorem chain_getElem {α : Type} {r : α → α → Bool} (htrans : ∀ x y z, r x y = true → r y z = true → r x z = true)
    {l : List α} (h : chain r l = true) {i j : Nat} (hij : i < j) (hj : j < l.length) : r l[i] l[j] = true := by
  have htr : IsTrans α (fun x y => r x y = true) := ⟨htrans⟩
  exact List.pairwise_iff_getElem.1 ((chain_iff_isChain r l).1 h).pairwise i j (hij.trans hj) hj hij

/-! Interpolation over a list of breakpoints (R68). -/

section Interpolate

variable {l : List (Nat × Int)} {i : Nat} {code : Int}

/-- R68: breakpoints before the last one whose code is not above `code` do not matter. -/
theorem interpolate_drop (hrise : chain (fun p q => p.1 < q.1) l = true) (hi : i < l.length) (hle : (l[i].1 : Int) ≤ code) :
    interpolate code l = interpolate code (l.drop i) := by
  induction i with
  | zero => rfl
  | succ i ih =>
    have hlt : l[i].1 < l[i + 1].1 := by
      simpa using chain_getElem (by grind) hrise i.lt_succ_self hi
    rw [ih (by omega) (by omega), List.drop_eq_getElem_cons (by omega), List.drop_eq_getElem_cons hi, interpolate,
      if_neg (by omega), if_neg (by omega)]

/-- R68: at a breakpoint's code its own value. -/
theorem interpolate_at (hrise : chain (fun p q => p.1 < q.1) l = true) (hi : i < l.length) :
    interpolate l[i].1 l = l[i].2 := by
  rw [interpolate_drop hrise hi le_rfl, List.drop_eq_getElem_cons hi]
  cases l.drop (i + 1) with
  | nil => rfl
  | cons q rest => rw [interpolate, if_pos rfl]

/-- R68: strictly between two neighbouring breakpoints the rounded interpolation. -/
theorem interpolate_between (hrise : chain (fun p q => p.1 < q.1) l = true) (hi : i + 1 < l.length)
    (hlo : (l[i].1 : Int) < code) (hhi : code < l[i + 1].1) :
    interpolate code l =
      l[i].2 + roundHalfAway ((l[i + 1].2 - l[i].2) * (code - l[i].1)) ((l[i + 1].1 : Int) - l[i].1) := by
  rw [interpolate_drop hrise (by omega) hlo.le, List.drop_eq_getElem_cons (by omega), List.drop_eq_getElem_cons hi,
    interpolate, if_neg hlo.ne', if_pos hhi]

end Interpolate

/-! Acceptable curves (R66). -/

/-- The breakpoint of a curve at an index, as the statements read it. -/
def Curve.breakpoint (c : Curve) (i : Nat) : Nat × Int := c.points.getD i (0, 0)

/-- R66: what the validation of a curve accepts. -/
theorem curve_valid_iff (c : Curve) :
    c.valid = true ↔
      2 ≤ c.count ∧ c.count ≤ 12 ∧ (∀ q ∈ c.used, q.1 ≤ 4095) ∧ chain (fun p q => p.1 < q.1) c.used = true ∧
        (chain (fun p q => p.2 ≤ q.2) c.used = true ∨ chain (fun p q => q.2 ≤ p.2) c.used = true) := by
  simp [Curve.valid, and_assoc]

section GoodCurve

variable {c : Curve} {i j code : Nat}

theorem count_pos_of_good (hc : c.good) : 0 < c.count := by
  obtain ⟨hvalid, -, -⟩ := hc
  obtain ⟨htwo, -⟩ := (curve_valid_iff c).1 hvalid
  omega

theorem rising_of_good (hc : c.good) : chain (fun p q => p.1 < q.1) c.used = true := by
  obtain ⟨hvalid, -, -⟩ := hc
  obtain ⟨-, -, -, hrise, -⟩ := (curve_valid_iff c).1 hvalid
  exact hrise

theorem monotone_of_good (hc : c.good) :
    chain (fun p q => p.2 ≤ q.2) c.used = true ∨ chain (fun p q => q.2 ≤ p.2) c.used = true := by
  obtain ⟨hvalid, -, -⟩ := hc
  obtain ⟨-, -, -, -, hmonotone⟩ := (curve_valid_iff c).1 hvalid
  exact hmonotone

theorem used_length_of_good (hc : c.good) : c.used.length = c.count := by
  obtain ⟨hvalid, hlen, -⟩ := hc
  obtain ⟨-, htwelve, -⟩ := (curve_valid_iff c).1 hvalid
  rw [Curve.used, List.length_take, hlen]
  omega

theorem used_getElem (hi : i < c.used.length) : c.used[i] = c.breakpoint i := by
  have hin : i < c.points.length := by simp [Curve.used] at hi; omega
  simp [Curve.used, Curve.breakpoint, List.getD_eq_getElem?_getD, hin]

theorem used_headD (hc : c.good) : c.used.headD (0, 0) = c.breakpoint 0 := by
  have hpos := count_pos_of_good hc
  have hlen := used_length_of_good hc
  have hfirst : 0 < c.used.length := by omega
  rw [List.headD_eq_head?_getD, List.head?_eq_getElem?, List.getElem?_eq_getElem hfirst, Option.getD_some,
    used_getElem hfirst]

theorem used_getLastD (hc : c.good) : c.used.getLastD (0, 0) = c.breakpoint (c.count - 1) := by
  have hpos := count_pos_of_good hc
  have hlen := used_length_of_good hc
  have hlast : c.count - 1 < c.used.length := by omega
  rw [List.getLastD_eq_getLast?, List.getLast?_eq_getElem?, hlen, List.getElem?_eq_getElem hlast, Option.getD_some,
    used_getElem hlast]

/-- A transitive relation of neighbouring breakpoints relates each breakpoint in use to every later one. -/
theorem breakpoint_chain {r : Nat × Int → Nat × Int → Bool}
    (htrans : ∀ x y z, r x y = true → r y z = true → r x z = true) (hc : c.good) (h : chain r c.used = true) (hij : i < j)
    (hj : j < c.count) : r (c.breakpoint i) (c.breakpoint j) = true := by
  have hj' : j < c.used.length := (used_length_of_good hc).symm ▸ hj
  rw [← used_getElem (hij.trans hj'), ← used_getElem hj']
  exact chain_getElem htrans h hij hj'

/-- R66: the codes of the breakpoints rise strictly. -/
theorem breakpoint_code_lt (hc : c.good) (hij : i < j) (hj : j < c.count) : (c.breakpoint i).1 < (c.breakpoint j).1 := by
  simpa using breakpoint_chain (by grind) hc (rising_of_good hc) hij hj

theorem breakpoint_code_le (hc : c.good) (hij : i ≤ j) (hj : j < c.count) : (c.breakpoint i).1 ≤ (c.breakpoint j).1 := by
  rcases hij.eq_or_lt with rfl | hlt
  · exact le_rfl
  · exact (breakpoint_code_lt hc hlt hj).le

/-- R66, R68: the values of a curve are monotonic, so the value of each breakpoint lies between those of the ends. -/
theorem breakpoint_value_between (hc : c.good) (hi : i < c.count) :
    min (c.breakpoint 0).2 (c.breakpoint (c.count - 1)).2 ≤ (c.breakpoint i).2 ∧
      (c.breakpoint i).2 ≤ max (c.breakpoint 0).2 (c.breakpoint (c.count - 1)).2 := by
  rcases i.eq_zero_or_pos with rfl | h0
  · exact ⟨min_le_left _ _, le_max_left _ _⟩
  rcases eq_or_lt_of_le (Nat.le_sub_one_of_lt hi) with rfl | hn
  · exact ⟨min_le_right _ _, le_max_right _ _⟩
  rcases monotone_of_good hc with hup | hdown
  · have hleft := breakpoint_chain (by grind) hc hup h0 hi
    have hright := breakpoint_chain (by grind) hc hup hn (by omega)
    simp only [decide_eq_true_eq] at hleft hright
    omega
  · have hleft := breakpoint_chain (by grind) hc hdown h0 hi
    have hright := breakpoint_chain (by grind) hc hdown hn (by omega)
    simp only [decide_eq_true_eq] at hleft hright
    omega

/-! Curve conversion (R68). -/

theorem curveConvert_below (hc : c.good) (h : code < (c.breakpoint 0).1) :
    curveConvert c.used code = ((c.breakpoint 0).2, .under) := by
  rw [curveConvert, used_headD hc, if_pos h]

theorem curveConvert_above (hc : c.good) (h : (c.breakpoint (c.count - 1)).1 < code) :
    curveConvert c.used code = ((c.breakpoint (c.count - 1)).2, .over) := by
  have hpos := count_pos_of_good hc
  have hends := breakpoint_code_le hc (Nat.zero_le (c.count - 1)) (by omega)
  rw [curveConvert, used_headD hc, used_getLastD hc, if_neg (by omega), if_pos h]

/-- R68: a code from the first breakpoint's to the last one's is interpolated, VALID. -/
theorem curveConvert_inside (hc : c.good) (hlo : (c.breakpoint 0).1 ≤ code) (hhi : code ≤ (c.breakpoint (c.count - 1)).1) :
    curveConvert c.used code = (interpolate code c.used, .valid) := by
  rw [curveConvert, used_headD hc, used_getLastD hc, if_neg hlo.not_gt, if_neg hhi.not_gt]

theorem curveConvert_at (hc : c.good) (hi : i < c.count) :
    curveConvert c.used (c.breakpoint i).1 = ((c.breakpoint i).2, .valid) := by
  have hin : i < c.used.length := (used_length_of_good hc).symm ▸ hi
  rw [curveConvert_inside hc (breakpoint_code_le hc i.zero_le hi) (breakpoint_code_le hc (by omega) (by omega)),
    ← used_getElem hin, interpolate_at (rising_of_good hc) hin]

theorem curveConvert_between (hc : c.good) (hi : i + 1 < c.count) (hlo : (c.breakpoint i).1 < code)
    (hhi : code < (c.breakpoint (i + 1)).1) :
    curveConvert c.used code =
      ((c.breakpoint i).2 + roundHalfAway (((c.breakpoint (i + 1)).2 - (c.breakpoint i).2) * ((code : Int) - (c.breakpoint i).1))
        (((c.breakpoint (i + 1)).1 : Int) - (c.breakpoint i).1), .valid) := by
  have hj : i + 1 < c.used.length := (used_length_of_good hc).symm ▸ hi
  have hfirst : (c.breakpoint 0).1 ≤ (c.breakpoint i).1 := breakpoint_code_le hc i.zero_le (by omega)
  have hlast := breakpoint_code_le hc (show i + 1 ≤ c.count - 1 by omega) (by omega)
  rw [curveConvert_inside hc (by omega) (by omega)]
  rw [← used_getElem (by omega)] at hlo
  rw [← used_getElem hj] at hhi
  rw [interpolate_between (rising_of_good hc) hj (by exact_mod_cast hlo) (by exact_mod_cast hhi), used_getElem hj,
    used_getElem (by omega)]

/-- R68: a value between two breakpoints lies between their values. -/
theorem curveConvert_between_bounds (hc : c.good) (hi : i + 1 < c.count) (hlo : (c.breakpoint i).1 < code)
    (hhi : code < (c.breakpoint (i + 1)).1) :
    min (c.breakpoint i).2 (c.breakpoint (i + 1)).2 ≤ (curveConvert c.used code).1 ∧
      (curveConvert c.used code).1 ≤ max (c.breakpoint i).2 (c.breakpoint (i + 1)).2 := by
  rw [curveConvert_between hc hi hlo hhi]
  have hq := roundHalfAway_between (d := (c.breakpoint (i + 1)).2 - (c.breakpoint i).2)
    (t := (code : Int) - (c.breakpoint i).1) (den := ((c.breakpoint (i + 1)).1 : Int) - (c.breakpoint i).1)
    (by omega) (by omega) (by omega)
  dsimp only
  omega

end GoodCurve

/-- A number from `f 0` to `f n` is one of `f 0` to `f n` or lies strictly between two neighbours. -/
theorem eq_or_between_neighbours (f : Nat → Nat) {n x : Nat} (hlo : f 0 ≤ x) (hhi : x ≤ f n) :
    (∃ i ≤ n, x = f i) ∨ ∃ i < n, f i < x ∧ x < f (i + 1) := by
  induction n with
  | zero => exact .inl ⟨0, le_rfl, le_antisymm hhi hlo⟩
  | succ n ih =>
    rcases le_or_gt x (f n) with hx | hx
    · obtain ⟨i, hi, heq⟩ | ⟨i, hi, hbetween⟩ := ih hx
      · exact .inl ⟨i, by omega, heq⟩
      · exact .inr ⟨i, by omega, hbetween⟩
    · rcases hhi.eq_or_lt with heq | hlt
      · exact .inl ⟨n + 1, le_rfl, heq⟩
      · exact .inr ⟨n, by omega, hx, hlt⟩

/-- R68: every curve-converted value lies between the values of the first and the last breakpoint. -/
theorem curveConvert_within {c : Curve} (hc : c.good) (code : Nat) :
    min (c.breakpoint 0).2 (c.breakpoint (c.count - 1)).2 ≤ (curveConvert c.used code).1 ∧
      (curveConvert c.used code).1 ≤ max (c.breakpoint 0).2 (c.breakpoint (c.count - 1)).2 := by
  have hpos := count_pos_of_good hc
  rcases lt_or_ge code (c.breakpoint 0).1 with hlo | hlo
  · rw [curveConvert_below hc hlo]
    exact ⟨min_le_left _ _, le_max_left _ _⟩
  rcases lt_or_ge (c.breakpoint (c.count - 1)).1 code with hhi | hhi
  · rw [curveConvert_above hc hhi]
    exact ⟨min_le_right _ _, le_max_right _ _⟩
  obtain ⟨i, hi, rfl⟩ | ⟨i, hi, hleft, hright⟩ := eq_or_between_neighbours (fun i => (c.breakpoint i).1) hlo hhi
  · rw [curveConvert_at hc (by omega)]
    exact breakpoint_value_between hc (by omega)
  · have hends := curveConvert_between_bounds hc (by omega) hleft hright
    have hvi := breakpoint_value_between hc (show i < c.count by omega)
    have hvj := breakpoint_value_between hc (show i + 1 < c.count by omega)
    omega

end Sys2Proof.Machine

section

open Sys2Proof Sys2Proof.Machine

/-- Settles O36: linear conversion by where its sum lies, its two uses by name. -/
theorem linearConversionRoundsAndSaturates : Obligations.LinearConversionRoundsAndSaturates := by
  intro gain offset x p q
  have hq : q = roundHalfAway (x * gain) 1024 := rfl
  rw [hq]
  refine ⟨linear_of_inside, linear_of_above, linear_of_below, linear_zero_gain, abs_product_le, ?_, ?_⟩
  · intro curves cal code hmode
    rw [convert, hmode]
  · intro e i bits s hlen hi
    exact point_readSuccess e bits (by omega)

/-- Settles O37: curve conversion by where the code lies, and the bound that holds wherever it lies. -/
theorem curveConversionInterpolates : Obligations.CurveConversionInterpolates := by
  intro c code hc n at' r
  have hpos := count_pos_of_good hc
  refine ⟨curveConvert_below hc, curveConvert_above hc, ?_, ?_, curveConvert_within hc code⟩
  · rintro i hi rfl
    exact curveConvert_at hc (by omega)
  · intro i hi hlo hhi num den magnitude
    have hden : 0 < den := by omega
    refine ⟨?_, curveConvert_between_bounds hc (by omega) hlo hhi⟩
    rw [← roundHalfAway_eq_sign_mul num hden]
    exact curveConvert_between hc (by omega) hlo hhi

end

/-! PROOF. The point table (chapter 5): a point write as the change of one record, and the span loss as one such write, by
whether the launch and the input power give a value. -/

namespace Sys2Proof.Machine

/-! A write of a point (R85): what it leaves as it was. -/

theorem writePoint_pointsOnly (i : Nat) (v : Int) (x : Validity) (s : State) :
    pointsOnly [i] s (writePoint i v x s) := fun j hj =>
  point_writePoint_other i j v x s (List.ne_of_not_mem_cons hj)

theorem writePoint_changesOnly (i : Nat) (v : Int) (x : Validity) (s : State) :
    changesOnly [.points] s (writePoint i v x s) := by
  intro p hp
  cases p
  case points => exact absurd (List.mem_singleton.2 rfl) hp
  all_goals rfl

/-! The span loss (R90). -/

/-- R90: a computation of the span loss is one write of its point, whatever it comes to. -/
theorem spanLoss_eq_writePoint (x : Side) (s : State) :
    ∃ v validity, spanLoss x s = writePoint (lossPoint x) v validity s := by
  unfold spanLoss
  split
  next v _ => exact ⟨v, .valid, rfl⟩
  next => exact ⟨(s.point (lossPoint x)).value, .invalid, rfl⟩

/-- R90: over a fresh launch and an input power that is not INVALID, the value is the difference, saturated. -/
theorem spanLossOf_fresh {l : Launch} {p : Point} (hfresh : l.expired = false) (hp : p.validity ≠ .invalid) :
    spanLossOf (some l) p = some (clampPoint (l.power - p.value)) := by
  rw [spanLossOf, if_neg (by simp [hfresh, hp])]

/-- R90: without a launch, over an expired one or with the input power INVALID, there is no value. -/
theorem spanLossOf_lost {launch : Option Launch} {p : Point}
    (h : launch = none ∨ (∃ l, launch = some l ∧ l.expired = true) ∨ p.validity = .invalid) :
    spanLossOf launch p = none := by
  obtain rfl | ⟨l, rfl, hexpired⟩ | hp := h
  · rfl
  · rw [spanLossOf, if_pos (.inl hexpired)]
  · cases launch with
    | none => rfl
    | some l => rw [spanLossOf, if_pos (.inr hp)]

/-- R90: with a value to write, the span loss is VALID. -/
theorem spanLoss_of_some {x : Side} {s : State} {v : Int}
    (h : spanLossOf (s.points.launch.get x) (s.point (inputPoint x)) = some v) :
    spanLoss x s = writePoint (lossPoint x) v .valid s := by
  rw [spanLoss, h]

/-- R90: with no value to write, the span loss goes INVALID over the value it has. -/
theorem spanLoss_of_none {x : Side} {s : State}
    (h : spanLossOf (s.points.launch.get x) (s.point (inputPoint x)) = none) :
    spanLoss x s = invalidate (lossPoint x) s := by
  rw [spanLoss, h]

theorem inputPoint_eq_ite (x : Side) : inputPoint x = if x = .a then 0 else 2 := by cases x <;> rfl

theorem lossPoint_eq_ite (x : Side) : lossPoint x = if x = .a then 28 else 29 := by cases x <;> rfl

theorem lossPoint_lt (x : Side) : lossPoint x < 46 := by cases x <;> decide

end Sys2Proof.Machine

section

open Sys2Proof Sys2Proof.Machine

/-- Settles O42: the computation as one write of the loss point, and what it writes by whether there is a difference. -/
theorem spanLossIsLaunchLessInput : Obligations.SpanLossIsLaunchLessInput := by
  intro x s hlen
  rw [← inputPoint_eq_ite, ← lossPoint_eq_ite]
  intro p i t
  have hi : i < s.points.recs.length := hlen ▸ lossPoint_lt x
  obtain ⟨v, validity, hwrite⟩ : ∃ v validity, t = writePoint i v validity s := spanLoss_eq_writePoint x s
  refine ⟨hwrite ▸ writePoint_pointsOnly i v validity s, hwrite ▸ writePoint_changesOnly i v validity s, ?_, ?_, ?_⟩
  · rw [hwrite, point_writePoint_same i v validity s hi]
  · intro l hl hfresh hp
    have hvalue : spanLossOf (s.points.launch.get x) p = some (clampPoint (l.power - p.value)) :=
      hl ▸ spanLossOf_fresh hfresh hp
    have ht : t = writePoint i (clampPoint (l.power - p.value)) .valid s := spanLoss_of_some hvalue
    rw [ht, point_writePoint_same i _ _ s hi, clampPoint, saturate]
  · intro hlost
    have ht : t = invalidate i s := spanLoss_of_none (spanLossOf_lost hlost)
    rw [ht, invalidate, point_writePoint_same i _ _ s hi]

end

/-! PROOF. Condition evaluation (chapter 6): the two tests of each kind, what the validation of an entry says of its levels,
and from both that no value is set-true and clear-true at once. -/

namespace Sys2Proof.Machine

section ConditionTests

variable {c : Condition}

/-! The two tests of an entry, kind by kind (R105 to R107). -/

theorem tests_above (h : c.kind = .above) (p : Point) :
    (setTrue c p = true ↔ c.setLevel < p.value) ∧ (clearTrue c p = true ↔ p.value < c.clearLevel) := by
  simp [setTrue, clearTrue, h]

theorem tests_below (h : c.kind = .below) (p : Point) :
    (setTrue c p = true ↔ p.value < c.setLevel) ∧ (clearTrue c p = true ↔ c.clearLevel < p.value) := by
  simp [setTrue, clearTrue, h]

theorem tests_mtch (h : c.kind = .mtch) (p : Point) :
    (setTrue c p = true ↔ pattern p.value &&& pattern c.clearLevel = pattern c.setLevel) ∧
      (clearTrue c p = true ↔ pattern p.value &&& pattern c.clearLevel ≠ pattern c.setLevel) := by
  simp [setTrue, clearTrue, h]

theorem tests_noMatch (h : c.kind = .noMatch) (p : Point) :
    (setTrue c p = true ↔ pattern p.value &&& pattern c.clearLevel ≠ pattern c.setLevel) ∧
      (clearTrue c p = true ↔ pattern p.value &&& pattern c.clearLevel = pattern c.setLevel) := by
  simp [setTrue, clearTrue, h]

theorem tests_invalid (h : c.kind = .invalid) (p : Point) :
    (setTrue c p = true ↔ p.validity = .invalid) ∧ (clearTrue c p = true ↔ p.validity ≠ .invalid) := by
  simp [setTrue, clearTrue, h]

/-! The levels of an entry that passes validation (R99), and what follows for its tests. -/

/-- R99: what the validation of a Condition Table entry accepts. -/
theorem condition_valid_iff (c : Condition) :
    c.valid = true ↔
      c.point ≤ 45 ∧ 1 ≤ c.qualifySet ∧ 1 ≤ c.qualifyClear ∧ (c.kind = .above → c.clearLevel ≤ c.setLevel) ∧
        (c.kind = .below → c.setLevel ≤ c.clearLevel) := by
  simp [Condition.valid, and_assoc, imp_iff_not_or]

theorem clearLevel_le_of_valid_above (hvalid : c.valid = true) (h : c.kind = .above) : c.clearLevel ≤ c.setLevel := by
  obtain ⟨-, -, -, habove, -⟩ := (condition_valid_iff c).1 hvalid
  exact habove h

theorem setLevel_le_of_valid_below (hvalid : c.valid = true) (h : c.kind = .below) : c.setLevel ≤ c.clearLevel := by
  obtain ⟨-, -, -, -, hbelow⟩ := (condition_valid_iff c).1 hvalid
  exact hbelow h

/-- R105: the levels keep the tests of ABOVE and BELOW apart; the tests of the other kinds are each other's negation. -/
theorem not_setTrue_and_clearTrue (hvalid : c.valid = true) (p : Point) : ¬(setTrue c p = true ∧ clearTrue c p = true) := by
  cases h : c.kind with
  | above =>
    have hlevels := clearLevel_le_of_valid_above hvalid h
    rw [(tests_above h p).1, (tests_above h p).2]
    omega
  | below =>
    have hlevels := setLevel_le_of_valid_below hvalid h
    rw [(tests_below h p).1, (tests_below h p).2]
    omega
  | mtch =>
    rw [(tests_mtch h p).1, (tests_mtch h p).2]
    exact and_not_self
  | noMatch =>
    rw [(tests_noMatch h p).1, (tests_noMatch h p).2]
    exact not_and_self
  | invalid =>
    rw [(tests_invalid h p).1, (tests_invalid h p).2]
    exact and_not_self

end ConditionTests

/-! R104: the age of a record is in neither test. -/

@[simp] theorem setTrue_withAge (c : Condition) (p : Point) (n : Nat) : setTrue c { p with age := n } = setTrue c p := rfl

@[simp] theorem clearTrue_withAge (c : Condition) (p : Point) (n : Nat) :
    clearTrue c { p with age := n } = clearTrue c p := rfl

end Sys2Proof.Machine

section

open Sys2Proof Sys2Proof.Machine

/-- Settles O44: the tests kind by kind, never both on a valid entry, and on any age the same. -/
theorem conditionTestsFollowTheirKind : Obligations.ConditionTestsFollowTheirKind := by
  intro c p masked compare
  exact ⟨(tests_above · p), (tests_below · p), (tests_mtch · p), (tests_noMatch · p), (tests_invalid · p),
    (not_setTrue_and_clearTrue · p), fun n => ⟨setTrue_withAge c p n, clearTrue_withAge c p n⟩⟩

end

/-! PROOF. The Control Port (chapter 8): the device and register of a pending word, where a placed word lands by whether a
word for its pair waits, and the twelve pairs that bound the set. -/

namespace Sys2Proof.Machine

/-! The pair a word is for (R144). -/

/-- R144: what tells pending words apart. -/
def PortWord.key (w : PortWord) : Device × Register := (w.device, w.register)

theorem PortWord.key_eq_iff (x w : PortWord) : x.key = w.key ↔ x.device = w.device ∧ x.register = w.register :=
  Prod.mk_inj

/-- Whether a word for the pair waits decides between the two outcomes of a placement. -/
theorem joinWord_key_cases (w : PortWord) (l : List PortWord) :
    ((joinWord w l).map PortWord.key = l.map PortWord.key ∧ w.key ∈ l.map PortWord.key) ∨
      (joinWord w l = l ++ [w] ∧ w.key ∉ l.map PortWord.key) :=
  joinWord_keys w l

/-! Where a placed word lands (R144). -/

theorem WordClass.higher_eq_ite (a b : WordClass) :
    a.higher b =
      if a = .safety ∨ b = .safety then .safety else if a = .pump ∨ b = .pump then .pump else .charger := by
  cases a <;> cases b <;> rfl

theorem joinWord_cons_same {w x : PortWord} (l : List PortWord) (h : x.key = w.key) :
    joinWord w (x :: l) = ⟨w.device, w.register, w.value, x.cls.higher w.cls⟩ :: l := by
  obtain ⟨hdevice, hregister⟩ := (x.key_eq_iff w).1 h
  rw [joinWord, if_pos ⟨hdevice, hregister⟩, hdevice, hregister]

theorem joinWord_cons_other {w x : PortWord} (l : List PortWord) (h : x.key ≠ w.key) :
    joinWord w (x :: l) = x :: joinWord w l := by
  rw [joinWord, if_neg ((x.key_eq_iff w).not.1 h)]

/-- A placement passes the words of other pairs by. -/
theorem joinWord_append_of_not_mem {w : PortWord} {l1 : List PortWord} (l2 : List PortWord)
    (h : w.key ∉ l1.map PortWord.key) : joinWord w (l1 ++ l2) = l1 ++ joinWord w l2 := by
  induction l1 with
  | nil => rfl
  | cons y l1 ih =>
    rw [List.map_cons, List.mem_cons, not_or] at h
    obtain ⟨hy, hrest⟩ := h
    rw [List.cons_append, joinWord_cons_other _ (Ne.symm hy), ih hrest, List.cons_append]

theorem joinWord_of_not_mem {w : PortWord} {l : List PortWord} (h : w.key ∉ l.map PortWord.key) :
    joinWord w l = l ++ [w] := by
  simpa [joinWord] using joinWord_append_of_not_mem [] h

/-- In a set without a second word for a pair, the waiting word of the pair is the first that a placement meets. -/
theorem joinWord_replaces {w x : PortWord} {l1 l2 : List PortWord} (hl : ((l1 ++ x :: l2).map PortWord.key).Nodup)
    (hx : x.key = w.key) :
    joinWord w (l1 ++ x :: l2) = l1 ++ ⟨w.device, w.register, w.value, x.cls.higher w.cls⟩ :: l2 := by
  have hfirst : w.key ∉ l1.map PortWord.key := by
    rw [List.map_append, List.map_cons, List.nodup_middle, List.nodup_cons, hx] at hl
    exact fun hmem => hl.1 (List.mem_append_left _ hmem)
  rw [joinWord_append_of_not_mem _ hfirst, joinWord_cons_same l2 hx]

/-! What a placement makes of the pairs in the set (R144). -/

theorem joinWord_keys_nodup (w : PortWord) {l : List PortWord} (hl : (l.map PortWord.key).Nodup) :
    ((joinWord w l).map PortWord.key).Nodup := by
  rcases joinWord_key_cases w l with ⟨hkeys, -⟩ | ⟨hjoin, hnew⟩
  · rwa [hkeys]
  · rw [hjoin, List.map_append, List.map_singleton, ← List.concat_eq_append]
    exact hl.concat hnew

theorem joinWord_keys_subset (w : PortWord) (l : List PortWord) :
    (joinWord w l).map PortWord.key ⊆ (w :: l).map PortWord.key := by
  rcases joinWord_key_cases w l with ⟨hkeys, -⟩ | ⟨hjoin, -⟩
  · rw [hkeys]
    exact List.subset_cons_self _ _
  · rw [hjoin]
    exact ((List.perm_append_singleton w l).map PortWord.key).subset

/-! The twelve pairs (R143, R144). -/

/-- R143, R144: each device with each of its own registers. -/
def portPairs : List (Device × Register) :=
  ([.pumpAB, .pumpBA, .charger] ×ˢ
    [.setpoint, .clamp, .enable, .statusRead, .currentLimit, .voltageTarget, .chargeEnable, .chargeStatus]).filter
      fun k => k.2.ofDevice k.1

theorem length_portPairs : portPairs.length = 12 := by decide

theorem mem_portPairs_iff (d : Device) (r : Register) : (d, r) ∈ portPairs ↔ r.ofDevice d = true := by
  have hdevice : d ∈ [Device.pumpAB, .pumpBA, .charger] := by cases d <;> decide
  have hregister : r ∈ [Register.setpoint, .clamp, .enable, .statusRead, .currentLimit, .voltageTarget, .chargeEnable,
      .chargeStatus] := by cases r <;> decide
  rw [portPairs, List.mem_filter]
  exact and_iff_right (List.pair_mem_product.2 ⟨hdevice, hregister⟩)

/-- R144: a set without a second word for a pair has room for every placement. -/
theorem length_le_twelve_of_keys_nodup {l : List PortWord} (hl : (l.map PortWord.key).Nodup)
    (hpairs : l.map PortWord.key ⊆ portPairs) : l.length ≤ 12 := by
  have hle := (hl.subperm hpairs).length_le
  rwa [List.length_map, length_portPairs] at hle

theorem keys_subset_portPairs {l : List PortWord} (h : ∀ x ∈ l, x.register.ofDevice x.device = true) :
    l.map PortWord.key ⊆ portPairs := by
  intro k hk
  obtain ⟨x, hx, rfl⟩ := List.mem_map.1 hk
  exact (mem_portPairs_iff x.device x.register).2 (h x hx)

end Sys2Proof.Machine

section

open Sys2Proof Sys2Proof.Machine

/-- Settles O49: where the placed word lands by whether its pair has a word waiting, and what that makes of the pairs. -/
theorem placedWordsCoalesce : Obligations.PlacedWordsCoalesce := by
  intro w l hl key higher
  refine ⟨joinWord_of_not_mem, ?_, joinWord_keys_nodup w hl, ?_⟩
  · rintro l1 l2 x rfl hx
    rw [joinWord_replaces hl hx, WordClass.higher_eq_ite]
  · intro hregisters
    exact length_le_twelve_of_keys_nodup (joinWord_keys_nodup w hl)
      (List.Subset.trans (joinWord_keys_subset w l) (keys_subset_portPairs hregisters))

end

/-! PROOF. Frames: what each shared operation changes, as the list of the parts it may touch and of the points it may write,
and how such lists compose. -/

namespace Sys2Proof.Machine

/-! Composing frames. -/

theorem Part.same_refl (p : Part) (s : State) : p.same s s := by cases p <;> rfl

theorem Part.same_trans {p : Part} {s t u : State} (h : p.same s t) (h' : p.same t u) : p.same s u := by
  cases p <;> exact Eq.trans h' h

theorem changesOnly_refl (l : List Part) (s : State) : changesOnly l s s := fun p _ => p.same_refl s

theorem changesOnly.mono {l l' : List Part} {s t : State} (h : changesOnly l s t) (hl : l ⊆ l') : changesOnly l' s t :=
  fun p hp => h p fun hmem => hp (hl hmem)

theorem changesOnly.comp {l : List Part} {s t u : State} (h : changesOnly l s t) (h' : changesOnly l t u) :
    changesOnly l s u := fun p hp => Part.same_trans (h p hp) (h' p hp)

/-- Two operations one after the other, within a common list of parts. -/
theorem changesOnly.trans {l l' m : List Part} {s t u : State} (h : changesOnly l s t) (h' : changesOnly l' t u)
    (hl : l ⊆ m) (hl' : l' ⊆ m) : changesOnly m s u := (h.mono hl).comp (h'.mono hl')

theorem pointsOnly_refl (l : List Nat) (s : State) : pointsOnly l s s := fun _ _ => rfl

theorem pointsOnly.mono {l l' : List Nat} {s t : State} (h : pointsOnly l s t) (hl : l ⊆ l') : pointsOnly l' s t :=
  fun i hi => h i fun hmem => hi (hl hmem)

theorem pointsOnly.comp {l : List Nat} {s t u : State} (h : pointsOnly l s t) (h' : pointsOnly l t u) :
    pointsOnly l s u := fun i hi => (h' i hi).trans (h i hi)

/-- Two operations one after the other, within a common list of points. -/
theorem pointsOnly.trans {l l' m : List Nat} {s t u : State} (h : pointsOnly l s t) (h' : pointsOnly l' t u)
    (hl : l ⊆ m) (hl' : l' ⊆ m) : pointsOnly m s u := (h.mono hl).comp (h'.mono hl')

/-- An operation that leaves the Point Table writes no point. -/
theorem changesOnly.pointsOnly {l : List Part} {s t : State} (h : changesOnly l s t) (hp : Part.points ∉ l)
    (m : List Nat) : pointsOnly m s t := fun i _ => by
  have hpoints : t.points = s.points := h .points hp
  rw [State.point, State.point, hpoints]

/-! The clock, the points and the ports. -/

theorem reach_changesOnly (t : Nat) (s : State) : changesOnly [.now] s (s.reach t) := by
  intro p hp; cases p <;> simp_all [Part.same]

theorem invalidate_changesOnly (i : Nat) (s : State) : changesOnly [.points] s (invalidate i s) :=
  writePoint_changesOnly _ _ _ s

theorem invalidate_pointsOnly (i : Nat) (s : State) : pointsOnly [i] s (invalidate i s) :=
  writePoint_pointsOnly _ _ _ s

theorem spanLoss_changesOnly (x : Side) (s : State) : changesOnly [.points] s (spanLoss x s) := by
  obtain ⟨v, validity, h⟩ := spanLoss_eq_writePoint x s
  exact h ▸ writePoint_changesOnly _ v validity s

theorem spanLoss_pointsOnly (x : Side) (s : State) : pointsOnly [lossPoint x] s (spanLoss x s) := by
  obtain ⟨v, validity, h⟩ := spanLoss_eq_writePoint x s
  exact h ▸ writePoint_pointsOnly _ v validity s

theorem afterUpdate_changesOnly (i : Nat) (s : State) : changesOnly [.points] s (afterUpdate i s) := by
  unfold afterUpdate
  split_ifs
  · exact spanLoss_changesOnly .a s
  · exact spanLoss_changesOnly .b s
  · exact changesOnly_refl _ s

theorem setPort_changesOnly (x : Side) (p : LinePort) (s : State) : changesOnly [.line x] s (s.setPort x p) := by
  intro p hp; cases p
  case line y => cases x <;> cases y <;> simp_all [Part.same, State.setPort, Pair.get, Pair.set]
  all_goals simp_all [Part.same]

theorem sendReply_changesOnly (m : Sender) (c : Byte) (st : Status) (r : List Byte) (s : State) :
    changesOnly [.line (replyPort m)] s (sendReply m c st r s) :=
  setPort_changesOnly (replyPort m) _ s

theorem setContacts_changesOnly (c : Pair (Option Nat)) (s : State) :
    changesOnly [.agent, .points] s (setContacts c s) := by
  intro p hp; cases p <;> simp_all [Part.same]

theorem dequeue_changesOnly (h : Handed) (s : State) : changesOnly [.inbox] s (dequeue h s) := by
  intro p hp; cases p <;> simp_all [Part.same]

theorem takeManaged_changesOnly (h : Handed) (s : State) :
    changesOnly [.inbox, .agent, .points] s (takeManaged h s) := by
  intro p hp; cases p <;> simp_all [Part.same]

/-- A write of the contact timers writes point 43 at most. -/
theorem setContacts_pointsOnly (c : Pair (Option Nat)) (s : State) : pointsOnly [43] s (setContacts c s) := by
  intro i hi
  have hne : 43 ≠ i := fun h => hi (by simp [h])
  unfold setContacts State.point
  split_ifs
  · rfl
  · simp [PointTable.write, List.getD_eq_getElem?_getD, hne]

theorem takeManaged_pointsOnly (h : Handed) (s : State) : pointsOnly [43] s (takeManaged h s) := by
  have hdequeue := (dequeue_changesOnly h s).pointsOnly (by simp) [43]
  unfold takeManaged
  split
  · exact hdequeue.comp (setContacts_pointsOnly _ _)
  · exact hdequeue

/-! Outputs and pumps. -/

theorem resolveOutputs_changesOnly (s : State) : changesOnly [.outputs] s (resolveOutputs s) := by
  intro p hp; cases p <;> simp_all [Part.same]

theorem startPulse_changesOnly (o d : Nat) (s : State) : changesOnly [.outputs] s (startPulse o d s) := by
  intro p hp; cases p <;> simp_all [Part.same]

theorem applyPump_changesOnly (c : Channel) (r : PumpResult) (s : State) :
    changesOnly [.pump c, .port, .points] s (applyPump c r s) := by
  intro p hp; cases p <;> simp_all [Part.same, applyPump_pump]

/-- A pump event writes the channel's state point, when its state changed. -/
theorem applyPump_pointsOnly (c : Channel) (r : PumpResult) (s : State) : pointsOnly [pumpPoint c] s (applyPump c r s) := by
  intro i hi
  have hne : pumpPoint c ≠ i := fun h => hi (by simp [h])
  unfold applyPump State.point
  split_ifs
  · rfl
  · simp [PointTable.write, List.getD_eq_getElem?_getD, hne]

theorem retargetPumps_pointsOnly (s : State) : pointsOnly [41, 42] s (retargetPumps s) :=
  (applyPump_pointsOnly .ab _ s).trans (applyPump_pointsOnly .ba _ _) (by simp [pumpPoint]) (by simp [pumpPoint])

theorem modeRequest_changesOnly (c : Channel) (m : Mode) (s : State) :
    changesOnly [.pump c, .port, .points] s (modeRequest c m s) := applyPump_changesOnly c _ s

theorem reactTo_changesOnly (before : State) (c : Channel) (s : State) :
    changesOnly [.pump c, .port, .points] s (reactTo before c s) := by
  unfold reactTo
  split_ifs
  · exact applyPump_changesOnly c _ s
  · exact changesOnly_refl _ s

theorem reactTo_pointsOnly (before : State) (c : Channel) (s : State) :
    pointsOnly [pumpPoint c] s (reactTo before c s) := by
  unfold reactTo
  split_ifs
  · exact applyPump_pointsOnly c _ s
  · exact pointsOnly_refl _ s

theorem reactBoth_changesOnly (before s : State) :
    changesOnly [.pump .ab, .pump .ba, .port, .points] s (reactBoth before s) :=
  (reactTo_changesOnly before .ab s).trans (reactTo_changesOnly before .ba _) (by simp) (by simp)

theorem reactBoth_pointsOnly (before s : State) : pointsOnly [41, 42] s (reactBoth before s) :=
  (reactTo_pointsOnly before .ab s).trans (reactTo_pointsOnly before .ba _) (by simp [pumpPoint]) (by simp [pumpPoint])

theorem takeHandedLevel_changesOnly (s : State) :
    changesOnly [.supply, .pump .ab, .pump .ba, .port, .points] s (takeHandedLevel s) := by
  have hhanded : changesOnly [.supply] s { s with supply := { s.supply with handed := false } } := by
    intro p hp; cases p <;> simp_all [Part.same]
  exact hhanded.trans ((applyPump_changesOnly .ab _ _).trans (applyPump_changesOnly .ba _ _) (by simp) (by simp))
    (by simp) (List.Subset.refl _)

/-! The effective shed level. -/

/-- R155: the level in force replaced. -/
def State.withLevel (n : Nat) (s : State) : State := { s with supply := { s.supply with level := n } }

/-- R112: the shed request replaced. -/
def State.withShedRequest (n : Nat) (s : State) : State := { s with engine := { s.engine with shedRequest := n } }

/-- R113: the reduce-trigger set replaced. -/
def State.withReduce (r : Duo Bool) (s : State) : State := { s with engine := { s.engine with reduce := r } }

/-- R114: the output-on request set replaced. -/
def State.withOutRequest (o : BitVec 7) (s : State) : State := { s with engine := { s.engine with outRequest := o } }

theorem withLevel_changesOnly (n : Nat) (s : State) : changesOnly [.supply] s (s.withLevel n) := by
  intro p hp; cases p <;> simp_all [Part.same, State.withLevel]

theorem withShedRequest_changesOnly (n : Nat) (s : State) : changesOnly [.engine] s (s.withShedRequest n) := by
  intro p hp; cases p <;> simp_all [Part.same, State.withShedRequest]

theorem withReduce_changesOnly (r : Duo Bool) (s : State) : changesOnly [.engine] s (s.withReduce r) := by
  intro p hp; cases p <;> simp_all [Part.same, State.withReduce]

theorem withOutRequest_changesOnly (o : BitVec 7) (s : State) : changesOnly [.engine] s (s.withOutRequest o) := by
  intro p hp; cases p <;> simp_all [Part.same, State.withOutRequest]

/-- R155: nothing to recompute. -/
theorem recomputeShed_of_eq {s : State} (h : s.shedLevel = s.supply.level) : recomputeShed s = s := if_pos h

/-- R155: a change of the level, as the operations it is made of. -/
theorem recomputeShed_of_ne {s : State} (h : s.shedLevel ≠ s.supply.level) :
    recomputeShed s = resolveOutputs (retargetPumps (writePoint 39 s.shedLevel .valid (s.withLevel s.shedLevel))) :=
  if_neg h

theorem recomputeShed_changesOnly (s : State) :
    changesOnly [.supply, .points, .pump .ab, .pump .ba, .port, .outputs] s (recomputeShed s) := by
  intro p hp; cases p
  case pump c => cases c <;> simp at hp
  all_goals simp_all [Part.same]

theorem recomputeShed_pointsOnly (s : State) : pointsOnly [39, 41, 42] s (recomputeShed s) := by
  by_cases h : s.shedLevel = s.supply.level
  · rw [recomputeShed_of_eq h]
    exact pointsOnly_refl _ s
  · rw [recomputeShed_of_ne h]
    have hlevel := (withLevel_changesOnly s.shedLevel s).pointsOnly (by simp) [39]
    have hpoint := hlevel.comp (writePoint_pointsOnly 39 s.shedLevel .valid _)
    have hpumps := fun u => (retargetPumps_pointsOnly u).comp ((resolveOutputs_changesOnly _).pointsOnly (by simp) _)
    exact hpoint.trans (hpumps _) (by simp) (by simp)

/-- R116: the three outputs handed, as the operations this is made of. -/
theorem handOutputs_eq (s : State) :
    handOutputs s =
      let acts := standingActions s.tables s.engine.runs
      let s1 := recomputeShed (s.withShedRequest (shedRequestOf acts))
      resolveOutputs ((reactBoth s1 (s1.withReduce ⟨reduceOf .ab acts, reduceOf .ba acts⟩)).withOutRequest
        (outRequestOf acts)) := rfl

theorem handOutputs_pointsOnly (s : State) : pointsOnly [39, 41, 42] s (handOutputs s) := by
  rw [handOutputs_eq]
  have hrequest := ((withShedRequest_changesOnly _ s).pointsOnly (by simp) _).comp (recomputeShed_pointsOnly
    (s.withShedRequest (shedRequestOf (standingActions s.tables s.engine.runs))))
  have hreduce := fun r b u => ((withReduce_changesOnly r u).pointsOnly (by simp) [41, 42]).comp (reactBoth_pointsOnly b _)
  have hout := fun o u => ((withOutRequest_changesOnly o u).pointsOnly (by simp) [41, 42]).comp
    ((resolveOutputs_changesOnly _).pointsOnly (by simp) _)
  exact hrequest.trans ((hreduce _ _ _).comp (hout _ _)) (List.Subset.refl _) (by simp)

theorem applySupply_changesOnly (v : Supply) (extra : List PortWord) (s : State) :
    changesOnly [.supply, .points, .outputs, .port] s (applySupply v extra s) := by
  intro p hp; cases p <;> simp_all [Part.same]

theorem takeSupply_changesOnly (v : Supply) (extra : List PortWord) (s : State) :
    changesOnly [.supply, .points, .pump .ab, .pump .ba, .port, .outputs] s (takeSupply v extra s) :=
  (applySupply_changesOnly v extra s).trans (recomputeShed_changesOnly _) (by simp) (List.Subset.refl _)

theorem setShedForcing_changesOnly (f : Option Nat) (s : State) :
    changesOnly [.agent, .supply, .points, .pump .ab, .pump .ba, .port, .outputs] s (setShedForcing f s) := by
  intro p hp; cases p
  case pump c => cases c <;> simp at hp
  all_goals simp_all [Part.same]

end Sys2Proof.Machine

/-! PROOF. The layouts of the table entries (section 2.5.1, R160): what each owner's reader accepts, and that it reads
back the bytes of an acceptable entry. -/

namespace Sys2Proof.Machine

/-! Fields of one, two bytes. -/

theorem byteAt_lt (l : List Byte) (i : Nat) : byteAt l i < 256 := (l.getD i 0).isLt

theorem halfAt_lt (l : List Byte) (i : Nat) : halfAt l i < 65536 := by
  have hhigh := byteAt_lt l i
  have hlow := byteAt_lt l (i + 1)
  unfold halfAt
  omega

theorem signedAt_range (l : List Byte) (i : Nat) : isSigned16 (signedAt l i) := by
  have h := halfAt_lt l i
  unfold signedAt toSigned
  split_ifs <;> constructor <;> omega

theorem toNat_byteOf {n : Nat} (h : n < 256) : (byteOf n).toNat = n := by
  rw [byteOf, BitVec.toNat_ofNat, Nat.mod_eq_of_lt h]

theorem flagOf_bit (b : Bool) : flagOf (bit b) = some b := by cases b <;> rfl

theorem bit_lt (b : Bool) : bit b < 256 := by cases b <;> decide

/-! Reading what stands at the front of a list of bytes, and behind it. -/

theorem byteAt_byteOf_zero {n : Nat} (l : List Byte) (h : n < 256) : byteAt (byteOf n :: l) 0 = n := by
  rw [byteAt_cons_zero, toNat_byteOf h]

@[simp] theorem halfAt_cons_succ (b : Byte) (l : List Byte) (i : Nat) : halfAt (b :: l) (i + 1) = halfAt l i := rfl

@[simp] theorem signedAt_cons_succ (b : Byte) (l : List Byte) (i : Nat) : signedAt (b :: l) (i + 1) = signedAt l i := rfl

@[simp] theorem byteAt_bytes16_succ (n : Nat) (l : List Byte) (i : Nat) :
    byteAt (bytes16 n ++ l) (i + 2) = byteAt l i := rfl

@[simp] theorem halfAt_bytes16_succ (n : Nat) (l : List Byte) (i : Nat) :
    halfAt (bytes16 n ++ l) (i + 2) = halfAt l i := rfl

@[simp] theorem signedAt_bytes16_succ (n : Nat) (l : List Byte) (i : Nat) :
    signedAt (bytes16 n ++ l) (i + 2) = signedAt l i := rfl

@[simp] theorem byteAt_bytesSigned_succ (v : Int) (l : List Byte) (i : Nat) :
    byteAt (bytesSigned v ++ l) (i + 2) = byteAt l i := rfl

@[simp] theorem halfAt_bytesSigned_succ (v : Int) (l : List Byte) (i : Nat) :
    halfAt (bytesSigned v ++ l) (i + 2) = halfAt l i := rfl

@[simp] theorem signedAt_bytesSigned_succ (v : Int) (l : List Byte) (i : Nat) :
    signedAt (bytesSigned v ++ l) (i + 2) = signedAt l i := rfl

theorem halfAt_bytes16_zero {n : Nat} (l : List Byte) (h : n < 65536) : halfAt (bytes16 n ++ l) 0 = n := by
  simp [halfAt, bytes16]
  omega

theorem ofSigned_lt (v : Int) : ofSigned v < 65536 := by
  unfold ofSigned
  omega

theorem signedAt_bytesSigned_zero {v : Int} (l : List Byte) (h : isSigned16 v) : signedAt (bytesSigned v ++ l) 0 = v := by
  rw [signedAt, bytesSigned, halfAt_bytes16_zero l (ofSigned_lt v), toSigned_ofSigned v h]

/-- A signed field of a value from 0 up reads as an unsigned one too. -/
theorem halfAt_bytesSigned_zero {v : Int} (l : List Byte) (h0 : 0 ≤ v) (h : v ≤ 32767) :
    (halfAt (bytesSigned v ++ l) 0 : Int) = v := by
  rw [bytesSigned, halfAt_bytes16_zero l (ofSigned_lt v), ofSigned]
  omega

@[simp] theorem length_bytes16 (n : Nat) : (bytes16 n).length = 2 := rfl

@[simp] theorem length_bytesSigned (v : Int) : (bytesSigned v).length = 2 := rfl

/-! Slices of a list of bytes. -/

/-- `n` bytes of a list from offset `k` on. -/
def slice (l : List Byte) (k n : Nat) : List Byte := (l.drop k).take n

/-! Table 1 (R15). -/

theorem Action.ofCode_code (a : Action) : Action.ofCode a.code = some a := by cases a <;> rfl

theorem Action.code_of_ofCode {n : Nat} {a : Action} (h : Action.ofCode n = some a) : a.code = n := by
  match n with
  | 0 | 1 | 2 | 3 => cases h; rfl

theorem Action.code_lt (a : Action) : a.code < 256 := by cases a <;> decide

theorem readAction_eq_some_iff (i : Nat) (e : List Byte) (a : Action) :
    readAction i e = some a ↔ Action.ofCode (byteAt e 0) = some a ∧ (i = 4 → a = .consume) := by
  unfold readAction
  split
  next x hx => rw [hx]; split_ifs <;> grind
  next hx => simp [hx]

/-- R15: the bytes of an action that may stand at an index read back. -/
theorem readAction_bytes {i : Nat} {a : Action} (h : i = 4 → a = .consume) : readAction i a.bytes = some a := by
  rw [readAction_eq_some_iff, Action.bytes, byteAt_byteOf_zero _ a.code_lt]
  exact ⟨a.ofCode_code, h⟩

/-! Table 2 (R57). -/

theorem readScan_good {e : List Byte} {t : ScanTable} (h : readScan e = some t) : t.good := by
  simp only [readScan, Option.ite_none_right_eq_some, Option.some.injEq] at h
  obtain ⟨hvalid, rfl⟩ := h
  refine ⟨hvalid, by simp, ?_⟩
  simp only [List.mem_map, forall_exists_index, and_imp, forall_apply_eq_imp_iff₂]
  exact fun i _ => byteAt_lt e (1 + i)

theorem map_range_getD {α β : Type} (f : α → β) {l : List α} {n : Nat} (h : l.length = n) (d : α) :
    (List.range n).map (fun i => f (l.getD i d)) = l.map f := by
  subst h
  apply List.ext_getElem
  · simp
  · intro i hi _
    simp only [List.length_map, List.length_range] at hi
    simp [hi]

theorem byteAt_append_left {l : List Byte} (m : List Byte) {i : Nat} (h : i < l.length) :
    byteAt (l ++ m) i = byteAt l i := by
  simp [byteAt, List.getD_eq_getElem?_getD, List.getElem?_append_left h]

theorem byteAt_append_right {l : List Byte} (m : List Byte) (i : Nat) : byteAt (l ++ m) (l.length + i) = byteAt m i := by
  simp [byteAt, List.getD_eq_getElem?_getD, List.getElem?_append_right]

theorem halfAt_append_right {l : List Byte} (m : List Byte) (i : Nat) : halfAt (l ++ m) (l.length + i) = halfAt m i := by
  rw [halfAt, Nat.add_assoc, byteAt_append_right, byteAt_append_right, halfAt]

theorem byteAt_map_byteOf {l : List Nat} {i : Nat} (hi : i < l.length) (h : l[i] < 256) :
    byteAt (l.map byteOf) i = l[i] := by
  simp [byteAt, hi, toNat_byteOf h]

theorem scanBytes_eq {t : ScanTable} (h : t.channels.length = 16) :
    t.bytes = byteOf t.count :: (t.channels.map byteOf ++ bytes16 t.period) := by
  rw [ScanTable.bytes, map_range_getD byteOf h]
  rfl

theorem scanTable_valid_iff (t : ScanTable) :
    t.valid = true ↔
      1 ≤ t.count ∧ t.count ≤ 16 ∧ (∀ ch ∈ t.channels.take t.count, ch ≤ 15) ∧ 10 ≤ t.period ∧ t.period ≤ 1000 := by
  simp [ScanTable.valid, and_assoc]

theorem readScan_bytes {t : ScanTable} (h : t.good) : readScan t.bytes = some t := by
  obtain ⟨hvalid, hlen, hch⟩ := h
  obtain ⟨-, hcount, -, -, hperiod⟩ := (scanTable_valid_iff t).1 hvalid
  have hchannels : (List.range 16).map (fun i => byteAt t.bytes (1 + i)) = t.channels := by
    apply List.ext_getElem
    · simp [hlen]
    · intro i hi hi'
      rw [List.getElem_map, List.getElem_range, scanBytes_eq hlen, Nat.add_comm, byteAt_cons_succ,
        byteAt_append_left _ (by simpa using hi'), byteAt_map_byteOf hi' (hch _ (List.getElem_mem hi'))]
  have hread : halfAt t.bytes 17 = t.period := by
    have hmap : (t.channels.map byteOf).length = 16 := by simp [hlen]
    rw [scanBytes_eq hlen, halfAt_cons_succ, ← hmap]
    exact (halfAt_append_right (bytes16 t.period) 0).trans
      ((List.append_nil (bytes16 t.period)) ▸ halfAt_bytes16_zero [] (by omega))
  have hfirst : byteAt t.bytes 0 = t.count := by rw [scanBytes_eq hlen, byteAt_byteOf_zero _ (by omega)]
  rw [readScan, hchannels, hread, hfirst, if_pos hvalid]

/-! Table 3 (R63). -/

theorem CalMode.ofCode_code (m : CalMode) : CalMode.ofCode m.code = some m := by cases m <;> rfl

theorem CalMode.code_of_ofCode {n : Nat} {m : CalMode} (h : CalMode.ofCode n = some m) : m.code = n := by
  match n with
  | 0 | 1 => cases h; rfl

theorem CalMode.code_lt (m : CalMode) : m.code < 256 := by cases m <;> decide

theorem readCalibration_eq_some_iff (e : List Byte) (c : Calibration) :
    readCalibration e = some c ↔
      CalMode.ofCode (byteAt e 0) = some c.mode ∧ halfAt e 1 = c.gain ∧ signedAt e 3 = c.offset ∧ byteAt e 5 = c.curve ∧
        byteAt e 6 = c.shift ∧ c.curve ≤ 3 ∧ c.shift ≤ 7 := by
  obtain ⟨mode, gain, offset, curve, shift⟩ := c
  unfold readCalibration
  split
  next m hm => rw [hm]; split_ifs <;> grind
  next hm => simp [hm]

theorem readCalibration_good {e : List Byte} {c : Calibration} (h : readCalibration e = some c) : c.good := by
  obtain ⟨-, hgain, hoffset, -, -, hcurve, hshift⟩ := (readCalibration_eq_some_iff e c).1 h
  exact ⟨hgain ▸ halfAt_lt e 1, hoffset ▸ signedAt_range e 3, hcurve, hshift⟩

theorem readCalibration_bytes {c : Calibration} (h : c.good) : readCalibration c.bytes = some c := by
  obtain ⟨hgain, hoffset, hcurve, hshift⟩ := h
  have hmode := c.mode.code_lt
  rw [readCalibration_eq_some_iff]
  simp (disch := omega) [Calibration.bytes, halfAt_bytes16_zero, signedAt_bytesSigned_zero, toNat_byteOf,
    CalMode.ofCode_code, *]

/-! Table 4 (R66). -/

theorem readCurve_good {e : List Byte} {c : Curve} (h : readCurve e = some c) : c.good := by
  simp only [readCurve, Option.ite_none_right_eq_some, Option.some.injEq] at h
  obtain ⟨hvalid, rfl⟩ := h
  refine ⟨hvalid, by simp, ?_⟩
  simp only [List.mem_map, forall_exists_index, and_imp, forall_apply_eq_imp_iff₂]
  exact fun i _ => ⟨halfAt_lt e (1 + 4 * i), signedAt_range e (3 + 4 * i)⟩

/-- The four bytes of a breakpoint. -/
def pointBytes (q : Nat × Int) : List Byte := bytes16 q.1 ++ bytesSigned q.2

theorem curveBytes_eq {c : Curve} (h : c.points.length = 12) :
    c.bytes = byteOf c.count :: c.points.flatMap pointBytes := by
  have hpoints : (List.range 12).flatMap (fun i => pointBytes (c.points.getD i (0, 0))) = c.points.flatMap pointBytes := by
    rw [List.flatMap_def, map_range_getD pointBytes h, ← List.flatMap_def]
  rw [← hpoints]
  rfl

/-- A field of the breakpoint at an index, in the bytes of a list of breakpoints. -/
theorem halfAt_flatMap_pointBytes {l : List (Nat × Int)} {i : Nat} (hi : i < l.length) (h : l[i].1 < 65536) :
    halfAt (l.flatMap pointBytes) (4 * i) = l[i].1 := by
  induction l generalizing i with
  | nil => simp at hi
  | cons q l ih =>
    rw [List.flatMap_cons]
    cases i with
    | zero => rw [pointBytes, List.append_assoc]; exact halfAt_bytes16_zero _ h
    | succ i => exact ih (Nat.lt_of_succ_lt_succ hi) h

theorem signedAt_flatMap_pointBytes {l : List (Nat × Int)} {i : Nat} (hi : i < l.length) (h : isSigned16 l[i].2) :
    signedAt (l.flatMap pointBytes) (4 * i + 2) = l[i].2 := by
  induction l generalizing i with
  | nil => simp at hi
  | cons q l ih =>
    rw [List.flatMap_cons]
    cases i with
    | zero =>
      rw [pointBytes, List.append_assoc]
      exact (signedAt_bytes16_succ _ _ 0).trans (signedAt_bytesSigned_zero _ h)
    | succ i => exact ih (Nat.lt_of_succ_lt_succ hi) h

theorem readCurve_bytes {c : Curve} (h : c.good) : readCurve c.bytes = some c := by
  obtain ⟨hvalid, hlen, hq⟩ := h
  obtain ⟨-, hcount, -⟩ := (curve_valid_iff c).1 hvalid
  have hpoints : (List.range 12).map (fun i => (halfAt c.bytes (1 + 4 * i), signedAt c.bytes (3 + 4 * i))) = c.points := by
    apply List.ext_getElem
    · simp [hlen]
    · intro i hi hi'
      obtain ⟨hcode, hvalue⟩ := hq _ (List.getElem_mem hi')
      rw [List.getElem_map, List.getElem_range, curveBytes_eq hlen, Nat.add_comm 1, Nat.add_comm 3, halfAt_cons_succ,
        signedAt_cons_succ, halfAt_flatMap_pointBytes hi' hcode, signedAt_flatMap_pointBytes hi' hvalue]
  have hfirst : byteAt c.bytes 0 = c.count := by rw [curveBytes_eq hlen, byteAt_byteOf_zero _ (by omega)]
  rw [readCurve, hpoints, hfirst, if_pos hvalid]

/-! Table 5 (R76). -/

theorem pollEntry_valid_iff (e : PollEntry) :
    e.valid = true ↔
      e.addr ≤ 127 ∧ (e.length = 1 ∨ e.length = 2) ∧ ¬(e.signed = true ∧ e.length = 1) ∧ 1 ≤ e.period ∧
        e.retryLimit ≤ 3 := by
  simp [PollEntry.valid, and_assoc, imp_iff_not_or]

theorem readPollEntry_eq_some_iff (l : List Byte) (e : PollEntry) :
    readPollEntry l = some e ↔
      flagOf (byteAt l 5) = some e.signed ∧ byteAt l 0 = e.addr ∧ byteAt l 1 = e.register ∧ byteAt l 2 = e.length ∧
        halfAt l 3 = e.mask ∧ halfAt l 6 = e.gain ∧ signedAt l 8 = e.offset ∧ byteAt l 10 = e.period ∧
        byteAt l 11 = e.retryLimit ∧ e.valid = true := by
  obtain ⟨addr, register, length, mask, signed, gain, offset, period, retryLimit⟩ := e
  unfold readPollEntry
  split
  next sg hsg => simp only [hsg]; split_ifs <;> grind
  next hsg => simp [hsg]

theorem readPollEntry_good {l : List Byte} {e : PollEntry} (h : readPollEntry l = some e) : e.good := by
  obtain ⟨-, -, hregister, -, hmask, hgain, hoffset, hperiod, -, hvalid⟩ := (readPollEntry_eq_some_iff l e).1 h
  exact ⟨hvalid, hregister ▸ byteAt_lt l 1, hmask ▸ halfAt_lt l 3, hgain ▸ halfAt_lt l 6, hoffset ▸ signedAt_range l 8,
    hperiod ▸ byteAt_lt l 10⟩

theorem readPollEntry_bytes {e : PollEntry} (h : e.good) : readPollEntry e.bytes = some e := by
  obtain ⟨hvalid, hregister, hmask, hgain, hoffset, hperiod⟩ := h
  obtain ⟨haddr, hlength, -, -, hretry⟩ := (pollEntry_valid_iff e).1 hvalid
  have hsigned := bit_lt e.signed
  rw [readPollEntry_eq_some_iff]
  simp (disch := omega) [PollEntry.bytes, halfAt_bytes16_zero, signedAt_bytesSigned_zero, toNat_byteOf, flagOf_bit, *]

/-! Table 6 (R98, R99). -/

theorem Kind.ofCode_code (k : Kind) : Kind.ofCode k.code = some k := by cases k <;> rfl

theorem Kind.code_of_ofCode {n : Nat} {k : Kind} (h : Kind.ofCode n = some k) : k.code = n := by
  match n with
  | 0 | 1 | 2 | 3 | 4 => cases h; rfl

theorem Kind.code_lt (k : Kind) : k.code < 256 := by cases k <;> decide

theorem Severity.ofCode_code (x : Severity) : Severity.ofCode x.code = some x := by cases x <;> rfl

theorem Severity.code_of_ofCode {n : Nat} {x : Severity} (h : Severity.ofCode n = some x) : x.code = n := by
  match n with
  | 0 | 1 | 2 | 3 => cases h; rfl

theorem Severity.code_lt (x : Severity) : x.code < 256 := by cases x <;> decide

theorem Suppressor.ofCode_code {own : Nat} {x : Suppressor} (h : x.good own = true) :
    Suppressor.ofCode own x.code.1 x.code.2 = some x := by
  cases x with
  | none => rfl
  | condition n => 
    have hn : n ≤ 63 ∧ n ≠ own := by simpa [Suppressor.good] using h
    exact if_pos hn
  | ufm p => cases p <;> rfl
  | lost p => cases p <;> rfl

/-- A code that names no suppressor reads as the suppressor NONE. -/
theorem Suppressor.good_of_ofCode {own code arg : Nat} {x : Suppressor} (h : Suppressor.ofCode own code arg = some x) :
    x.good own = true := by
  unfold Suppressor.ofCode at h
  split at h <;> grind [Suppressor.good]

theorem Suppressor.code_lt {own : Nat} {x : Suppressor} (h : x.good own = true) : x.code.1 < 256 ∧ x.code.2 < 256 := by
  cases x with
  | none => decide
  | condition n =>
    have hn : n ≤ 63 ∧ n ≠ own := by simpa [Suppressor.good] using h
    exact ⟨show 1 < 256 by decide, Nat.lt_of_le_of_lt hn.1 (by decide)⟩
  | ufm p => cases p <;> decide
  | lost p => cases p <;> decide

theorem CondAction.ofCode_code {x : CondAction} (h : x.good = true) : CondAction.ofCode x.code.1 x.code.2 = some x := by
  cases x with
  | none => rfl
  | reduce c => cases c <;> rfl
  | shed n => exact if_pos (of_decide_eq_true h)
  | output n => exact if_pos (of_decide_eq_true h)
  | pulse n => exact if_pos (of_decide_eq_true h)

/-- A code that names no action reads as the action NONE. -/
theorem CondAction.good_of_ofCode {code arg : Nat} {x : CondAction} (h : CondAction.ofCode code arg = some x) :
    x.good = true := by
  unfold CondAction.ofCode at h
  split at h <;> grind [CondAction.good]

theorem CondAction.code_lt {x : CondAction} (h : x.good = true) : x.code.1 < 256 ∧ x.code.2 < 256 := by
  cases x with
  | none => decide
  | reduce c => cases c <;> decide
  | shed n | output n | pulse n =>
    simp only [CondAction.good, decide_eq_true_eq] at h
    simp only [CondAction.code]
    omega

theorem condition_valid_cases (c : Condition) (h : c.valid = true) :
    c.point ≤ 45 ∧ 1 ≤ c.qualifySet ∧ 1 ≤ c.qualifyClear := by
  simp [Condition.valid] at h
  omega

theorem readCondition_eq_some_iff (own : Nat) (e : List Byte) (c : Condition) :
    readCondition own e = some c ↔
      flagOf (byteAt e 0) = some c.enable ∧ byteAt e 1 = c.point ∧ Kind.ofCode (byteAt e 2) = some c.kind ∧
        signedAt e 3 = c.setLevel ∧ signedAt e 5 = c.clearLevel ∧ byteAt e 7 = c.qualifySet ∧
        byteAt e 8 = c.qualifyClear ∧ Severity.ofCode (byteAt e 9) = some c.severity ∧
        flagOf (byteAt e 10) = some c.latching ∧ flagOf (byteAt e 11) = some c.report ∧
        Suppressor.ofCode own (byteAt e 12) (byteAt e 13) = some c.suppressor ∧
        CondAction.ofCode (byteAt e 14) (byteAt e 15) = some c.action ∧ c.valid = true := by
  obtain ⟨enable, point, kind, setLevel, clearLevel, qualifySet, qualifyClear, severity, latching, report, suppressor,
    action⟩ := c
  simp only [readCondition, Option.bind_eq_bind, Option.bind_eq_some_iff, Option.ite_none_right_eq_some,
    Option.some.injEq, Condition.mk.injEq]
  constructor
  · rintro ⟨_, henable, _, hkind, _, hseverity, _, hlatching, _, hreport, _, hsuppressor, _, haction, hvalid, rfl, rfl,
      rfl, rfl, rfl, rfl, rfl, rfl, rfl, rfl, rfl, rfl⟩
    exact ⟨henable, rfl, hkind, rfl, rfl, rfl, rfl, hseverity, hlatching, hreport, hsuppressor, haction, hvalid⟩
  · rintro ⟨henable, rfl, hkind, rfl, rfl, rfl, rfl, hseverity, hlatching, hreport, hsuppressor, haction, hvalid⟩
    exact ⟨_, henable, _, hkind, _, hseverity, _, hlatching, _, hreport, _, hsuppressor, _, haction, hvalid, rfl, rfl,
      rfl, rfl, rfl, rfl, rfl, rfl, rfl, rfl, rfl, rfl⟩

theorem readCondition_good {own : Nat} {e : List Byte} {c : Condition} (h : readCondition own e = some c) :
    c.good own := by
  obtain ⟨-, -, -, hset, hclear, hqset, hqclear, -, -, -, hsuppressor, haction, hvalid⟩ :=
    (readCondition_eq_some_iff own e c).1 h
  exact ⟨hvalid, hset ▸ signedAt_range e 3, hclear ▸ signedAt_range e 5, hqset ▸ byteAt_lt e 7,
    hqclear ▸ byteAt_lt e 8, Suppressor.good_of_ofCode hsuppressor, CondAction.good_of_ofCode haction⟩

theorem readCondition_bytes {own : Nat} {c : Condition} (h : c.good own) : readCondition own c.bytes = some c := by
  obtain ⟨hvalid, hset, hclear, hqset, hqclear, hsuppressor, haction⟩ := h
  obtain ⟨hpoint, -, -⟩ := condition_valid_cases c hvalid
  obtain ⟨hscode, hsarg⟩ := Suppressor.code_lt hsuppressor
  obtain ⟨hacode, haarg⟩ := CondAction.code_lt haction
  have hkind := c.kind.code_lt
  have hseverity := c.severity.code_lt
  have henable := bit_lt c.enable
  have hlatching := bit_lt c.latching
  have hreport := bit_lt c.report
  rw [readCondition_eq_some_iff]
  simp (disch := omega) [Condition.bytes, signedAt_bytesSigned_zero, toNat_byteOf, flagOf_bit, Kind.ofCode_code,
    Severity.ofCode_code, Suppressor.ofCode_code, CondAction.ofCode_code, *]

/-! Tables 7 and 11 (R156). -/

theorem readShed_bytes (v : BitVec 7) : readShed (shedBytes v) = some v := by
  have hv := v.isLt
  simp (disch := omega) [readShed, shedBytes, toNat_byteOf]
  omega

theorem readIdle_eq_some_iff (i : Nat) (e : List Byte) (on : Bool) :
    readIdle i e = some on ↔ flagOf (byteAt e 0) = some on ∧ (i = 7 → on = false) := by
  unfold readIdle
  split
  next x hx => rw [hx]; split_ifs <;> grind
  next hx => simp [hx]

theorem readIdle_bytes {i : Nat} {on : Bool} (h : i = 7 → on = false) : readIdle i (idleBytes on) = some on := by
  rw [readIdle_eq_some_iff, idleBytes, byteAt_byteOf_zero _ (bit_lt on)]
  exact ⟨flagOf_bit on, h⟩

/-! Table 8 (R146). -/

theorem readSupply_good {e : List Byte} {t : SupplySettings} (h : readSupply e = some t) :
    t.valid = true ∧ isSigned16 t.t1 ∧ isSigned16 t.t2 ∧ isSigned16 t.t3 ∧ isSigned16 t.t4 := by
  simp only [readSupply, Option.ite_none_right_eq_some, Option.some.injEq] at h
  obtain ⟨hvalid, rfl⟩ := h
  exact ⟨hvalid, signedAt_range e 21, signedAt_range e 23, signedAt_range e 25, signedAt_range e 27⟩

theorem supplyBytes_eq (t : SupplySettings) :
    t.bytes =
      bytesSigned t.presence ++ bytesSigned t.floor ++ [byteOf t.arrayCode] ++ bytesSigned t.brownOut ++
        bytesSigned t.brownOutRelease ++ bytesSigned t.absorbVoltage ++ bytesSigned t.floatVoltage ++
        bytesSigned t.floatReturn ++ bytesSigned t.warmReduction ++ bytesSigned t.absorbEnd ++
        [byteOf t.absorbTime, byteOf t.bulkTime] ++ bytesSigned t.t1 ++ bytesSigned t.t2 ++ bytesSigned t.t3 ++
        bytesSigned t.t4 ++ bytesSigned t.zoneHyst ++ bytesSigned t.v1 ++ bytesSigned t.v2 ++ bytesSigned t.v3 ++
        bytesSigned t.v4 ++ bytesSigned t.shedHyst ++ [byteOf t.coldLevel, byteOf t.hotLevel] := rfl

theorem supply_inRange_iff (t : SupplySettings) :
    t.inRange = true ↔
      ((0 ≤ t.presence ∧ t.presence ≤ 32767) ∧ (0 ≤ t.floor ∧ t.floor ≤ 32767) ∧ (0 ≤ t.brownOut ∧ t.brownOut ≤ 32767) ∧
        (0 ≤ t.brownOutRelease ∧ t.brownOutRelease ≤ 32767) ∧ (0 ≤ t.absorbEnd ∧ t.absorbEnd ≤ 32767) ∧
        (0 ≤ t.v1 ∧ t.v1 ≤ 32767) ∧ (0 ≤ t.v2 ∧ t.v2 ≤ 32767) ∧ (0 ≤ t.v3 ∧ t.v3 ≤ 32767) ∧
        (0 ≤ t.v4 ∧ t.v4 ≤ 32767)) ∧
      ((0 ≤ t.absorbVoltage ∧ t.absorbVoltage ≤ 8190) ∧ (0 ≤ t.floatVoltage ∧ t.floatVoltage ≤ 8190) ∧
        (0 ≤ t.floatReturn ∧ t.floatReturn ≤ 8190)) ∧
      ((0 ≤ t.warmReduction ∧ t.warmReduction ≤ 1000) ∧ (0 ≤ t.zoneHyst ∧ t.zoneHyst ≤ 1000) ∧
        (0 ≤ t.shedHyst ∧ t.shedHyst ≤ 1000)) ∧
      t.arrayCode ≤ 3 ∧ 1 ≤ t.absorbTime ∧ t.absorbTime ≤ 24 ∧ 1 ≤ t.bulkTime ∧ t.bulkTime ≤ 24 ∧ t.coldLevel ≤ 4 ∧
      t.hotLevel ≤ 4 := by
  simp [SupplySettings.inRange, and_assoc]

theorem readSupply_bytes {t : SupplySettings}
    (h : t.valid = true ∧ isSigned16 t.t1 ∧ isSigned16 t.t2 ∧ isSigned16 t.t3 ∧ isSigned16 t.t4) :
    readSupply t.bytes = some t := by
  obtain ⟨hvalid, ht1, ht2, ht3, ht4⟩ := h
  have hrange : t.inRange = true := by
    unfold SupplySettings.valid at hvalid
    exact (Bool.and_eq_true_iff.1 hvalid).1
  obtain ⟨⟨hp, hf, hbo, hbr, hae, hv1, hv2, hv3, hv4⟩, ⟨hav, hfv, hfr⟩, ⟨hwr, hzh, hsh⟩, hac, hat1, hat2, hbt1, hbt2, hcl, hhl⟩ :=
    (supply_inRange_iff t).1 hrange
  obtain ⟨presence, floor, arrayCode, brownOut, brownOutRelease, absorbVoltage, floatVoltage, floatReturn,
    warmReduction, absorbEnd, absorbTime, bulkTime, t1, t2, t3, t4, zoneHyst, v1, v2, v3, v4, shedHyst, coldLevel,
    hotLevel⟩ := t
  simp only at *
  simp (disch := omega) [readSupply, supplyBytes_eq, signedAt_bytesSigned_zero, halfAt_bytesSigned_zero,
    toNat_byteOf, *]

/-! Table 9 (R131). -/

theorem Mode.ofCode_code (m : Mode) : Mode.ofCode m.code = some m := by cases m <;> rfl

theorem Mode.code_of_ofCode {n : Nat} {m : Mode} (h : Mode.ofCode n = some m) : m.code = n := by
  match n with
  | 0 | 1 | 2 => cases h; rfl

theorem Mode.code_lt (m : Mode) : m.code < 256 := by cases m <;> decide

theorem pumpSettings_valid_iff (p : PumpSettings) :
    p.valid = true ↔
      p.normal ≤ 1500 ∧ p.boost ≤ 1500 ∧ p.ceiling ≤ 1500 ∧ p.safe ≤ 1500 ∧ p.economy ≤ 1500 ∧ 1 ≤ p.rampStep ∧
        p.rampStep ≤ 250 ∧ 60 ≤ p.probeInterval ∧ p.probeInterval ≤ 300 ∧ 1 ≤ p.probeDuration ∧ p.probeDuration ≤ 9 ∧
        p.safe ≤ p.normal ∧ p.normal ≤ p.ceiling ∧ p.boost ≤ p.ceiling := by
  simp [PumpSettings.valid, and_assoc]

theorem readPump_eq_some_iff (e : List Byte) (p : PumpSettings) :
    readPump e = some p ↔
      Mode.ofCode (byteAt e 14) = some p.storedMode ∧ halfAt e 0 = p.normal ∧ halfAt e 2 = p.boost ∧
        halfAt e 4 = p.ceiling ∧ halfAt e 6 = p.safe ∧ halfAt e 8 = p.economy ∧ byteAt e 10 = p.rampStep ∧
        halfAt e 11 = p.probeInterval ∧ byteAt e 13 = p.probeDuration ∧ p.valid = true := by
  obtain ⟨normal, boost, ceiling, safe, economy, rampStep, probeInterval, probeDuration, storedMode⟩ := p
  unfold readPump
  split
  next m hm => simp only [hm]; split_ifs <;> grind
  next hm => simp [hm]

theorem readPump_valid {e : List Byte} {p : PumpSettings} (h : readPump e = some p) : p.valid = true := by
  obtain ⟨-, -, -, -, -, -, -, -, -, hvalid⟩ := (readPump_eq_some_iff e p).1 h
  exact hvalid

theorem readPump_bytes {p : PumpSettings} (h : p.valid = true) : readPump p.bytes = some p := by
  obtain ⟨hn, hb, hc, hs, he, -, hr, -, hpi, -, hpd, -, -, -⟩ := (pumpSettings_valid_iff p).1 h
  have hmode := p.storedMode.code_lt
  rw [readPump_eq_some_iff]
  simp (disch := omega) [PumpSettings.bytes, halfAt_bytes16_zero, toNat_byteOf, Mode.ofCode_code, h]

/-! Table 10 (R16). -/

theorem readLine_eq_some_iff (e : List Byte) (t : LineSettings) :
    readLine e = some t ↔ halfAt e 0 = t.threshold ∧ byteAt e 2 = t.hopBudget ∧ t.good := by
  obtain ⟨threshold, hopBudget⟩ := t
  simp only [readLine, Option.ite_none_right_eq_some, Option.some.injEq, LineSettings.mk.injEq]
  grind

theorem readLine_good {e : List Byte} {t : LineSettings} (h : readLine e = some t) : t.good :=
  ((readLine_eq_some_iff e t).1 h).2.2

theorem readLine_bytes {t : LineSettings} (h : t.good) : readLine t.bytes = some t := by
  obtain ⟨hlow, hhigh, hbudget⟩ := h
  rw [readLine_eq_some_iff]
  simp (disch := omega) [LineSettings.bytes, halfAt_bytes16_zero, toNat_byteOf, LineSettings.good, *]

/-! Table 12 (R37). -/

theorem ReportSides.ofCode_code (x : ReportSides) : ReportSides.ofCode x.code = some x := by cases x <;> rfl

theorem ReportSides.code_of_ofCode {n : Nat} {x : ReportSides} (h : ReportSides.ofCode n = some x) : x.code = n := by
  match n with
  | 0 | 1 | 2 => cases h; rfl

theorem ReportSides.code_lt (x : ReportSides) : x.code < 256 := by cases x <;> decide

theorem readManagement_eq_some_iff (e : List Byte) (t : ManagementSettings) :
    readManagement e = some t ↔
      byteAt e 0 = t.window ∧ ReportSides.ofCode (byteAt e 1) = some t.sides ∧ flagOf (byteAt e 2) = some t.remote ∧
        1 ≤ t.window := by
  obtain ⟨window, sides, remote⟩ := t
  simp only [readManagement, Option.bind_eq_bind, Option.bind_eq_some_iff, Option.ite_none_right_eq_some,
    Option.some.injEq, ManagementSettings.mk.injEq]
  grind

theorem readManagement_good {e : List Byte} {t : ManagementSettings} (h : readManagement e = some t) : t.good := by
  obtain ⟨hwindow, -, -, hpos⟩ := (readManagement_eq_some_iff e t).1 h
  have hlt := byteAt_lt e 0
  exact ⟨hpos, by omega⟩

theorem readManagement_bytes {t : ManagementSettings} (h : t.good) : readManagement t.bytes = some t := by
  obtain ⟨hlow, hhigh⟩ := h
  have hsides := t.sides.code_lt
  have hremote := bit_lt t.remote
  rw [readManagement_eq_some_iff]
  simp (disch := omega) [ManagementSettings.bytes, toNat_byteOf, flagOf_bit, ReportSides.ofCode_code, hlow]

end Sys2Proof.Machine

/-! PROOF. The stored settings image (R160, R161): what its entries are, what the checks of an autoload make of it. -/

namespace Sys2Proof.Machine

/-! Lists of optional values; lists of equal pieces. -/

theorem allOf_eq_some_iff {α : Type} (l : List (Option α)) (r : List α) : allOf l = some r ↔ l = r.map some := by
  induction l generalizing r with
  | nil => cases r <;> simp [allOf]
  | cons x l ih =>
    cases x with
    | none => cases r <;> simp [allOf]
    | some x =>
      simp only [allOf]
      cases hl : allOf l with
      | none =>
        have hne : ∀ r' : List α, l ≠ r'.map some := fun r' h => by simp [(ih r').2 h] at hl
        cases r <;> simp [hne]
      | some r' =>
        have heq := (ih r').1 hl
        subst heq
        cases r with
        | nil => simp
        | cons y r => simp [List.map_inj_right]

theorem entriesOf_eq_some_iff {α : Type} (img : List Byte) (id : Nat) (reader : Nat → List Byte → Option α) (l : List α) :
    entriesOf img id reader = some l ↔
      l.length = entryCount id ∧ ∀ i (h : i < l.length), reader i (entryAt img id i) = some l[i] := by
  rw [entriesOf, allOf_eq_some_iff]
  constructor
  · intro h
    have hlen : l.length = entryCount id := by simpa using (congrArg List.length h).symm
    refine ⟨hlen, fun i hi => ?_⟩
    have hi' := congrArg (fun x => x[i]?) h
    simpa [hi, hlen ▸ hi] using hi'
  · rintro ⟨hlen, h⟩
    apply List.ext_getElem
    · simp [hlen]
    · intro i _ hi
      simpa using h i (by simpa using hi)

theorem length_flatten_of_pieces {l : List (List Byte)} {n : Nat} (h : ∀ e ∈ l, e.length = n) :
    l.flatten.length = l.length * n := by
  induction l with
  | nil => simp
  | cons e l ih =>
    rw [List.flatten_cons, List.length_append, ih (fun x hx => h x (List.mem_cons_of_mem e hx)),
      h e List.mem_cons_self, List.length_cons, Nat.succ_mul, Nat.add_comm]

/-- The piece at an index stands at that multiple of the pieces' length. -/
theorem slice_flatten {l : List (List Byte)} {n i : Nat} (rest : List Byte) (h : ∀ e ∈ l, e.length = n) (hi : i < l.length) :
    slice (l.flatten ++ rest) (i * n) n = l[i] := by
  induction l generalizing i with
  | nil => simp at hi
  | cons e l ih =>
    have he : e.length = n := h e List.mem_cons_self
    cases i with
    | zero => simp [slice, ← he]
    | succ i =>
      have hdrop : slice ((e :: l).flatten ++ rest) ((i + 1) * n) n = slice (l.flatten ++ rest) (i * n) n := by
        rw [slice, slice, List.flatten_cons, Nat.succ_mul, Nat.add_comm, ← List.drop_drop, List.append_assoc,
          ← he, List.drop_left]
      rw [hdrop, ih (fun x hx => h x (List.mem_cons_of_mem e hx)) (Nat.lt_of_succ_lt_succ hi), List.getElem_cons_succ]

/-! The sizes of the entries (R160). -/

theorem length_actionBytes (a : Action) : a.bytes.length = 1 := rfl

theorem length_scanBytes (t : ScanTable) : t.bytes.length = 19 := by simp [ScanTable.bytes]

theorem length_calibrationBytes (c : Calibration) : c.bytes.length = 7 := rfl

theorem length_curveBytes (c : Curve) : c.bytes.length = 49 := by simp [Curve.bytes, List.length_flatMap]

theorem length_pollBytes (e : PollEntry) : e.bytes.length = 12 := rfl

theorem length_conditionBytes (c : Condition) : c.bytes.length = 16 := rfl

theorem length_supplyBytes (t : SupplySettings) : t.bytes.length = 43 := by simp [supplyBytes_eq]

theorem length_pumpBytes (p : PumpSettings) : p.bytes.length = 15 := rfl

theorem length_lineBytes (t : LineSettings) : t.bytes.length = 3 := rfl

theorem length_managementBytes (t : ManagementSettings) : t.bytes.length = 3 := rfl

/-- Every entry of a table has the size R160 gives it, whatever it holds. -/
theorem length_of_mem_entryBytes {t : Tables} {id : Nat} {e : List Byte} (h : e ∈ t.entryBytes id) :
    e.length = entrySize id := by
  unfold Tables.entryBytes at h
  split at h <;> simp only [List.mem_map, List.mem_cons, List.not_mem_nil, or_false] at h
  case h_1 => obtain ⟨a, -, rfl⟩ := h; exact length_actionBytes a
  case h_2 => rw [h]; exact length_scanBytes t.scan
  case h_3 => obtain ⟨c, -, rfl⟩ := h; exact length_calibrationBytes c
  case h_4 => obtain ⟨c, -, rfl⟩ := h; exact length_curveBytes c
  case h_5 => obtain ⟨e, -, rfl⟩ := h; exact length_pollBytes e
  case h_6 => obtain ⟨c, -, rfl⟩ := h; exact length_conditionBytes c
  case h_7 => obtain ⟨v, -, rfl⟩ := h; rfl
  case h_8 => rw [h]; exact length_supplyBytes t.supply
  case h_9 => rcases h with rfl | rfl <;> exact length_pumpBytes _
  case h_10 => rw [h]; exact length_lineBytes t.line
  case h_11 => obtain ⟨on, -, rfl⟩ := h; rfl
  case h_12 => rw [h]; exact length_managementBytes t.mgmt

/-- Every table has its number of entries. -/
abbrev Tables.sized (t : Tables) : Prop :=
  t.actions.length = 32 ∧ t.cals.length = 16 ∧ t.curves.length = 4 ∧ t.polls.length = 12 ∧ t.conds.length = 64 ∧
    t.sheds.length = 4 ∧ t.idles.length = 8

theorem Tables.sized_of_good {t : Tables} (h : t.good) : t.sized := by
  obtain ⟨⟨hactions, -⟩, -, ⟨hcals, -⟩, ⟨hcurves, -⟩, ⟨hpolls, -⟩, ⟨hconds, -⟩, hsheds, -, -, -, -, ⟨hidles, -⟩, -⟩ := h
  exact ⟨hactions, hcals, hcurves, hpolls, hconds, hsheds, hidles⟩

theorem length_entryBytes {t : Tables} (h : t.sized) (id : Nat) : (t.entryBytes id).length = entryCount id := by
  obtain ⟨hactions, hcals, hcurves, hpolls, hconds, hsheds, hidles⟩ := h
  unfold Tables.entryBytes entryCount
  split <;> simp [*]

/-! Where the entries stand in the image. -/

/-- The sections of the first `k` tables. -/
def Tables.front (t : Tables) (k : Nat) : List Byte := (List.range k).flatMap (fun i => (t.entryBytes (i + 1)).flatten)

theorem length_front {t : Tables} (h : t.sized) {k : Nat} (hk : k ≤ 12) :
    imageHead.length + (t.front k).length = sectionOffset (k + 1) := by
  have hsection : ∀ i, (t.entryBytes (i + 1)).flatten.length = entryCount (i + 1) * entrySize (i + 1) := fun i => by
    rw [length_flatten_of_pieces (fun e he => length_of_mem_entryBytes he), length_entryBytes h]
  have hsum : (t.front k).length = ((List.range k).map (fun i => entryCount (i + 1) * entrySize (i + 1))).sum := by
    simp only [Tables.front, List.length_flatMap, hsection]
  have hoffsets : ∀ k ≤ 12,
      imageHead.length + ((List.range k).map (fun i => entryCount (i + 1) * entrySize (i + 1))).sum = sectionOffset (k + 1) := by
    decide
  rw [hsum, hoffsets k hk]

theorem length_sections {t : Tables} (h : t.sized) : (imageHead ++ t.sections).length = 1623 := by
  rw [List.length_append]
  exact length_front h (k := 12) (by decide)

theorem length_image {t : Tables} (h : t.sized) : t.image.length = 1625 := by
  have hbody := length_sections h
  rw [Tables.image, List.length_append, hbody, length_bytes16]

/-- The sections from table `k + 1` on begin with that table's entries. -/
theorem sections_eq (t : Tables) {k : Nat} (hk : k < 12) :
    ∃ rest, t.sections = t.front k ++ ((t.entryBytes (k + 1)).flatten ++ rest) := by
  obtain ⟨j, hj⟩ : ∃ j, 12 = k + 1 + j := Nat.exists_eq_add_of_le hk
  refine ⟨((List.range j).map (fun i => k + 1 + i)).flatMap (fun i => (t.entryBytes (i + 1)).flatten), ?_⟩
  rw [Tables.sections, hj, List.range_add, List.range_succ]
  simp [Tables.front]

theorem entryAt_image {t : Tables} (h : t.sized) {k i : Nat} (hk : k < 12) (hi : i < (t.entryBytes (k + 1)).length) :
    entryAt t.image (k + 1) i = (t.entryBytes (k + 1))[i] := by
  obtain ⟨rest, hrest⟩ := sections_eq t hk
  have himage : t.image = (imageHead ++ t.front k) ++ ((t.entryBytes (k + 1)).flatten ++
      (rest ++ bytes16 (crc16 (imageHead ++ t.sections)).toNat)) := by
    simp [Tables.image, hrest]
  have hoffset : (imageHead ++ t.front k).length = sectionOffset (k + 1) := by
    rw [List.length_append, length_front h (by omega)]
  rw [entryAt, himage, ← hoffset, ← List.drop_drop, List.drop_left]
  exact slice_flatten _ (fun e he => length_of_mem_entryBytes he) hi

/-! What the checks of an autoload make of an image. -/

theorem tablesOf_eq_some_iff (img : List Byte) (t : Tables) :
    tablesOf img = some t ↔
      entriesOf img 1 readAction = some t.actions ∧ readScan (entryAt img 2 0) = some t.scan ∧
        entriesOf img 3 (fun _ => readCalibration) = some t.cals ∧ entriesOf img 4 (fun _ => readCurve) = some t.curves ∧
        entriesOf img 5 (fun _ => readPollEntry) = some t.polls ∧ entriesOf img 6 readCondition = some t.conds ∧
        entriesOf img 7 (fun _ => readShed) = some t.sheds ∧ readSupply (entryAt img 8 0) = some t.supply ∧
        readPump (entryAt img 9 0) = some t.pumps.ab ∧ readPump (entryAt img 9 1) = some t.pumps.ba ∧
        readLine (entryAt img 10 0) = some t.line ∧ entriesOf img 11 readIdle = some t.idles ∧
        readManagement (entryAt img 12 0) = some t.mgmt := by
  constructor
  · intro h
    obtain ⟨actions, hactions, h⟩ := Option.bind_eq_some_iff.1 h
    obtain ⟨scan, hscan, h⟩ := Option.bind_eq_some_iff.1 h
    obtain ⟨cals, hcals, h⟩ := Option.bind_eq_some_iff.1 h
    obtain ⟨curves, hcurves, h⟩ := Option.bind_eq_some_iff.1 h
    obtain ⟨polls, hpolls, h⟩ := Option.bind_eq_some_iff.1 h
    obtain ⟨conds, hconds, h⟩ := Option.bind_eq_some_iff.1 h
    obtain ⟨sheds, hsheds, h⟩ := Option.bind_eq_some_iff.1 h
    obtain ⟨supply, hsupply, h⟩ := Option.bind_eq_some_iff.1 h
    obtain ⟨ab, hab, h⟩ := Option.bind_eq_some_iff.1 h
    obtain ⟨ba, hba, h⟩ := Option.bind_eq_some_iff.1 h
    obtain ⟨line, hline, h⟩ := Option.bind_eq_some_iff.1 h
    obtain ⟨idles, hidles, h⟩ := Option.bind_eq_some_iff.1 h
    obtain ⟨mgmt, hmgmt, h⟩ := Option.bind_eq_some_iff.1 h
    cases h
    exact ⟨hactions, hscan, hcals, hcurves, hpolls, hconds, hsheds, hsupply, hab, hba, hline, hidles, hmgmt⟩
  · rintro ⟨hactions, hscan, hcals, hcurves, hpolls, hconds, hsheds, hsupply, hab, hba, hline, hidles, hmgmt⟩
    simp only [tablesOf, Option.bind_eq_bind, Option.bind_some, hactions, hscan, hcals, hcurves, hpolls, hconds, hsheds, hsupply, hab, hba, hline, hidles, hmgmt]

/-- A table read from an image holds what its reader accepts. -/
theorem forall_of_entriesOf {α : Type} {img : List Byte} {id : Nat} {reader : Nat → List Byte → Option α} {l : List α}
    {P : α → Prop} (h : entriesOf img id reader = some l) (hP : ∀ i e x, reader i e = some x → P x) : ∀ x ∈ l, P x := by
  obtain ⟨-, hread⟩ := (entriesOf_eq_some_iff img id reader l).1 h
  intro x hx
  obtain ⟨i, hi, rfl⟩ := List.mem_iff_getElem.1 hx
  exact hP i _ _ (hread i hi)

theorem length_of_entriesOf {α : Type} {img : List Byte} {id : Nat} {reader : Nat → List Byte → Option α} {l : List α}
    (h : entriesOf img id reader = some l) : l.length = entryCount id :=
  ((entriesOf_eq_some_iff img id reader l).1 h).1

theorem getD_of_entriesOf {α : Type} {img : List Byte} {id i : Nat} {reader : Nat → List Byte → Option α} {l : List α}
    (h : entriesOf img id reader = some l) (hi : i < entryCount id) (d : α) :
    reader i (entryAt img id i) = some (l.getD i d) := by
  obtain ⟨hlen, hread⟩ := (entriesOf_eq_some_iff img id reader l).1 h
  rw [List.getD_eq_getElem _ _ (hlen ▸ hi)]
  exact hread i (hlen ▸ hi)

/-- The tables read from an image hold only entries their owners accept. -/
theorem good_of_tablesOf {img : List Byte} {t : Tables} (h : tablesOf img = some t) : t.good := by
  obtain ⟨hactions, hscan, hcals, hcurves, hpolls, hconds, hsheds, hsupply, hab, hba, hline, hidles, hmgmt⟩ :=
    (tablesOf_eq_some_iff img t).1 h
  refine ⟨⟨length_of_entriesOf hactions, ?_⟩, readScan_good hscan,
    ⟨length_of_entriesOf hcals, forall_of_entriesOf hcals fun _ _ _ h => readCalibration_good h⟩,
    ⟨length_of_entriesOf hcurves, forall_of_entriesOf hcurves fun _ _ _ h => readCurve_good h⟩,
    ⟨length_of_entriesOf hpolls, forall_of_entriesOf hpolls fun _ _ _ h => readPollEntry_good h⟩,
    ⟨length_of_entriesOf hconds, ?_⟩, length_of_entriesOf hsheds, readSupply_good hsupply, readPump_valid hab,
    readPump_valid hba, readLine_good hline, ⟨length_of_entriesOf hidles, ?_⟩, readManagement_good hmgmt⟩
  · exact ((readAction_eq_some_iff 4 _ _).1 (getD_of_entriesOf hactions (by decide) .consume)).2 rfl
  · intro i hi
    exact readCondition_good (getD_of_entriesOf hconds (List.mem_range.1 hi) builtinUnused)
  · exact ((readIdle_eq_some_iff 7 _ _).1 (getD_of_entriesOf hidles (by decide) false)).2 rfl

/-- A list's entries are read back from the image when each is read back from its own bytes. -/
theorem entriesOf_image {α : Type} {t : Tables} (h : t.sized) {k : Nat} (hk : k < 12)
    {reader : Nat → List Byte → Option α} {l : List α} {f : α → List Byte} (hl : t.entryBytes (k + 1) = l.map f)
    (hread : ∀ i (hi : i < l.length), reader i (f l[i]) = some l[i]) : entriesOf t.image (k + 1) reader = some l := by
  have hlen : l.length = entryCount (k + 1) := by rw [← length_entryBytes h, hl, List.length_map]
  refine (entriesOf_eq_some_iff _ _ _ _).2 ⟨hlen, fun i hi => ?_⟩
  rw [entryAt_image h hk (by rw [hl, List.length_map]; exact hi)]
  simp only [hl, List.getElem_map]
  exact hread i hi

theorem tablesOf_image {t : Tables} (h : t.good) : tablesOf t.image = some t := by
  have hsized := Tables.sized_of_good h
  obtain ⟨⟨hactions, hforth⟩, hscan, ⟨-, hcals⟩, ⟨-, hcurves⟩, ⟨-, hpolls⟩, ⟨hconds, hcond⟩, -, hsupply, hab, hba, hline,
    ⟨hidles, hlast⟩, hmgmt⟩ := h
  refine (tablesOf_eq_some_iff _ _).2 ⟨?_, ?_, ?_, ?_, ?_, ?_, ?_, ?_, ?_, ?_, ?_, ?_, ?_⟩
  · refine entriesOf_image hsized (k := 0) (by decide) rfl fun i hi => readAction_bytes ?_
    rintro rfl
    rwa [List.getD_eq_getElem _ _ hi] at hforth
  · rw [entryAt_image hsized (k := 1) (by decide) (by simp [Tables.entryBytes])]
    exact readScan_bytes hscan
  · exact entriesOf_image hsized (k := 2) (by decide) rfl fun i hi => readCalibration_bytes (hcals _ (List.getElem_mem hi))
  · exact entriesOf_image hsized (k := 3) (by decide) rfl fun i hi => readCurve_bytes (hcurves _ (List.getElem_mem hi))
  · exact entriesOf_image hsized (k := 4) (by decide) rfl fun i hi => readPollEntry_bytes (hpolls _ (List.getElem_mem hi))
  · refine entriesOf_image hsized (k := 5) (by decide) rfl fun i hi => readCondition_bytes ?_
    rw [← List.getD_eq_getElem _ builtinUnused hi]
    exact hcond i (List.mem_range.2 (hconds ▸ hi))
  · exact entriesOf_image hsized (k := 6) (by decide) rfl fun i hi => readShed_bytes _
  · rw [entryAt_image hsized (k := 7) (by decide) (by simp [Tables.entryBytes])]
    exact readSupply_bytes hsupply
  · rw [entryAt_image hsized (k := 8) (by decide) (by simp [Tables.entryBytes])]
    exact readPump_bytes hab
  · rw [entryAt_image hsized (k := 8) (by decide) (by simp [Tables.entryBytes])]
    exact readPump_bytes hba
  · rw [entryAt_image hsized (k := 9) (by decide) (by simp [Tables.entryBytes])]
    exact readLine_bytes hline
  · refine entriesOf_image hsized (k := 10) (by decide) rfl fun i hi => readIdle_bytes ?_
    rintro rfl
    rwa [List.getD_eq_getElem _ _ hi] at hlast
  · rw [entryAt_image hsized (k := 11) (by decide) (by simp [Tables.entryBytes])]
    exact readManagement_bytes hmgmt

theorem halfAt_append_bytes16 (l : List Byte) {n : Nat} (h : n < 65536) : halfAt (l ++ bytes16 n) l.length = n := by
  have hread := halfAt_append_right (l := l) (bytes16 n) 0
  rw [Nat.add_zero] at hread
  rw [hread, ← List.append_nil (bytes16 n), halfAt_bytes16_zero [] h]

/-- An image with the right head and its own CRC is decided by its entries (checks 2 to 4 of R161). -/
theorem acceptImage_of_body {body : List Byte} (hlen : body.length = 1623) (hhead : body.take 5 = imageHead) :
    acceptImage (body ++ bytes16 (crc16 body).toNat) = tablesOf (body ++ bytes16 (crc16 body).toNat) := by
  refine if_pos ⟨by simp [hlen, imageLength], ?_, ?_⟩
  · rw [List.take_append_of_le_length (by omega), hhead]
  · rw [← hlen, List.take_left, halfAt_append_bytes16 body (crc16 body).isLt]

theorem good_of_acceptImage {img : List Byte} {t : Tables} (h : acceptImage img = some t) : t.good := by
  rw [acceptImage, Option.ite_none_right_eq_some] at h
  exact good_of_tablesOf h.2

theorem acceptImage_image {t : Tables} (h : t.good) : acceptImage t.image = some t := by
  have hbody := length_sections (Tables.sized_of_good h)
  rw [← tablesOf_image h]
  exact acceptImage_of_body hbody rfl

end Sys2Proof.Machine

/-! PROOF. O31 fails: a suppressor code that R98 does not name is read as the suppressor NONE, so an image that holds such a
code passes every check and is not the image of the tables it gives. -/

namespace Sys2Proof.Machine

/-- The offset of the suppressor code of Condition Table entry 63 in the image. -/
def strayOffset : Nat := sectionOffset 6 + 63 * entrySize 6 + 12

/-- The image of the built-in tables with suppressor code 9 in Condition Table entry 63, before its CRC. -/
def strayBody : List Byte := (imageHead ++ builtinTables.sections).set strayOffset 9

/-- The image with that body and the CRC that goes with it. -/
def strayImage : List Byte := strayBody ++ bytes16 (crc16 strayBody).toNat

/-- The entries of the stray image are accepted, as tables whose image names no suppressor there. -/
theorem tablesOf_strayImage : (tablesOf strayImage).any (fun t => byteAt t.image strayOffset = 0) = true := by
  decide +kernel

theorem byteAt_strayImage : byteAt strayImage strayOffset = 9 := by decide +kernel

theorem acceptImage_strayImage : acceptImage strayImage = tablesOf strayImage :=
  acceptImage_of_body (by decide +kernel) (by decide +kernel)

end Sys2Proof.Machine

section

open Sys2Proof Sys2Proof.Machine

/-- Refutes O31: `strayImage`, whose Condition Table entry 63 names suppressor 9, is accepted as tables whose image has
suppressor 0 there. -/
theorem not_imageAndTablesCorrespond : ¬Obligations.ImageAndTablesCorrespond := by
  unfold Obligations.ImageAndTablesCorrespond
  rintro ⟨-, himage⟩
  have hread := tablesOf_strayImage
  cases htables : tablesOf strayImage with
  | none => simp [htables] at hread
  | some t =>
    obtain ⟨-, heq⟩ := himage strayImage t (acceptImage_strayImage.trans htables)
    simp [htables, heq, byteAt_strayImage] at hread

end

/-! PROOF. O19 fails: the owner of the Condition Table accepts an entry whose suppressor code R98 does not name and takes it
as one with the suppressor NONE, so that entry does not read back as it was written. -/

namespace Sys2Proof.Machine

/-- The state after reset with the autoload ended and the control side at Head Station A. -/
def claimedState : State :=
  { State.reset with
    loader := { State.reset.loader with autoload := none }, agent := { State.reset.agent with control := some .a } }

/-- A command of Head Station A for this hut. -/
def fromHeadA : Sender := ⟨62, 7, .mine, .a⟩

/-- The bytes of an unused Condition Table entry but for suppressor code 9. -/
def strayEntry : List Byte := builtinUnused.bytes.set 12 9

theorem tablesLawful_claimedState : TablesLawful claimedState := by decide +kernel

theorem writeReaches_strayEntry : writeReaches 6 fromHeadA 63 strayEntry claimedState := by decide +kernel

theorem entryAccepted_strayEntry : entryAccepted 6 (63 : Byte).toNat (strayEntry.take (entrySize 6)) = true := by
  decide +kernel

/-- Entry 63 of the Condition Table as the image has it, after a command that goes on. -/
def entryAfter : Result → Option (List Byte)
  | .next t => (t.tables.entryBytes 6)[63]?
  | _ => none

/-- The write of the stray entry leaves the entry without a suppressor. -/
theorem entryAfter_strayEntry :
    entryAfter (exec (writeRow fromHeadA 6 (byteOf 6 :: 63 :: strayEntry) (63 :: strayEntry)) claimedState) =
      some builtinUnused.bytes := by
  decide +kernel

end Sys2Proof.Machine

section

open Sys2Proof Sys2Proof.Machine

/-- Refutes O19: written as entry 63 of the Condition Table, `strayEntry` is accepted and reads back with suppressor code 0
where 9 was written. -/
theorem not_acceptedWriteReadsBackExactly : ¬Obligations.AcceptedWriteReadsBackExactly := by
  unfold Obligations.AcceptedWriteReadsBackExactly
  rintro ⟨hreads, -⟩
  obtain ⟨u, hexec, hentry, -⟩ := hreads fromHeadA 6 63 strayEntry claimedState tablesLawful_claimedState
    writeReaches_strayEntry entryAccepted_strayEntry
  have hafter := entryAfter_strayEntry
  rw [hexec, entryAfter, sendReply_tables] at hafter
  exact absurd (hentry.symm.trans hafter) (by decide +kernel)

end

/-! PROOF. The effects a command is made of. Every law of the state is proved on each of these effects, not on each command:
`Effect i l s t` says that a command `i` can take the state from `s` to `t` at one of its owners, changing only the parts `l`,
and carries what the command's own tests ensure there. `Effects` (below) is a run of them. -/

namespace Sys2Proof.Machine

/-- The sender of a management command. -/
def Instr.sender : Instr → Option Sender
  | .identify m _ | .claim m _ | .release m _ | .readEntry m _ | .readPoints m _ | .readStanding m _
  | .writeMessageAction m _ | .writeScanList m _ | .writeChannelCalibration m _ | .writeConversionCurve m _
  | .writePollEntry m _ | .writeCondition m _ | .writeShedTable m _ | .writeSupplySettings m _ | .writePumpSettings m _
  | .writeLineSettings m _ | .writeOutputSettings m _ | .writeManagementSettings m _ | .writeEntryOtherTable m _
  | .ackAlarm m _ | .forceOutput m _ | .forceShed m _ | .pumpMode m _ | .pulseOutput m _ | .requalifySupply m _
  | .chargeRestart m _ | .setLock m _ | .storeSettings m _ | .restart m _ | .unknownCommand m _ | .ignoredCommand m _
  | .beat m _ => some m
  | _ => none

/-! What an effect may change in its own part. -/

/-- A receiver's own changes: its buffer, its queue and what the rest of the part sees of it stay. -/
structure LinePort.Quiet (q p : LinePort) : Prop where
  relay : p.relay = q.relay
  queue : p.queue = q.queue
  lineState : p.lineState = q.lineState
  sync : p.sync = .sync ↔ q.sync = .sync
  window : q.window ≤ 1000 → p.window ≤ 1000
  lastWindow : p.lastWindow = q.lastWindow
  ufm : p.ufm = q.ufm
  rfm : p.rfm = q.rfm
  rfmRun : p.rfmRun = q.rfmRun

/-- The port at a change between SYNC and the search, before its line state is taken afresh. -/
structure LinePort.Resync (q p : LinePort) : Prop where
  relay : p.relay = q.relay
  queue : p.queue = q.queue
  lineState : p.lineState = q.lineState
  window : q.window ≤ 1000 → p.window ≤ 1000
  lastWindow : p.lastWindow = q.lastWindow
  ufm : p.ufm = q.ufm
  rfm : p.rfm = q.rfm
  rfmRun : p.rfmRun = q.rfmRun

/-- What a line port's events leave for Pump Control to react to (R136). -/
inductive LineMove (s : State) : State → Prop
  | resync (x : Side) (p : LinePort) (h : (s.at x).Resync p) : LineMove s (reevaluate x (s.setPort x p))
  | window (x : Side) :
    LineMove s (reevaluate x (writePoint (windowPoint x) (s.at x).window .valid (s.setPort x (s.at x).endWindow)))
  | header (x : Side) (h : Header) (hsync : (s.at x).sync = .sync) :
    LineMove s
      (let s2 := writePoint (rfmPoint x) (bit h.rfm) .valid
        (writePoint (ufmPoint x) (bit h.ufm) .valid (s.setPort x ((s.at x).record h)))
       if h.launchValid then takeLaunch x h.launch s2 else s2)
  | settings : LineMove s (reevaluate .b (reevaluate .a s))

/-- The agent's own notes: its forcings of the pumps, its times, its lock, a pending restart. -/
structure Agent.Notes (a b : Agent) : Prop where
  control : b.control = a.control
  contacts : b.contacts = a.contacts
  store : b.store = a.store
  outForce : b.outForce = a.outForce
  shedForce : b.shedForce = a.shedForce
  lock : a.lock = true → b.lock = true

/-- R43, R161: tables are written only with no autoload and no store. -/
structure State.Writable (s : State) : Prop where
  autoload : s.loader.autoload = none
  store : s.agent.store = none

/-- An entry of a table other than the Scan List and the Condition Table replaced by an acceptable one. -/
structure TableMove (s : State) (t : Tables) : Prop where
  gate : s.Writable
  good : s.tables.good → t.good
  scan : t.scan = s.tables.scan
  conds : t.conds = s.tables.conds
  hopBudget : s.tables.line.hopBudget ≤ 63 → t.line.hopBudget ≤ 63
  pumps : s.agent.lock = true → t.pumps = s.tables.pumps

/-- The Settings Loader's own changes: a retry of an autoload in progress, a step of a store in progress, what it drove. -/
inductive LoaderMove (s : State) : Loader → Prop
  | drove (d : List BusSignal) : LoaderMove s { s.loader with driven := d }
  | retry (l l' : Autoload) (h : s.loader.autoload = some l) : LoaderMove s { s.loader with autoload := some l' }
  | cycle (st : Store) (t d : Nat) (h : s.loader.store = some st) (hphase : st.phase ≠ .readBack) :
    LoaderMove s { s.loader with store := some { st with phase := .cycle t d } }

/-- The Sampling Unit's own changes. -/
inductive SamplingMove (s : State) : Sampling → Prop
  | quiet (t : Option Nat) : SamplingMove s { s.sampling with periodAt := t }
  | scan (now : Nat) : SamplingMove s (startScan now s.sampling)
  | settle (pick : Nat → Bool) :
    SamplingMove s (abandon s.tables.scan s.now pick (discardChannels pick s.sampling))

/-- The Sensor Poll Unit's own changes, without the points it writes. -/
inductive PollMove (s : State) : Poll → Prop
  | grant : PollMove s (s.poll.grant s.tables)
  | thrown (o : BusOp) (d : List BusSignal) (h : s.poll.op = some o) (hread : o.kind = .read) (hmark : o.discard = true) :
    PollMove s (s.poll.freed d)
  | ended (o : BusOp) (d : List BusSignal) (r : PollRun) (h : s.poll.op = some o) (hread : o.kind = .read)
    (hmark : o.discard = false) (hrun : r.state ≠ .active)
    (hattempts : r.attempts = 0 ∨ r.attempts ≤ o.entry.retryLimit) :
    PollMove s ((s.poll.freed d).setRun o.index r)
  | due (j : Nat) (h : (s.poll.run j).state ≠ .active) (htime : (s.poll.run j).time ≠ none) :
    PollMove s (s.poll.setRun j ⟨.due, (s.poll.run j).attempts, none⟩)
  | fault (h : s.poll.watch = true) :
    PollMove s { s.poll with
      bus := .fault, op := none,
      runs := (List.range 12).map (fun j => faultRun s.now (s.tables.pollEntry j) (s.poll.run j)) }
  | recoveredMarked (o : BusOp) (h : s.poll.op = some o) (hkind : o.kind = .recovery) (hmark : o.discard = true) :
    PollMove s { s.poll with op := none, driven := recoverySignals, bus := .idle }
  | recovered (o : BusOp) (h : s.poll.op = some o) (hkind : o.kind = .recovery) (hmark : o.discard = false) :
    PollMove s
      { ({ s.poll with op := none, driven := recoverySignals } : Poll).setRun o.index ⟨.active, 0, none⟩ with
        bus := .busy, op := some ⟨.read, o.index, s.tables.pollEntry o.index, false⟩ }
  | lowMarked (o : BusOp) (h : s.poll.op = some o) (hkind : o.kind = .recovery) (hmark : o.discard = true) :
    PollMove s { s.poll with op := none, driven := recoverySignals }
  | low (o : BusOp) (t : Nat) (h : s.poll.op = some o) (hkind : o.kind = .recovery) (hmark : o.discard = false) :
    PollMove s (({ s.poll with op := none, driven := recoverySignals } : Poll).setRun o.index ⟨.failed, 0, some t⟩)
  | restart (j : Nat) (r : PollRun) (gate : s.Writable) (h : j < 12) (hrun : r = ⟨.due, 0, none⟩ ∨ r = ⟨.idle, 0, none⟩) :
    PollMove s
      { s.poll.setRun j r with
        op := s.poll.op.map (fun o => if o.index = j ∧ o.kind ≠ .startup then { o with discard := true } else o) }
  | startup (o : BusOp) (h : s.poll.op = some o) (hkind : o.kind = .startup) :
    PollMove s { s.poll with
      op := none, watch := true, driven := recoverySignals,
      runs := (List.range 12).map (fun j => if (s.tables.pollEntry j).inUse then ⟨.due, 0, none⟩ else s.poll.run j) }

/-- The Point Table's own changes that write no point: ages, launch records, raw levels. -/
inductive PointMove (s : State) : PointTable → Prop
  | older : PointMove s s.points.older
  | stale (j : Nat) (h : j < 28) : PointMove s (s.points.stale j)
  | launch (l : Pair (Option Launch)) : PointMove s { s.points with launch := l }
  | input (j : Nat) (n : Input) (h : n.debounced = (s.points.input j).debounced) :
    PointMove s { s.points with inputs := s.points.inputs.set j n }

/-- The Supply Manager's events, on its state alone. -/
inductive SupplyMove (s : State) : Supply → Prop
  | check : SupplyMove s (s.supply.check s.now (s.point 8) (s.point 9) (s.point 10) (s.point 12))
  | settle (h : s.supply.settleAt ≠ none) : SupplyMove s (s.supply.settleExpiry s.now (s.point 10))
  | test (h : s.supply.testAt ≠ none) : SupplyMove s (s.supply.testExpiry s.now (s.point 10))
  | retry (h : s.supply.retryAt ≠ none) : SupplyMove s (s.supply.toSettling s.now)
  | requalify : SupplyMove s (s.supply.requalify s.now)
  | restartCharge : SupplyMove s s.supply.restartCharge
  | chargerFault : SupplyMove s s.supply.chargerFault
  | adopt : SupplyMove s (s.supply.adopt s.tables.supply)

/-- The events of a pump channel, on the channel alone. -/
inductive PumpMove (s : State) (c : Channel) : PumpResult → Prop
  | settings :
    PumpMove s c ((s.pumps.get c).settingsChange s.now s.supply.level (s.tables.pumps.get c))
  | mode (m : Mode) : PumpMove s c ((s.pumps.get c).modeRequest s.now s.supply.level m)
  | start (h : (s.pumps.get c).startAt ≠ none) : PumpMove s c ((s.pumps.get c).startExpiry s.now (trigger s c))
  | ramp (t : Nat) (h : (s.pumps.get c).rampAt ≠ none) : PumpMove s c ((s.pumps.get c).rampStep t)
  | probe (h : (s.pumps.get c).probeAt ≠ none) : PumpMove s c ((s.pumps.get c).probeExpiry s.now)
  | probeEnd (h : (s.pumps.get c).durationAt ≠ none) : PumpMove s c ((s.pumps.get c).probeEnd s.now (trigger s c))
  | status (t : Nat) (h : (s.pumps.get c).statusAt ≠ none) : PumpMove s c ((s.pumps.get c).statusRead t)
  | fault : PumpMove s c (s.pumps.get c).driverFault

/-- Every part but the clock and the queue of commands. -/
def resetParts : List Part :=
  [.inbox, .brownOuts, .ownAddr, .line .a, .line .b, .tables, .agent, .sampling, .poll, .points, .engine, .alarms,
    .pump .ab, .pump .ba, .port, .supply, .outputs, .loader, .eeprom, .cuts]

/-- The parts the effective shed level reaches (R155). -/
def shedParts : List Part := [.supply, .points, .pump .ab, .pump .ba, .port, .outputs]

/-- One effect of command `i`, with the parts it may change. -/
inductive Effect (i : Instr) : List Part → State → State → Prop
  | clock (t : Nat) (s : State) : Effect i [.now] s (s.reach t)
  | dequeue (h : Handed) (s : State) : Effect i [.inbox] s (Machine.dequeue h s)
  | brownOuts (l : List Int) (s : State) : Effect i [.brownOuts] s { s with brownOuts := l }
  | powerOn (addr : BitVec 6) (inputs : Byte) (s : State) (h : i = .powerOnReset addr inputs ∨ i = .resetPin addr inputs) :
    Effect i resetParts s (Machine.powerOn addr inputs s)
  | restart (addr : BitVec 6) (s : State) (h : i = .restartReset addr) : Effect i resetParts s (restartReset addr s)
  | transmit (x : Side) (s : State) : Effect i [.line .a, .line .b, .agent] s (Machine.transmit x s)
  | receive (x : Side) (p : LinePort) (s : State) (h : (s.at x).Quiet p) : Effect i [.line x] s (s.setPort x p)
  | line (u s : State) (h : LineMove s u) :
    Effect i [.line .a, .line .b, .points, .pump .ab, .pump .ba, .port] s (reactBoth s u)
  | area (x : Side) (f : List Byte) (s : State) : Effect i [.line .a, .line .b, .inbox] s (takeArea x f s)
  | reply (m : Sender) (code : Byte) (st : Status) (r : List Byte) (s : State) (hm : Instr.sender i = some m)
    (hr : r.length ≤ 62) : Effect i [.line .a, .line .b] s (sendReply m code st r s)
  | contacts (c : Pair (Option Nat)) (s : State) 
    (h : ∀ x, s.agent.control = some x → s.agent.contacts.get x ≠ none → c.get x ≠ none) :
    Effect i [.agent, .points] s (setContacts c s)
  | control (c : Option Side) (s : State) 
    (h : ∀ x, c = some x → s.agent.control = some x ∨ s.agent.contacts.get x ≠ none) :
    Effect i [.agent] s { s with agent := { s.agent with control := c } }
  | note (a : Agent) (s : State) (h : s.agent.Notes a) : Effect i [.agent] s { s with agent := a }
  | outForcing (f : List (Option Bool)) (s : State) :
    Effect i [.agent, .outputs] s (resolveOutputs { s with agent := { s.agent with outForce := f } })
  | shedForcing (f : Option Nat) (s : State) (h : f.getD 0 ≤ 4) : Effect i (.agent :: shedParts) s (setShedForcing f s)
  | beginStore (m : Sender) (s : State) (hm : Instr.sender i = some m) (h : s.Writable) :
    Effect i [.agent, .loader] s
      { s with
        agent := { s.agent with store := some m },
        loader := { s.loader with store := some ⟨s.tables.image, 1, .writing⟩ } }
  | beginRestart (m : Sender) (s : State) (hm : Instr.sender i = some m) :
    Effect i [.line .a, .line .b, .agent] s (restartBody m s).state
  | endStore (good : Bool) (st : Store) (m : List Host.Cell) (n : Nat) (s : State) (h : s.loader.store = some st)
    (hm : st.step ≤ 52 → EepromLawful s → canonical m = true ∧ ∀ c ∈ m, c.1 < 8192) :
    Effect i [.line .a, .line .b, .agent, .loader, .eeprom, .cuts] s
      (Machine.endStore good { s with eeprom := m, cuts := n })
  | commit (st : Store) (s : State) (h : s.loader.store = some st) (hphase : st.phase ≠ .readBack) :
    Effect i [.eeprom, .loader] s (commitStep st s)
  | loader (l : Loader) (s : State) (h : LoaderMove s l) : Effect i [.loader] s { s with loader := l }
  | install (l : Autoload) (t : Option Tables) (s : State) (h : s.loader.autoload = some l) (ht : ∀ x, t = some x → x.good) :
    Effect i [.tables, .loader, .points, .sampling, .poll, .engine] s (startBlocks (installTables t s))
  | entry (t : Tables) (s : State) (h : TableMove s t) : Effect i [.tables] s { s with tables := t }
  | scanList (t : ScanTable) (s : State) (h : s.Writable) (ht : t.good) : Effect i [.tables, .sampling] s (takeScanList t s)
  | condition (j : Nat) (c : Condition) (s : State) (h : s.Writable) (hj : j < 64) (hc : c.good j)
    (hlock : s.agent.lock = true → (∀ x, (s.tables.conds.getD j builtinUnused).action ≠ .reduce x) ∧ ∀ x, c.action ≠ .reduce x) :
    Effect i ([.tables, .engine, .alarms, .line .a, .line .b] ++ shedParts) s (takeConditionWrite j c s)
  | sampling (u : Sampling) (s : State) (h : SamplingMove s u) : Effect i [.sampling] s { s with sampling := u }
  | sample (k : Conversion) (code : Nat) (s : State) (h : s.sampling.conversion = some k) :
    Effect i [.sampling, .points, .brownOuts] s (conversionDone k.slot code s)
  | poll (p : Poll) (s : State) (h : PollMove s p) : Effect i [.poll] s { s with poll := p }
  | measure (j : Nat) (v : Int) (x : Validity) (s : State) (hj : ∃ o, s.poll.op = some o ∧ o.index = j) (hv : isSigned16 v) :
    Effect i [.points] s (writePoint (pollPoint j) v x s)
  | lose (j : Nat) (s : State) (hj : j < 12 ∨ ∃ o, s.poll.op = some o ∧ o.index = j) :
    Effect i [.points] s (invalidate (pollPoint j) s)
  | points (p : PointTable) (s : State) (h : PointMove s p) : Effect i [.points] s { s with points := p }
  | spanLoss (x : Side) (s : State) : Effect i [.points] s (Machine.spanLoss x s)
  | debounce (j : Nat) (s : State) : Effect i [.points] s (Machine.debounce j s)
  | supply (v : Supply) (extra : List PortWord) (s : State) (h : SupplyMove s v)
    (hextra : extra = [] ∨ extra = [chargerWord .chargeStatus 0]) : Effect i shedParts s (takeSupply v extra s)
  | checkTimer (t : Option Nat) (s : State) :
    Effect i [.supply] s { s with supply := { s.supply with checkAt := t } }
  | brownOut (s : State) : Effect i shedParts s (takeBrownOut s)
  | handedLevel (s : State) : Effect i [.supply, .pump .ab, .pump .ba, .port, .points] s (takeHandedLevel s)
  | pump (c : Channel) (r : PumpResult) (s : State) (h : PumpMove s c r) :
    Effect i [.pump c, .port, .points] s (applyPump c r s)
  | endTransfer (d : List PortSignal) (s : State) : Effect i [.port] s (Machine.endTransfer d s)
  | outputs (sheds : List (BitVec 7)) (idles : List Bool) (s : State) : Effect i [.outputs] s (adoptOutputs sheds idles s)
  | pulses (l : List (Option Pulse)) (s : State) :
    Effect i [.outputs] s (resolveOutputs { s with outputs := { s.outputs with pulses := l } })
  | acknowledge (w : Option Nat) (s : State) : Effect i [.alarms] s { s with alarms := Machine.acknowledge w s.alarms }
  | passTimer (t : Option Nat) (s : State) (h : s.engine.passAt ≠ none) : Effect i [.engine] s { s with engine := { s.engine with passAt := t } }
  | pass (s : State) (h : s.engine.passAt ≠ none) :
    Effect i ([.engine, .alarms, .line .a, .line .b] ++ shedParts) s (takePass s)

/-- A run of effects of one command. -/
def Effects (i : Instr) : State → State → Prop := Relation.ReflTransGen (fun s t => ∃ l, Effect i l s t)

theorem Effects.refl (i : Instr) (s : State) : Effects i s s := Relation.ReflTransGen.refl

theorem Effect.run {i : Instr} {l : List Part} {s t : State} (h : Effect i l s t) : Effects i s t :=
  Relation.ReflTransGen.single ⟨l, h⟩

theorem Effects.trans {i : Instr} {s t u : State} (h : Effects i s t) (h' : Effects i t u) : Effects i s u :=
  Relation.ReflTransGen.trans h h'

/-- What every effect of a command keeps, the command keeps. -/
theorem Effects.preserves {i : Instr} {P : State → Prop} (hP : ∀ l s t, Effect i l s t → P s → P t) {s t : State}
    (h : Effects i s t) (hs : P s) : P t := by
  induction h with
  | refl => exact hs
  | tail _ he ih =>
    obtain ⟨l, he⟩ := he
    exact hP l _ _ he ih

end Sys2Proof.Machine

/-! PROOF. Each effect changes only the parts it names. -/

namespace Sys2Proof.Machine

theorem powerOn_changesOnly (addr : BitVec 6) (inputs : Byte) (s : State) : changesOnly resetParts s (powerOn addr inputs s) := by
  intro p hp; cases p
  case line x => cases x <;> simp [resetParts] at hp
  case pump c => cases c <;> simp [resetParts] at hp
  case now => rfl
  case pending => rfl
  all_goals simp [resetParts] at hp

theorem restartReset_changesOnly (addr : BitVec 6) (s : State) : changesOnly resetParts s (restartReset addr s) := by
  intro p hp; cases p
  case line x => cases x <;> simp [resetParts] at hp
  case pump c => cases c <;> simp [resetParts] at hp
  case now => simp [Part.same, restartReset]
  case pending => simp [Part.same, restartReset]
  all_goals simp [resetParts] at hp

theorem transmit_changesOnly (x : Side) (s : State) : changesOnly [.line .a, .line .b, .agent] s (transmit x s) := by
  intro p hp; cases p
  case line y => cases y <;> simp at hp
  all_goals simp_all [Part.same]

theorem takeArea_changesOnly (x : Side) (f : List Byte) (s : State) :
    changesOnly [.line .a, .line .b, .inbox] s (takeArea x f s) := by
  intro p hp; cases p
  case line y => cases y <;> simp at hp
  all_goals simp_all [Part.same]

theorem lineMove_changesOnly {s u : State} (h : LineMove s u) : changesOnly [.line .a, .line .b, .points] s u := by
  intro p hp
  cases h <;> cases p
  case resync.line y => cases y <;> simp at hp
  case window.line y => cases y <;> simp at hp
  case header.line y => cases y <;> simp at hp
  case settings.line y => cases y <;> simp at hp
  case header.points | resync.points | window.points | settings.points => simp at hp
  all_goals simp_all [Part.same, apply_ite]

theorem restartBody_changesOnly (m : Sender) (s : State) :
    changesOnly [.line .a, .line .b, .agent] s (restartBody m s).state := by
  unfold restartBody
  split
  · exact changesOnly_refl _ s
  · intro p hp; cases p
    case line y => cases y <;> simp at hp
    all_goals simp_all [Part.same]

theorem endStore_changesOnly (good : Bool) (m : List Host.Cell) (n : Nat) (s : State) :
    changesOnly [.line .a, .line .b, .agent, .loader, .eeprom, .cuts] s
      (endStore good { s with eeprom := m, cuts := n }) := by
  intro p hp; cases p
  case line y => cases y <;> simp at hp
  all_goals simp_all [Part.same]

theorem install_changesOnly (t : Option Tables) (s : State) :
    changesOnly [.tables, .loader, .points, .sampling, .poll, .engine] s (startBlocks (installTables t s)) := by
  intro p hp; cases p <;> simp_all [Part.same]

theorem takeConditionWrite_changesOnly (j : Nat) (c : Condition) (s : State) :
    changesOnly ([.tables, .engine, .alarms, .line .a, .line .b] ++ shedParts) s (takeConditionWrite j c s) := by
  intro p hp; cases p
  case line y => cases y <;> simp [shedParts] at hp
  case pump c => cases c <;> simp [shedParts] at hp
  all_goals simp_all [Part.same, shedParts]

theorem takePass_changesOnly (s : State) :
    changesOnly ([.engine, .alarms, .line .a, .line .b] ++ shedParts) s (takePass s) := by
  intro p hp; cases p
  case line y => cases y <;> simp [shedParts] at hp
  case pump c => cases c <;> simp [shedParts] at hp
  all_goals simp_all [Part.same, shedParts]

theorem conversionDone_changesOnly (k code : Nat) (s : State) :
    changesOnly [.sampling, .points, .brownOuts] s (conversionDone k code s) := by
  intro p hp; cases p <;> simp_all [Part.same]

theorem debounce_of_eq {j : Nat} {s : State} (h : (s.points.input j).raw = (s.points.input j).debounced) :
    debounce j s = s.setInput j { s.points.input j with timer := none } := if_pos h

theorem debounce_of_ne {j : Nat} {s : State} (h : (s.points.input j).raw ≠ (s.points.input j).debounced) :
    debounce j s =
      let s1 := s.setInput j { s.points.input j with timer := none, debounced := (s.points.input j).raw }
      writePoint 44 (inputSum 0 s1.points.inputs) .valid s1 := if_neg h

theorem setInput_changesOnly (j : Nat) (n : Input) (s : State) : changesOnly [.points] s (s.setInput j n) := by
  intro p hp; cases p <;> simp_all [Part.same]

theorem debounce_changesOnly (j : Nat) (s : State) : changesOnly [.points] s (debounce j s) := by
  by_cases h : (s.points.input j).raw = (s.points.input j).debounced
  · exact debounce_of_eq h ▸ setInput_changesOnly j _ s
  · exact debounce_of_ne h ▸ (setInput_changesOnly j _ s).comp (writePoint_changesOnly _ _ _ _)

theorem takeBrownOut_changesOnly (s : State) : changesOnly shedParts s (takeBrownOut s) := by
  intro p hp; cases p
  case pump c => cases c <;> simp [shedParts] at hp
  all_goals simp_all [Part.same, shedParts]

theorem Effect.changesOnly {i : Instr} {l : List Part} {s t : State} (h : Effect i l s t) : Machine.changesOnly l s t := by
  cases h with
  | clock t s => exact reach_changesOnly t s
  | dequeue h s => exact dequeue_changesOnly h s
  | powerOn addr inputs s h => exact powerOn_changesOnly addr inputs s
  | restart addr s h => exact restartReset_changesOnly addr s
  | transmit x s => exact transmit_changesOnly x s
  | receive x p s h => exact setPort_changesOnly x p s
  | line u s h => exact (lineMove_changesOnly h).trans (reactBoth_changesOnly s u) (by simp) (by simp)
  | area x f s => exact takeArea_changesOnly x f s
  | reply m code st r s hm hr =>
    exact (sendReply_changesOnly m code st r s).mono (by cases replyPort m <;> simp)
  | contacts c s h => exact setContacts_changesOnly c s
  | shedForcing f s h =>
    refine (setShedForcing_changesOnly f s).mono ?_
    simp [shedParts]
  | beginRestart m s hm => exact restartBody_changesOnly m s
  | endStore good st m n s h hm => exact endStore_changesOnly good m n s
  | install l t s h ht => exact install_changesOnly t s
  | condition j c s h hj hc hlock => exact takeConditionWrite_changesOnly j c s
  | sample k code s h => exact conversionDone_changesOnly k.slot code s
  | measure j v x s hj hv => exact writePoint_changesOnly _ v x s
  | lose j s hj => exact invalidate_changesOnly _ s
  | spanLoss x s => exact spanLoss_changesOnly x s
  | debounce j s => exact debounce_changesOnly j s
  | supply v extra s h hextra => exact takeSupply_changesOnly v extra s
  | brownOut s => exact takeBrownOut_changesOnly s
  | handedLevel s => exact takeHandedLevel_changesOnly s
  | pump c r s h => exact applyPump_changesOnly c r s
  | pass s _ => exact takePass_changesOnly s
  | _ => intro p hp; cases p <;> simp_all [Part.same, takeScanList, adoptOutputs]

end Sys2Proof.Machine

/-! PROOF. Every command is a run of effects: the events of the ports, the tables and the loader, block by block. -/

namespace Sys2Proof.Machine

/-- A command's result, where it goes on, is reached by a run of its effects. -/
def Yields (i : Instr) (s : State) (r : Result) : Prop := ∀ t, r = .next t → Effects i s t

theorem yields_next {i : Instr} {s t : State} (h : Effects i s t) : Yields i s (.next t) := by
  rintro u ⟨⟩
  exact h

theorem yields_refused (i : Instr) (s : State) (r : Refusal) : Yields i s (.refused r) := by
  rintro u ⟨⟩

theorem yields_same (i : Instr) (s : State) : Yields i s (.next s) := yields_next (Effects.refl i s)

theorem effects_ite {i : Instr} {s t u : State} {c : Prop} [Decidable c] (ht : c → Effects i s t) (hu : ¬c → Effects i s u) :
    Effects i s (if c then t else u) := by
  split_ifs with h
  · exact ht h
  · exact hu h

variable {i : Instr}

/-! The line ports (chapter 1). -/

theorem miss_quiet {p : LinePort} (hsync : p.sync = .sync) (h : p.miss.sync = .sync) : p.Quiet p.miss := by
  unfold LinePort.miss at *
  split at h
  · simp at h
  · next hlt =>
    simp only [hlt, if_false]
    constructor <;> simp [hsync, countUp, windowCap]

theorem miss_resync (p : LinePort) : p.Resync p.miss := by
  unfold LinePort.miss
  constructor <;> split_ifs <;> simp [countUp, windowCap]

theorem takeMiss_effects {x : Side} {s : State} (hsync : (s.at x).sync = .sync) : Effects i s (takeMiss x s) := by
  have hat : (s.setPort x (s.at x).miss).at x = (s.at x).miss := by simp [State.at, State.setPort]
  unfold takeMiss
  simp only [hat]
  exact effects_ite (fun h => (Effect.receive x _ s (miss_quiet hsync h)).run)
    (fun _ => (Effect.line _ s (.resync x _ (miss_resync _))).run)

theorem takeConfirm_effects {x : Side} {s : State} (found : Bool) (hsync : (s.at x).sync = .confirm) :
    Effects i s (takeConfirm x found s) := by
  cases found with
  | true =>
    exact (Effect.line _ s (.resync x ((s.at x).confirm true) ⟨rfl, rfl, rfl, id, rfl, rfl, rfl, rfl⟩)).run
  | false =>
    refine (Effect.receive x ((s.at x).confirm false) s ?_).run
    exact ⟨rfl, rfl, rfl, by simp [LinePort.confirm, hsync], id, rfl, rfl, rfl, rfl⟩

theorem takeFrame_effects {x : Side} (f : List Byte) {s : State} (hsync : (s.at x).sync = .sync) :
    Effects i s (takeFrame x f s) :=
  (Effect.line _ s (.header x (frameHeader f) hsync)).run.trans (Effect.area x f _).run

theorem execTransmitEvent_yields (p : Side) (s : State) : Yields i s (execTransmitEvent p s) :=
  yields_next ((Effect.clock _ s).run.trans (Effect.transmit p _).run)

theorem execSyncPatternFound_yields (p : Side) (pos : Nat) (b0 b1 b2 : Byte) (s : State) :
    Yields i s (execSyncPatternFound p pos b0 b1 b2 s) := by
  unfold execSyncPatternFound
  split
  · refine yields_next (effects_ite (fun h => (Effect.receive p _ s ?_).run) fun _ => Effects.refl i s)
    exact ⟨rfl, rfl, rfl, by simp [h.1], id, rfl, rfl, rfl, rfl⟩
  · exact yields_refused i s _

theorem execConfirmCheck_yields (p : Side) (b0 b1 b2 : Byte) (s : State) : Yields i s (execConfirmCheck p b0 b1 b2 s) :=
  yields_next (effects_ite (fun h => takeConfirm_effects _ h) fun _ => Effects.refl i s)

theorem execMissedSync_yields (p : Side) (b0 b1 b2 : Byte) (s : State) : Yields i s (execMissedSync p b0 b1 b2 s) := by
  unfold execMissedSync
  split
  · exact yields_refused i s _
  · exact yields_next (effects_ite (fun h => takeMiss_effects h) fun _ => Effects.refl i s)

theorem execLossOfSync_yields (p : Side) (b0 b1 b2 : Byte) (s : State) : Yields i s (execLossOfSync p b0 b1 b2 s) := by
  unfold execLossOfSync
  split
  · exact yields_refused i s _
  · exact yields_next (effects_ite (fun h => takeMiss_effects h.1) fun _ => Effects.refl i s)

theorem execErroredFrame_yields (p : Side) (f : List Byte) (s : State) : Yields i s (execErroredFrame p f s) := by
  unfold execErroredFrame
  split
  · refine yields_next (effects_ite (fun _ => (Effect.receive p _ s ?_).run) fun _ => Effects.refl i s)
    exact ⟨rfl, rfl, rfl, Iff.rfl, fun _ => min_le_left _ _, rfl, rfl, rfl, rfl⟩
  · exact yields_refused i s _

theorem execGoodFrameArrival_yields (p : Side) (f : List Byte) (s : State) : Yields i s (execGoodFrameArrival p f s) := by
  unfold execGoodFrameArrival
  split
  · exact yields_next (effects_ite (fun h => takeFrame_effects f h) fun _ => Effects.refl i s)
  · exact yields_refused i s _

theorem execRfmRunCountReached_yields (p : Side) (f : List Byte) (s : State) :
    Yields i s (execRfmRunCountReached p f s) := by
  unfold execRfmRunCountReached
  split
  · exact yields_next (effects_ite (fun h => takeFrame_effects f h.1) fun _ => Effects.refl i s)
  · exact yields_refused i s _

theorem execWindowTimerExpiry_yields (p : Side) (s : State) : Yields i s (execWindowTimerExpiry p s) :=
  yields_next ((Effect.clock _ s).run.trans (Effect.line _ _ (.window p)).run)

/-! The Point Table (chapter 5). -/

theorem afterUpdate_effects (j : Nat) (s : State) : Effects i s (afterUpdate j s) :=
  effects_ite (fun _ => (Effect.spanLoss .a s).run)
    fun _ => effects_ite (fun _ => (Effect.spanLoss .b s).run) fun _ => Effects.refl i s

theorem execAgeTimerExpiry_yields (s : State) : Yields i s (execAgeTimerExpiry s) :=
  yields_next ((Effect.clock _ s).run.trans (Effect.points _ _ .older).run)

theorem execStalenessDeadline_yields (j : Fin 28) (s : State) : Yields i s (execStalenessDeadline j s) := by
  unfold execStalenessDeadline
  split
  · exact yields_next
      (((Effect.clock _ s).run.trans (Effect.points _ _ (.stale j j.isLt)).run).trans (afterUpdate_effects j _))
  · exact yields_same i s

theorem execLaunchExpiry_yields (p : Side) (s : State) : Yields i s (execLaunchExpiry p s) := by
  unfold execLaunchExpiry
  split
  · split
    · exact yields_same i s
    · exact yields_next
        (((Effect.clock _ s).run.trans (Effect.points _ _ (.launch _)).run).trans (Effect.spanLoss p _).run)
  · exact yields_same i s

theorem execInputRawChange_yields (j : Fin 8) (level : Bool) (s : State) : Yields i s (execInputRawChange j level s) :=
  yields_next (effects_ite (fun _ => Effects.refl i s) fun _ =>
    (Effect.points _ s (.input j { s.points.input j with raw := level, timer := some (s.now + debounceTime) } rfl)).run)

theorem execDebounceTimerExpiry_yields (j : Fin 8) (s : State) : Yields i s (execDebounceTimerExpiry j s) := by
  unfold execDebounceTimerExpiry
  split
  · exact yields_next ((Effect.clock _ s).run.trans (Effect.debounce j _).run)
  · exact yields_same i s

/-! The Sensor Poll Unit (chapter 4). -/

theorem takeGrant_effects (s : State) : Effects i s (takeGrant s) := (Effect.poll _ s .grant).run

theorem becomeDue_effects {j : Nat} {s : State} (h : (s.poll.run j).state ≠ .active) (htime : (s.poll.run j).time ≠ none) :
    Effects i s (becomeDue j s) :=
  (Effect.poll _ s (.due j h htime)).run.trans (takeGrant_effects _)

theorem invalidatePolls_effects {n : Nat} (hn : n ≤ 12) (s : State) : Effects i s (invalidatePolls n s) := by
  induction n with
  | zero => exact Effects.refl i s
  | succ n ih => exact (ih (by omega)).trans (Effect.lose n _ (.inl (by omega))).run

theorem linear_signed (gain : Nat) (offset x : Int) : isSigned16 (linear gain offset x).1 :=
  saturate_within (-32768) 32767 _ (by decide)

theorem readSuccess_effects {o : BusOp} (bits : List Bool) (d : List BusSignal) {s : State} (h : s.poll.op = some o)
    (hread : o.kind = .read) (hmark : o.discard = false) :
    Effects i s (readSuccess o.index o.entry bits { s with poll := s.poll.freed d }) := by
  let v := linear o.entry.gain o.entry.offset (readingOf o.entry (rawOf bits))
  have hmeasure : Effect i [.points] s (writePoint (pollPoint o.index) v.1 v.2 s) :=
    .measure o.index v.1 v.2 s ⟨o, h, rfl⟩ (linear_signed _ _ _)
  exact hmeasure.run.trans (Effect.poll _ (writePoint (pollPoint o.index) v.1 v.2 s) (.ended o d ⟨.idle, 0, some (s.now + seconds o.entry.period)⟩ h hread hmark
    (by simp) (.inl rfl))).run

theorem readFailed_effects {o : BusOp} (d : List BusSignal) {s : State} (h : s.poll.op = some o)
    (hread : o.kind = .read) (hmark : o.discard = false) :
    Effects i s (readFailed o.index o.entry { s with poll := s.poll.freed d }) := by
  refine effects_ite (fun hleft => ?_) fun _ => ?_
  · exact (Effect.poll _ s (.ended o d ⟨.waitingRetry, (s.poll.run o.index).attempts + 1, some (s.now + millis 10)⟩ h hread
      hmark (by simp) (.inr hleft))).run
  · exact (Effect.lose o.index s (.inr ⟨o, h, rfl⟩)).run.trans
      (Effect.poll _ (invalidate (pollPoint o.index) s) (.ended o d ⟨.failed, 0, some (s.now + seconds o.entry.period)⟩ h hread hmark (by simp)
        (.inl rfl))).run

theorem readDone_effects {o : BusOp} (bits : List Bool) {s : State} (h : s.poll.op = some o) (hread : o.kind = .read) :
    Effects i s (readDone o bits s) := by
  refine Effects.trans (effects_ite (fun hmark => ?_) fun hmark => ?_) (takeGrant_effects _)
  · exact (Effect.poll _ s (.thrown o _ h hread hmark)).run
  · exact readSuccess_effects bits _ h hread (Bool.eq_false_iff.2 hmark)

theorem readLost_effects {o : BusOp} (f : ReadFailure) {s : State} (h : s.poll.op = some o) (hread : o.kind = .read) :
    Effects i s (readLost o f s) := by
  refine Effects.trans (effects_ite (fun hmark => ?_) fun hmark => ?_) (takeGrant_effects _)
  · exact (Effect.poll _ s (.thrown o _ h hread hmark)).run
  · exact readFailed_effects _ h hread (Bool.eq_false_iff.2 hmark)

theorem takeBusFault_effects {s : State} (h : s.poll.watch = true) : Effects i s (takeBusFault s) :=
  (Effect.poll _ s (.fault h)).run.trans (invalidatePolls_effects (le_refl 12) _)

theorem takeRecovery_effects {o : BusOp} (high : Bool) {s : State} (h : s.poll.op = some o) (hkind : o.kind = .recovery) :
    Effects i s (takeRecovery o high s) := by
  unfold takeRecovery
  cases high <;> cases hmark : o.discard
  · exact (Effect.poll _ s (.low o _ h hkind hmark)).run.trans (takeGrant_effects _)
  · exact (Effect.poll _ s (.lowMarked o h hkind hmark)).run.trans (takeGrant_effects _)
  · exact (Effect.poll _ s (.recovered o h hkind hmark)).run
  · exact (Effect.poll _ s (.recoveredMarked o h hkind hmark)).run

theorem execStartupPulsesDone_yields (s : State) : Yields i s (execStartupPulsesDone s) := by
  unfold execStartupPulsesDone
  split
  next o h =>
    exact yields_next (effects_ite (fun hkind => (Effect.poll _ s (.startup o h hkind)).run.trans (takeGrant_effects _))
      fun _ => Effects.refl i s)
  · exact yields_same i s

theorem execTransactionSuccess_yields (bits : List Bool) (s : State) : Yields i s (execTransactionSuccess bits s) := by
  unfold execTransactionSuccess
  split
  next o h => exact yields_next (effects_ite (fun hc => readDone_effects bits h hc.1) fun _ => Effects.refl i s)
  · exact yields_same i s

theorem execTransactionFailure_yields (f : ReadFailure) (s : State) : Yields i s (execTransactionFailure f s) := by
  unfold execTransactionFailure
  split
  · split
    next o h => exact yields_next (effects_ite (fun hc => readLost_effects f h hc.1) fun _ => Effects.refl i s)
    · exact yields_same i s
  · exact yields_refused i s _

theorem execNextDueTime_yields (j : Fin 12) (s : State) : Yields i s (execNextDueTime j s) := by
  unfold execNextDueTime
  split
  next t hstate htime =>
    exact yields_next ((Effect.clock t s).run.trans (becomeDue_effects (by simp [hstate]) (by simp [htime])))
  next t hstate htime =>
    exact yields_next ((Effect.clock t s).run.trans (becomeDue_effects (by simp [hstate]) (by simp [htime])))
  · exact yields_same i s

theorem execRetryTime_yields (j : Fin 12) (s : State) : Yields i s (execRetryTime j s) := by
  unfold execRetryTime
  split
  next t hstate htime =>
    exact yields_next ((Effect.clock t s).run.trans (becomeDue_effects (by simp [hstate]) (by simp [htime])))
  · exact yields_same i s

theorem execBusFault_yields (s : State) : Yields i s (execBusFault s) :=
  yields_next (effects_ite (fun h => takeBusFault_effects h.1) fun _ => Effects.refl i s)

theorem execRecoveryComplete_yields (c d : Bool) (s : State) : Yields i s (execRecoveryComplete c d s) := by
  unfold execRecoveryComplete
  split
  next o h => exact yields_next (effects_ite (fun hkind => takeRecovery_effects _ h hkind) fun _ => Effects.refl i s)
  · exact yields_same i s

/-! The Sampling Unit (chapter 3). -/

theorem periodStart_effects (t : Nat) (s : State) : Effects i s (periodStart t s) := by
  have hperiod : Effects i s { s.reach t with
      sampling := { (s.reach t).sampling with periodAt := some (t + millis s.tables.scan.period) } } :=
    (Effect.clock t s).run.trans (Effect.sampling _ _ (.quiet _)).run
  unfold periodStart
  cases hscan : s.sampling.conversion with
  | some k => simpa [hscan] using hperiod
  | none => simpa [hscan] using hperiod.trans (Effect.sampling _ _ (.scan (s.reach t).now)).run

theorem execScanPeriodStart_yields (s : State) : Yields i s (execScanPeriodStart s) := by
  unfold execScanPeriodStart
  split
  · exact yields_next (periodStart_effects _ s)
  · exact yields_same i s

theorem execConversionEvent_yields (code : BitVec 12) (s : State) : Yields i s (execConversionEvent code s) := by
  unfold execConversionEvent
  split
  next k h => exact yields_next ((Effect.clock _ s).run.trans (Effect.sample k _ (s.reach k.doneAt) h).run)
  · exact yields_same i s

theorem execBrownOutEvent_yields (v : Int) (s : State) : Yields i s (execBrownOutEvent v s) := by
  refine yields_next (Effects.trans ?_ (Effect.brownOut _).run)
  split
  · exact effects_ite (fun _ => (Effect.brownOuts _ s).run) fun _ => Effects.refl i s
  · exact Effects.refl i s

/-! The Condition Engine (chapter 6). -/

theorem passDue_effects (t : Nat) {s : State} (h : s.engine.passAt ≠ none) : Effects i s (takePass (passDue t s)) :=
  ((Effect.clock t s).run.trans (Effect.passTimer _ (s.reach t) h).run).trans (Effect.pass _ (by simp)).run

theorem execPass_yields (s : State) : Yields i s (execPass s) := by
  unfold execPass
  split
  next t h => exact yields_next (passDue_effects _ (by simp [h]))
  · exact yields_same i s

theorem execQualifySetReached_yields (j : Fin 64) (s : State) : Yields i s (execQualifySetReached j s) := by
  unfold execQualifySetReached
  split
  next t h => exact yields_next (effects_ite (fun _ => passDue_effects _ (by simp [h])) fun _ => Effects.refl i s)
  · exact yields_same i s

theorem execQualifyClearReached_yields (j : Fin 64) (s : State) : Yields i s (execQualifyClearReached j s) := by
  unfold execQualifyClearReached
  split
  next t h => exact yields_next (effects_ite (fun _ => passDue_effects _ (by simp [h])) fun _ => Effects.refl i s)
  · exact yields_same i s

/-! Pump Control and the Control Port (chapter 8). -/

theorem execStartTimerExpiry_yields (c : Channel) (s : State) : Yields i s (execStartTimerExpiry c s) := by
  unfold execStartTimerExpiry
  split
  next t h => exact yields_next ((Effect.clock t s).run.trans (Effect.pump c _ _ (.start (h ▸ Option.some_ne_none t))).run)
  · exact yields_same i s

theorem execRampTimerExpiry_yields (c : Channel) (s : State) : Yields i s (execRampTimerExpiry c s) := by
  unfold execRampTimerExpiry
  split
  next t h => exact yields_next ((Effect.clock t s).run.trans (Effect.pump c _ _ (.ramp t (h ▸ Option.some_ne_none t))).run)
  · exact yields_same i s

theorem execProbeTimerExpiry_yields (c : Channel) (s : State) : Yields i s (execProbeTimerExpiry c s) := by
  unfold execProbeTimerExpiry
  split
  next t h => exact yields_next ((Effect.clock t s).run.trans (Effect.pump c _ _ (.probe (h ▸ Option.some_ne_none t))).run)
  · exact yields_same i s

theorem execProbeDurationExpiry_yields (c : Channel) (s : State) : Yields i s (execProbeDurationExpiry c s) := by
  unfold execProbeDurationExpiry
  split
  next t h => exact yields_next ((Effect.clock t s).run.trans (Effect.pump c _ _ (.probeEnd (h ▸ Option.some_ne_none t))).run)
  · exact yields_same i s

theorem execStatusReadTimerExpiry_yields (c : Channel) (s : State) : Yields i s (execStatusReadTimerExpiry c s) := by
  unfold execStatusReadTimerExpiry
  split
  next t h => exact yields_next ((Effect.clock t s).run.trans (Effect.pump c _ _ (.status t (h ▸ Option.some_ne_none t))).run)
  · exact yields_same i s

theorem takeReply_effects (d : Device) (reply : BitVec 16) (s : State) : Effects i s (takeReply d reply s) := by
  unfold takeReply
  split
  · cases d with
    | pumpAB => exact (Effect.pump .ab _ s .fault).run
    | pumpBA => exact (Effect.pump .ba _ s .fault).run
    | charger => exact (Effect.supply _ [] s .chargerFault (.inl rfl)).run
  · exact Effects.refl i s

theorem execTransferComplete_yields (reply : Vector Bool 16) (s : State) : Yields i s (execTransferComplete reply s) := by
  unfold execTransferComplete
  split
  · exact yields_next
      (((Effect.clock _ s).run.trans (takeReply_effects _ _ _)).trans (Effect.endTransfer _ _).run)
  · exact yields_same i s

/-! The Supply Manager and the Output Resolver (chapter 9). -/

theorem checkSupply_effects (s : State) : Effects i s (checkSupply s) := by
  unfold checkSupply
  refine (Effect.supply _ _ s .check ?_).run
  split_ifs
  · exact .inl rfl
  · exact .inr rfl

theorem checkDue_effects (t : Nat) (s : State) : Effects i s (checkSupply (checkDue t s)) :=
  ((Effect.clock t s).run.trans (Effect.checkTimer _ _).run).trans (checkSupply_effects _)

theorem execSupplyCheck_yields (s : State) : Yields i s (execSupplyCheck s) := by
  unfold execSupplyCheck
  split
  · exact yields_next (checkDue_effects _ s)
  · exact yields_same i s

theorem execNoSagCountReached_yields (s : State) : Yields i s (execNoSagCountReached s) := by
  unfold execNoSagCountReached
  split
  · exact yields_next (effects_ite (fun _ => checkDue_effects _ s) fun _ => Effects.refl i s)
  · exact yields_same i s

theorem execBulkTimerExpiry_yields (s : State) : Yields i s (execBulkTimerExpiry s) := by
  unfold execBulkTimerExpiry
  split
  · exact yields_next (effects_ite (fun _ => checkDue_effects _ s) fun _ => Effects.refl i s)
  · exact yields_same i s

theorem execAbsorbTimerExpiry_yields (s : State) : Yields i s (execAbsorbTimerExpiry s) := by
  unfold execAbsorbTimerExpiry
  split
  · exact yields_next (effects_ite (fun _ => checkDue_effects _ s) fun _ => Effects.refl i s)
  · exact yields_same i s

theorem execSettleTimerExpiry_yields (s : State) : Yields i s (execSettleTimerExpiry s) := by
  unfold execSettleTimerExpiry
  split
  next t h =>
    exact yields_next ((Effect.clock t s).run.trans
      (Effect.supply _ [] _ (.settle (h ▸ Option.some_ne_none t)) (.inl rfl)).run)
  · exact yields_same i s

theorem execTestTimerExpiry_yields (s : State) : Yields i s (execTestTimerExpiry s) := by
  unfold execTestTimerExpiry
  split
  next t h =>
    exact yields_next ((Effect.clock t s).run.trans
      (Effect.supply _ [] _ (.test (h ▸ Option.some_ne_none t)) (.inl rfl)).run)
  · exact yields_same i s

theorem execRetryTimerExpiry_yields (s : State) : Yields i s (execRetryTimerExpiry s) := by
  unfold execRetryTimerExpiry
  split
  next t h =>
    exact yields_next ((Effect.clock t s).run.trans
      (Effect.supply _ [] _ (.retry (h ▸ Option.some_ne_none t)) (.inl rfl)).run)
  · exact yields_same i s

theorem execPulseEnd_yields (o : Fin 7) (s : State) : Yields i s (execPulseEnd o s) := by
  unfold execPulseEnd
  split
  · exact yields_next ((Effect.clock _ s).run.trans (Effect.pulses _ _).run)
  · exact yields_same i s

end Sys2Proof.Machine

/-! PROOF. Every command is a run of effects: the Settings Loader, the management commands, and the step as a whole. -/

namespace Sys2Proof.Machine

variable {i : Instr}

/-! The Settings Loader (chapter 10). -/

theorem applyStoredMode_effects (c : Channel) (s : State) : Effects i s (applyStoredMode c s) := by
  unfold applyStoredMode
  split
  · exact Effects.refl i s
  · exact (Effect.pump c _ s (.mode _)).run

theorem adoptPump_effects (c : Channel) (s : State) : Effects i s (adoptPump c (s.tables.pumps.get c) s) :=
  (Effect.pump c _ s .settings).run

theorem startPumps_effects (afterRestart : Bool) (s : State) : Effects i s (startPumps afterRestart s) := by
  have hadopt : Effects i s (adoptPump .ba s.tables.pumps.ba (adoptPump .ab s.tables.pumps.ab s)) :=
    (adoptPump_effects .ab s).trans (adoptPump_effects .ba _)
  refine effects_ite (fun _ => hadopt) fun _ => ?_
  exact (hadopt.trans (applyStoredMode_effects .ab _)).trans (applyStoredMode_effects .ba _)

theorem adoptSupply_effects (s : State) : Effects i s (adoptSupply s.tables.supply s) :=
  (Effect.supply _ [] s .adopt (.inl rfl)).run

theorem startSupply_effects (afterRestart : Bool) (s : State) : Effects i s (startSupply afterRestart s) := by
  have hadopt : Effects i s (adoptOutputs s.tables.sheds s.tables.idles (adoptSupply s.tables.supply s)) :=
    (adoptSupply_effects s).trans (Effect.outputs _ _ _).run
  exact effects_ite (fun _ => hadopt) fun _ => hadopt.trans (Effect.checkTimer _ _).run

theorem endAutoload_effects {l : Autoload} (t : Option Tables) {s : State} (h : s.loader.autoload = some l)
    (ht : ∀ x, t = some x → x.good) : Effects i s (endAutoload l.afterRestart t s) :=
  ((Effect.install l t s h ht).run.trans (startPumps_effects _ _)).trans (startSupply_effects _ _)

theorem drove_effects (d : List BusSignal) (s : State) : Effects i s (s.drove d) := (Effect.loader _ s (.drove d)).run

theorem addressRetry_effects {l : Autoload} (t : Nat) (acknowledged : Bool) {s : State} (h : s.loader.autoload = some l) :
    Effects i s (addressRetry l t acknowledged s) := by
  refine effects_ite (fun _ => (Effect.loader _ s (.retry l _ h)).run) fun _ => (drove_effects addressSignals s).trans ?_
  refine effects_ite (fun _ => endAutoload_effects none h (by simp)) fun _ => ?_
  exact (Effect.loader _ (s.drove addressSignals) (.retry l _ h)).run

theorem execAutoloadAddressRetry_yields (acknowledged : Bool) (s : State) :
    Yields i s (execAutoloadAddressRetry acknowledged s) := by
  unfold execAutoloadAddressRetry
  split
  next l h =>
    split
    next t _ => exact yields_next ((Effect.clock t s).run.trans (addressRetry_effects t acknowledged h))
    · exact yields_same i s
  · exact yields_same i s

theorem good_of_autoloaded {m : List Host.Cell} {r : EepromRead} {t : Tables} (h : autoloaded m r = some t) : t.good := by
  unfold autoloaded at h
  split at h
  · exact good_of_acceptImage h
  · simp at h

theorem execAutoloadReadDone_yields (r : EepromRead) (s : State) : Yields i s (execAutoloadReadDone r s) := by
  unfold execAutoloadReadDone
  split
  · split
    next l h =>
      exact yields_next ((drove_effects _ s).trans (endAutoload_effects _ h fun _ ht => good_of_autoloaded ht))
    · exact yields_same i s
  · exact yields_refused i s _

theorem execAutoloadDeadline_yields (s : State) : Yields i s (execAutoloadDeadline s) := by
  unfold execAutoloadDeadline
  split
  next l h => exact yields_next ((Effect.clock _ s).run.trans (endAutoload_effects none h (by simp)))
  · exact yields_same i s

/-- Bytes written within the EEPROM keep it lawful. -/
theorem eepromLawful_writeBytes {m : List Host.Cell} {a : Nat} {l : List Byte} (h : canonical m = true ∧ ∀ c ∈ m, c.1 < 8192)
    (hl : a + l.length ≤ 8192) : canonical (writeBytes m a l) = true ∧ ∀ c ∈ writeBytes m a l, c.1 < 8192 := by
  refine ⟨canonical_writeBytes m a l h.1, fun c hc => ?_⟩
  rcases mem_writeBytes m a l c hc with hlt | hmem
  · omega
  · exact h.2 c hmem

theorem length_unsigned (c : Nat) (l : List Byte) (h : l.length = 32) : (unsigned c l).length = 32 := by
  unfold unsigned
  split
  · simp [otherSignature, h]
  · exact h

theorem stepPage_le {k : Nat} (h : k ≤ 52) : stepPage k ≤ 50 := by
  unfold stepPage
  split <;> omega

theorem eepromLawful_spoilPage {m : List Host.Cell} {k : Nat} (c : Nat) (h : canonical m = true ∧ ∀ c ∈ m, c.1 < 8192)
    (hk : k ≤ 52) : canonical (spoilPage m c k) = true ∧ ∀ x ∈ spoilPage m c k, x.1 < 8192 := by
  have hpage := stepPage_le hk
  have hlen : (doubtfulPage c (stepPage k)).length = 32 := by simp [doubtfulPage]
  refine eepromLawful_writeBytes h ?_
  split
  · rw [length_unsigned _ _ hlen]; omega
  · omega

/-- The EEPROM a cut page write leaves (R164). -/
theorem cutPage_eq (k : Nat) (s : State) :
    cutPage k s =
      { s with
        eeprom := if k = 52 then writeBytes s.eeprom 0 (doubtfulPage s.cuts 0) else spoilPage s.eeprom s.cuts k,
        cuts := s.cuts + 1 } := by
  unfold cutPage spoil
  split <;> simp [*]

theorem eepromLawful_cut {m : List Host.Cell} {k : Nat} (c : Nat) (h : canonical m = true ∧ ∀ c ∈ m, c.1 < 8192)
    (hk : k ≤ 52) :
    canonical (if k = 52 then writeBytes m 0 (doubtfulPage c 0) else spoilPage m c k) = true ∧
      ∀ x ∈ (if k = 52 then writeBytes m 0 (doubtfulPage c 0) else spoilPage m c k), x.1 < 8192 := by
  split
  · exact eepromLawful_writeBytes h (by simp [doubtfulPage])
  · exact eepromLawful_spoilPage c h hk

theorem endStore_effects (good : Bool) {st : Store} {s : State} (h : s.loader.store = some st) :
    Effects i s (endStore good s) := (Effect.endStore good st s.eeprom s.cuts s h fun _ hl => hl).run

theorem endStore_spoil_effects {st : Store} {s : State} (h : s.loader.store = some st) :
    Effects i s (endStore false (spoil st.step s)) :=
  (Effect.endStore false st _ _ s h fun hk hl => eepromLawful_spoilPage s.cuts hl hk).run

theorem endStore_cutPage_effects {st : Store} {s : State} (h : s.loader.store = some st) :
    Effects i s (endStore false (cutPage st.step s)) := by
  rw [cutPage_eq]
  exact (Effect.endStore false st _ _ s h fun hk hl => eepromLawful_cut s.cuts hl hk).run

theorem endStore_doubt_effects {st : Store} {s : State} (h : s.loader.store = some st) :
    Effects i s (endStore false (doubtContent s)) :=
  (Effect.endStore false st _ _ s h fun _ hl =>
    eepromLawful_writeBytes hl (by simp [doubtfulContent, imageLength])).run

theorem pageWritten_effects {st : Store} (r : PageWrite) {s : State} (h : s.loader.store = some st)
    (hphase : st.phase = .writing) : Effects i s (pageWritten st r s) := by
  refine (drove_effects (pageSignals st r) s).trans ?_
  cases r with
  | acknowledged =>
    exact (Effect.loader _ (s.drove (pageSignals st .acknowledged))
      (.cycle st (s.now + pollEvery) (s.now + millis 10) h (by simp [hphase]))).run
  | refusedAt k => exact effects_ite (fun _ => endStore_effects false h) fun _ => endStore_spoil_effects h
  | lostDataLine n => exact effects_ite (fun _ => endStore_effects false h) fun _ => endStore_cutPage_effects h

theorem execPageWriteDone_yields (r : PageWrite) (s : State) : Yields i s (execPageWriteDone r s) := by
  unfold execPageWriteDone
  split
  next st h =>
    split
    next hphase =>
      exact yields_next (effects_ite (fun _ => pageWritten_effects r h hphase) fun _ => Effects.refl i s)
    · exact yields_same i s
    · exact yields_same i s
  · exact yields_same i s

theorem addressPolled_effects {st : Store} (t d : Nat) (r : AddressPoll) {s : State} (h : s.loader.store = some st)
    (hphase : st.phase ≠ .readBack) : Effects i s (addressPolled st t d r s) := by
  cases r with
  | acknowledged => exact (Effect.commit st s h hphase).run
  | notAcknowledged => exact (Effect.loader _ s (.cycle st _ _ h hphase)).run
  | lostDataLine n => exact (Effect.loader _ s (.cycle st _ _ h hphase)).run

theorem execPageAckPoll_yields (r : AddressPoll) (s : State) : Yields i s (execPageAckPoll r s) := by
  unfold execPageAckPoll
  split
  next st h =>
    split
    next t d hphase =>
      refine yields_next (effects_ite (fun _ => ?_) fun _ => Effects.refl i s)
      exact ((Effect.clock t s).run.trans (drove_effects _ _)).trans (addressPolled_effects t d r h (by simp [hphase]))
    · exact yields_same i s
    · exact yields_same i s
  · exact yields_same i s

theorem execPageWriteTimeout_yields (s : State) : Yields i s (execPageWriteTimeout s) := by
  unfold execPageWriteTimeout
  split
  next st h =>
    split
    next t d hphase => exact yields_next ((Effect.clock d s).run.trans (endStore_spoil_effects h))
    · exact yields_same i s
    · exact yields_same i s
  · exact yields_same i s

theorem execReadBackDone_yields (r : EepromRead) (s : State) : Yields i s (execReadBackDone r s) := by
  unfold execReadBackDone
  split
  · split
    next st h =>
      split
      next hphase =>
        refine yields_next ((drove_effects (imageSignals r) s).trans ?_)
        exact effects_ite (fun _ => endStore_effects true h) fun _ => endStore_doubt_effects h
      · exact yields_same i s
      · exact yields_same i s
    · exact yields_same i s
  · exact yields_refused i s _

/-! Contacts, the agent's timers and BEAT (chapter 2). -/

theorem contactRestart_effects (h : Side) (s : State) : Effects i s (contactRestart h s) := by
  refine (Effect.contacts _ s fun x _ hx => ?_).run
  cases h <;> cases x <;> simp_all [Pair.set, Pair.get]

theorem takeManaged_effects (h : Handed) (s : State) : Effects i s (takeManaged h s) := by
  have hfront := (Effect.dequeue (i := i) h s).run
  unfold takeManaged
  split
  · exact hfront.trans (contactRestart_effects _ _)
  · exact hfront

/-- A COMMAND of a head station has that head in contact once it has been taken (R34). -/
theorem inContact_after (s : State) (h : Handed) (x : Side) (hx : headOf h.sender.source = some x) :
    (takeManaged h s).agent.contacts.get x ≠ none := by
  simp [takeManaged, hx, contactRestart, setContacts]

theorem modeRequest_effects (c : Channel) (m : Mode) (s : State) : Effects i s (modeRequest c m s) :=
  (Effect.pump c _ s (.mode m)).run

theorem setShedForcing_effects {f : Option Nat} (h : f.getD 0 ≤ 4) (s : State) : Effects i s (setShedForcing f s) :=
  (Effect.shedForcing f s h).run

theorem autonomy_effects (s : State) : Effects i s (autonomy s) := by
  let noted : State := { s with agent := { s.agent with pumpForce := ⟨none, none⟩ } }
  have hnote : Effects i s noted :=
    (Effect.note { s.agent with pumpForce := ⟨none, none⟩ } s ⟨rfl, rfl, rfl, rfl, rfl, id⟩).run
  have hout : Effects i s (resolveOutputs
      { s with agent := { s.agent with outForce := List.replicate 7 none, pumpForce := ⟨none, none⟩ } }) :=
    hnote.trans (Effect.outForcing (List.replicate 7 none) noted).run
  exact ((hout.trans (setShedForcing_effects (f := none) (by simp) _)).trans (modeRequest_effects .ab _ _)).trans
    (modeRequest_effects .ba _ _)

theorem contactExpiry_effects (h : Side) (s : State) : Effects i s (contactExpiry h s) := by
  let c : Option Side := if s.agent.control = some h then none else s.agent.control
  have hc : ∀ x, c = some x → s.agent.control = some x ∧ x ≠ h := by
    simp only [c]
    split <;> grind
  refine ((Effect.control c s fun x hx => .inl (hc x hx).1).run).trans
    (Effect.contacts (s.agent.contacts.set h none) _ fun x hx hcontact => ?_).run
  have hne : x ≠ h := (hc x hx).2
  cases h <;> cases x <;> simp_all [Pair.set, Pair.get]

theorem execContactTimerExpiry_yields (h : Side) (s : State) : Yields i s (execContactTimerExpiry h s) := by
  unfold execContactTimerExpiry
  split
  next t _ =>
    refine yields_next ?_
    have hexpiry := (Effect.clock (i := i) t s).run.trans (contactExpiry_effects h _)
    exact effects_ite (fun _ => hexpiry.trans (autonomy_effects _)) fun _ => hexpiry
  · exact yields_same i s

theorem execHutTimeTick_yields (s : State) : Yields i s (execHutTimeTick s) :=
  by
  let a : Agent := { s.agent with hutTime := s.agent.hutTime + 1, secondAt := s.agent.secondAt + seconds 1 }
  exact yields_next ((Effect.clock _ s).run.trans
    (Effect.note a (s.reach s.agent.secondAt) ⟨rfl, rfl, rfl, rfl, rfl, id⟩).run)

theorem execBeat_yields (m : Sender) (payload : List Byte) (s : State) : Yields i s (execBeat m payload s) := by
  refine yields_next ((takeManaged_effects ⟨.beat, m, payload⟩ s).trans ?_)
  refine effects_ite (fun _ => (Effect.note _ _ ?_).run) fun _ => Effects.refl i _
  exact ⟨rfl, rfl, rfl, rfl, rfl, id⟩

end Sys2Proof.Machine

/-! PROOF. Every management command is a run of effects (chapter 2), and so is a step. -/

namespace Sys2Proof.Machine

variable {i : Instr} {m : Sender}

/-! What a command comes to, before its reply. -/

/-- An answer that is reached by effects of the command, with a reply the size section 1.3.2 allows. -/
structure Answer.Sound (i : Instr) (s : State) (a : Answer) : Prop where
  effects : Effects i s a.state
  reply : ∀ st r, a.reply = some (st, r) → r.length ≤ 62

theorem sound_refuse (st : Status) (s : State) : (Answer.refuse st s).Sound i s := by
  refine ⟨Effects.refl i s, ?_⟩
  rintro _ _ ⟨⟩
  decide

theorem sound_done {s t : State} (h : Effects i s t) : (Answer.done t).Sound i s := by
  refine ⟨h, ?_⟩
  rintro _ _ ⟨⟩
  decide

/-- An answer that changes nothing, with a result. -/
theorem sound_result {s : State} {st : Status} {r : List Byte} (h : r.length ≤ 62) :
    Answer.Sound i s ⟨s, some (st, r)⟩ := by
  refine ⟨Effects.refl i s, ?_⟩
  rintro _ _ ⟨⟩
  exact h

theorem sound_ite {s : State} {a b : Answer} {c : Prop} [Decidable c] (ha : c → a.Sound i s) (hb : ¬c → b.Sound i s) :
    (if c then a else b).Sound i s := by
  split_ifs with h
  · exact ha h
  · exact hb h

theorem giveAnswer_effects (hm : Instr.sender i = some m) (code : Byte) {s : State} {a : Answer} (h : a.Sound i s) :
    Effects i s (giveAnswer m code a) := by
  unfold giveAnswer
  split
  next st r hr => exact h.effects.trans (Effect.reply m code st r _ hm (h.reply st r hr)).run
  · exact h.effects

/-- A COMMAND is the message taken, then what its body comes to, then its reply. -/
theorem command_effects (hm : Instr.sender i = some m) (code : Byte) (fixed : Nat) (controlled : Bool) (payload : List Byte)
    {body : State → Answer}
    (hbody : ∀ u : State, (∀ x, headOf m.source = some x → u.agent.contacts.get x ≠ none) → (body u).Sound i u) (s : State) :
    Effects i s (command code fixed controlled m payload body s) := by
  unfold command
  refine effects_ite (fun _ => (Effect.dequeue _ s).run) fun _ => (takeManaged_effects ⟨.command, m, payload⟩ s).trans ?_
  dsimp only
  split
  · split
    · exact (Effect.reply m code _ [] _ hm (by simp)).run
    · exact giveAnswer_effects hm code (hbody _ fun x hx => inContact_after s ⟨.command, m, payload⟩ x hx)
  all_goals exact Effects.refl i _

theorem commandOrBroadcast_effects (hm : Instr.sender i = some m) (code : Byte) (fixed : Nat) (payload : List Byte)
    {argsGood broadcastGood : Bool} {effect : State → State}
    (heffect : argsGood = true ∨ broadcastGood = true → ∀ u, Effects i u (effect u)) (s : State) :
    Effects i s (commandOrBroadcast code fixed m payload argsGood broadcastGood effect s) := by
  have hcommand : Effects i s (command code fixed true m payload
      (fun s1 => if argsGood then Answer.done (effect s1) else Answer.refuse .badValue s1) s) :=
    command_effects hm code fixed true payload (fun u _ => sound_ite (fun hg => sound_done (heffect (.inl hg) u))
      fun _ => sound_refuse _ u) s
  unfold commandOrBroadcast
  split
  · refine effects_ite (fun _ => (Effect.dequeue _ s).run) fun _ => (takeManaged_effects ⟨.command, m, payload⟩ s).trans ?_
    refine effects_ite (fun h => heffect (.inr ?_) _) fun _ => Effects.refl i _
    exact (Bool.and_eq_true_iff.1 h).2
  all_goals exact hcommand

/-! The open commands. -/

theorem claimBody_sound {s : State} (h : ∀ x, headOf m.source = some x → s.agent.contacts.get x ≠ none) :
    (claimBody m s).Sound i s := by
  unfold claimBody
  split
  · exact sound_result (by simp)
  next x hx =>
    refine sound_ite (fun _ => ⟨(Effect.control (some x) s ?_).run, ?_⟩) fun _ => sound_result (by simp)
    · rintro _ ⟨⟩
      exact .inr (h x hx)
    · rintro _ _ ⟨⟩
      simp

theorem releaseBody_sound (s : State) : (releaseBody m s).Sound i s := by
  refine ⟨effects_ite (fun _ => (Effect.control none s (by simp)).run) fun _ => Effects.refl i s, ?_⟩
  rintro _ _ ⟨⟩
  simp

theorem entrySize_le {id : Nat} : entrySize id * (59 / entrySize id) ≤ 59 := Nat.mul_div_le 59 (entrySize id)

theorem readEntryBody_sound (args : List Byte) (s : State) : (readEntryBody args s).Sound i s := by
  refine sound_ite (fun _ => sound_refuse _ s) fun _ => sound_ite (fun _ => sound_refuse _ s) fun _ =>
    sound_ite (fun _ => sound_refuse _ s) fun _ => sound_result ?_
  generalize hn : min (byteAt args 2) _ = n
  have hpieces : ∀ e ∈ ((s.tables.entryBytes (byteAt args 0)).drop (byteAt args 1)).take n, e.length = entrySize (byteAt args 0) :=
    fun e he => length_of_mem_entryBytes (List.mem_of_mem_drop (List.mem_of_mem_take he))
  have hle : n ≤ 59 / entrySize (byteAt args 0) := by omega
  have hcount : (((s.tables.entryBytes (byteAt args 0)).drop (byteAt args 1)).take n).length ≤ n := List.length_take_le _ _
  have htotal := (Nat.mul_le_mul_left (entrySize (byteAt args 0)) (hcount.trans hle)).trans entrySize_le
  rw [List.length_append, length_flatten_of_pieces hpieces, Nat.mul_comm]
  simp only [List.length_cons, List.length_nil]
  omega

theorem length_flatMap_le {α : Type} {l : List α} {f : α → List Byte} {k n : Nat} (hf : ∀ x, (f x).length = k)
    (hl : l.length ≤ n) : (l.flatMap f).length ≤ n * k := by
  rw [List.length_flatMap, List.map_congr_left (fun x _ => hf x), List.map_const', List.sum_replicate, smul_eq_mul]
  exact Nat.mul_le_mul_right k hl

theorem readPointsBody_sound (args : List Byte) (s : State) : (readPointsBody args s).Sound i s := by
  refine sound_ite (fun _ => sound_refuse _ s) fun hcount => sound_ite (fun _ => sound_refuse _ s) fun _ =>
    sound_result ?_
  have hlen := length_flatMap_le (f := Point.bytes) (k := 4) (fun p => rfl)
    (List.length_take_le (min (byteAt args 1) (46 - byteAt args 0)) (s.points.recs.drop (byteAt args 0)))
  rw [List.length_append]
  simp only [List.length_cons, List.length_nil]
  omega

theorem readStandingBody_sound (args : List Byte) (s : State) : (readStandingBody args s).Sound i s := by
  refine sound_result ?_
  have hlen := length_flatMap_le (f := Standing.bytes) (k := 9) (fun p => rfl)
    (List.length_take_le 4 (s.alarms.drop (byteAt args 0)))
  rw [List.length_append]
  simp only [List.length_cons, List.length_nil]
  omega

/-! The controlled commands. -/

theorem setOutputForcing_effects (o : Nat) (f : Option Bool) (s : State) : Effects i s (setOutputForcing o f s) :=
  (Effect.outForcing _ s).run

theorem setPumpForcing_effects (c : Channel) (md : Mode) (s : State) : Effects i s (setPumpForcing c md s) :=
  (Effect.note { s.agent with pumpForce := s.agent.pumpForce.set c (some md) } s ⟨rfl, rfl, rfl, rfl, rfl, id⟩).run.trans
    (modeRequest_effects c md _)

theorem forcePumps_effects (ch : Nat) (md : Mode) (s : State) : Effects i s (forcePumps ch md s) :=
  effects_ite (fun _ => setPumpForcing_effects .ab md s) fun _ => effects_ite (fun _ => setPumpForcing_effects .ba md s)
    fun _ => (setPumpForcing_effects .ab md s).trans (setPumpForcing_effects .ba md _)

theorem startPulse_effects (o d : Nat) (s : State) : Effects i s (startPulse o d s) := (Effect.pulses _ s).run

theorem pulseBody_sound (args : List Byte) (s : State) : (pulseBody args s).Sound i s :=
  sound_ite (fun _ => sound_refuse _ s) fun _ => sound_ite (fun _ => sound_refuse _ s) fun _ =>
    sound_ite (fun _ => sound_refuse _ s) fun _ => sound_done (startPulse_effects _ _ s)

theorem writable_of_idle {s : State} (h : ¬(s.agent.store.isSome ∨ s.loader.autoload.isSome)) : s.Writable := by
  rw [not_or, Option.not_isSome_iff_eq_none, Option.not_isSome_iff_eq_none] at h
  exact ⟨h.2, h.1⟩

theorem storeBody_sound (hm : Instr.sender i = some m) (s : State) : (storeBody m s).Sound i s := by
  refine sound_ite (fun _ => sound_refuse _ s) fun h => ⟨(Effect.beginStore m s hm (writable_of_idle h)).run, ?_⟩
  rintro _ _ ⟨⟩

theorem restartBody_sound (hm : Instr.sender i = some m) (s : State) : (restartBody m s).Sound i s := by
  refine ⟨(Effect.beginRestart m s hm).run, ?_⟩
  unfold restartBody
  split
  · exact (sound_refuse (i := i) _ s).reply
  · rintro _ _ ⟨⟩

/-! WRITE ENTRY (R43). -/

/-- What an owner has to show of its taking of an entry. -/
def OwnerSound (i : Instr) (id : Nat) (owner : Nat → List Byte → State → Option State) : Prop :=
  ∀ (j : Nat) (e : List Byte) (s t : State), s.Writable → j < entryCount id → lockRefuses id j e s = false →
    owner j e s = some t → Effects i s t

theorem writeBody_sound {id : Nat} {owner : Nat → List Byte → State → Option State} (h : OwnerSound i id owner)
    (args : List Byte) (s : State) : (writeBody id args owner s).Sound i s := by
  refine sound_ite (fun _ => sound_refuse _ s) fun _ => sound_ite (fun _ => sound_refuse _ s) fun hindex =>
    sound_ite (fun _ => sound_refuse _ s) fun hload => sound_ite (fun _ => sound_refuse _ s) fun hlock =>
    sound_ite (fun _ => sound_refuse _ s) fun hstore => ?_
  split
  next t ht =>
    exact sound_done (h _ _ s t (writable_of_idle (not_or.2 ⟨hstore, hload⟩)) (Nat.lt_of_not_le hindex)
      (Bool.eq_false_iff.2 hlock) ht)
  · exact sound_refuse _ s

theorem writeEntry_effects (hm : Instr.sender i = some m) {id : Nat} {owner : Nat → List Byte → State → Option State}
    (h : OwnerSound i id owner) (args : List Byte) (s : State) : Effects i s (writeEntry id m args owner s) :=
  command_effects hm _ _ _ _ (fun u _ => writeBody_sound h args u) s

/-- Tables with other entries than these stay acceptable as their parts do. -/
theorem entry_effects {t : Tables} {s : State} (h : TableMove s t) : Effects i s { s with tables := t } :=
  (Effect.entry t s h).run

theorem mem_set_of {α : Type} {P : α → Prop} {l : List α} {j : Nat} {v : α} (hl : ∀ x ∈ l, P x) (hv : P v) :
    ∀ x ∈ l.set j v, P x := by
  intro x hx
  rcases List.mem_or_eq_of_mem_set hx with hmem | rfl
  · exact hl x hmem
  · exact hv

theorem ownAction_sound : OwnerSound i 1 ownAction := by
  intro j e s t hw _ _ h
  obtain ⟨a, ha, rfl⟩ := Option.map_eq_some_iff.1 h
  obtain ⟨-, hforth⟩ := (readAction_eq_some_iff j e a).1 ha
  refine entry_effects ⟨hw, fun hgood => ?_, rfl, rfl, id, fun _ => rfl⟩
  obtain ⟨⟨hlen, hfour⟩, hrest⟩ := hgood
  refine ⟨⟨by simp [hlen], ?_⟩, hrest⟩
  by_cases hj : j = 4
  · simp [hj, hlen, hforth hj, List.getD_eq_getElem?_getD]
  · simpa [List.getD_eq_getElem?_getD, List.getElem?_set_ne hj] using hfour

theorem ownScan_sound : OwnerSound i 2 ownScan := by
  intro j e s t hw _ _ h
  obtain ⟨x, hx, rfl⟩ := Option.map_eq_some_iff.1 h
  exact (Effect.scanList x s hw (readScan_good hx)).run

theorem ownCalibration_sound : OwnerSound i 3 ownCalibration := by
  intro j e s t hw _ _ h
  obtain ⟨c, hc, rfl⟩ := Option.map_eq_some_iff.1 h
  refine (entry_effects (t := { s.tables with cals := s.tables.cals.set j c }) ⟨hw, fun hgood => ?_, rfl, rfl, id,
    fun _ => rfl⟩).trans (Effect.sampling _ _ (.settle _)).run
  obtain ⟨hactions, hscan, ⟨hlen, hcals⟩, hrest⟩ := hgood
  exact ⟨hactions, hscan, ⟨by simp [hlen], mem_set_of hcals (readCalibration_good hc)⟩, hrest⟩

theorem ownCurve_sound : OwnerSound i 4 ownCurve := by
  intro j e s t hw _ _ h
  obtain ⟨c, hc, rfl⟩ := Option.map_eq_some_iff.1 h
  refine (entry_effects (t := { s.tables with curves := s.tables.curves.set j c }) ⟨hw, fun hgood => ?_, rfl, rfl, id,
    fun _ => rfl⟩).trans (Effect.sampling _ _ (.settle _)).run
  obtain ⟨hactions, hscan, hcals, ⟨hlen, hcurves⟩, hrest⟩ := hgood
  exact ⟨hactions, hscan, hcals, ⟨by simp [hlen], mem_set_of hcurves (readCurve_good hc)⟩, hrest⟩

theorem takePollWrite_effects {j : Nat} {e : PollEntry} {s : State} (hw : s.Writable) (hj : j < 12) (he : e.good) :
    Effects i s (takePollWrite j e s) := by
  let run : PollRun := if e.inUse then ⟨.due, 0, none⟩ else ⟨.idle, 0, none⟩
  have hrun : run = ⟨.due, 0, none⟩ ∨ run = ⟨.idle, 0, none⟩ := by
    simp only [run]
    split_ifs
    · exact .inl rfl
    · exact .inr rfl
  let s1 : State := { s with tables := { s.tables with polls := s.tables.polls.set j e } }
  have hentry : Effects i s s1 := by
    refine entry_effects ⟨hw, fun hgood => ?_, rfl, rfl, id, fun _ => rfl⟩
    obtain ⟨hactions, hscan, hcals, hcurves, ⟨hlen, hpolls⟩, hrest⟩ := hgood
    exact ⟨hactions, hscan, hcals, hcurves, ⟨by simp [hlen], mem_set_of hpolls he⟩, hrest⟩
  exact ((hentry.trans (Effect.poll _ s1 (.restart j run ⟨hw.autoload, hw.store⟩ hj hrun)).run).trans
    (Effect.lose j _ (.inl hj)).run).trans (takeGrant_effects _)

theorem ownPoll_sound : OwnerSound i 5 ownPoll := by
  intro j e s t hw hj _ h
  obtain ⟨x, hx, rfl⟩ := Option.map_eq_some_iff.1 h
  exact takePollWrite_effects hw hj (readPollEntry_good hx)

/-- An entry that reads as a reduce action has its code, 2 or 3. -/
theorem actionCode_of_reduce {own : Nat} {e : List Byte} {c : Condition} (h : readCondition own e = some c) {x : Channel}
    (hx : c.action = .reduce x) : byteAt e 14 = 2 ∨ byteAt e 14 = 3 := by
  obtain ⟨-, -, -, -, -, -, -, -, -, -, -, haction, -⟩ := (readCondition_eq_some_iff own e c).1 h
  unfold CondAction.ofCode at haction
  split at haction <;> grind

/-- R44: a write of the Condition Table that the lock lets through meets no reduce action, before or after. -/
theorem no_reduce_of_lockRefuses {j : Nat} {e : List Byte} {s : State} {c : Condition} (h : lockRefuses 6 j e s = false)
    (hc : readCondition j e = some c) (hlock : s.agent.lock = true) :
    (∀ x, (s.tables.conds.getD j builtinUnused).action ≠ .reduce x) ∧ ∀ x, c.action ≠ .reduce x := by
  simp only [lockRefuses, hlock, Bool.true_and, Bool.or_eq_false_iff, beq_self_eq_true, decide_eq_false_iff_not, not_or,
    beq_eq_false_iff_ne] at h
  obtain ⟨-, ⟨⟨hab, hba⟩, htwo⟩, hthree⟩ := h
  refine ⟨fun x hx => ?_, fun x hx => ?_⟩
  · cases x with
    | ab => exact hab hx
    | ba => exact hba hx
  · rcases actionCode_of_reduce hc hx with h2 | h3
    · exact htwo h2
    · exact hthree h3

theorem ownCondition_sound : OwnerSound i 6 ownCondition := by
  intro j e s t hw hj hlock h
  obtain ⟨c, hc, rfl⟩ := Option.map_eq_some_iff.1 h
  exact (Effect.condition j c s hw hj (readCondition_good hc) (no_reduce_of_lockRefuses hlock hc)).run

theorem ownShed_sound : OwnerSound i 7 ownShed := by
  intro j e s t hw _ _ h
  obtain ⟨v, -, rfl⟩ := Option.map_eq_some_iff.1 h
  refine (entry_effects (t := { s.tables with sheds := s.tables.sheds.set j v }) ⟨hw, fun hgood => ?_, rfl, rfl, id,
    fun _ => rfl⟩).trans (Effect.outputs _ _ _).run
  obtain ⟨hactions, hscan, hcals, hcurves, hpolls, hconds, hlen, hrest⟩ := hgood
  exact ⟨hactions, hscan, hcals, hcurves, hpolls, hconds, by simp [hlen], hrest⟩

theorem ownSupply_sound : OwnerSound i 8 ownSupply := by
  intro j e s t hw _ _ h
  obtain ⟨g, hg, rfl⟩ := Option.map_eq_some_iff.1 h
  refine (entry_effects (t := { s.tables with supply := g }) ⟨hw, fun hgood => ?_, rfl, rfl, id, fun _ => rfl⟩).trans
    (adoptSupply_effects { s with tables := { s.tables with supply := g } })
  obtain ⟨hactions, hscan, hcals, hcurves, hpolls, hconds, hsheds, -, hrest⟩ := hgood
  exact ⟨hactions, hscan, hcals, hcurves, hpolls, hconds, hsheds, readSupply_good hg, hrest⟩

theorem ownPump_sound : OwnerSound i 9 ownPump := by
  intro j e s t hw _ hlock h
  obtain ⟨p, hp, rfl⟩ := Option.map_eq_some_iff.1 h
  have hunlocked : s.agent.lock = false := by simpa [lockRefuses] using hlock
  let s1 : State := { s with tables := { s.tables with pumps := s.tables.pumps.set (channelOf j) p } }
  have hentry : Effects i s s1 := by
    refine entry_effects ⟨hw, fun hgood => ?_, rfl, rfl, id, by simp [hunlocked]⟩
    obtain ⟨hactions, hscan, hcals, hcurves, hpolls, hconds, hsheds, hsupply, hab, hba, hrest⟩ := hgood
    have hvalid := readPump_valid hp
    refine ⟨hactions, hscan, hcals, hcurves, hpolls, hconds, hsheds, hsupply, ?_, ?_, hrest⟩ <;>
      cases channelOf j <;> assumption
  have hadopt := adoptPump_effects (i := i) (channelOf j) s1
  rw [show s1.tables.pumps.get (channelOf j) = p from Duo.get_set_same _ _ _] at hadopt
  exact hentry.trans hadopt

theorem takeLineSettings_effects {x : LineSettings} {s : State} (hw : s.Writable) (hx : x.good) :
    Effects i s (takeLineSettings x s) := by
  refine (entry_effects (t := { s.tables with line := x }) ⟨hw, fun hgood => ?_, rfl, rfl, fun _ => hx.2.2,
    fun _ => rfl⟩).trans (Effect.line _ _ .settings).run
  obtain ⟨hactions, hscan, hcals, hcurves, hpolls, hconds, hsheds, hsupply, hab, hba, -, hrest⟩ := hgood
  exact ⟨hactions, hscan, hcals, hcurves, hpolls, hconds, hsheds, hsupply, hab, hba, hx, hrest⟩

theorem ownLine_sound : OwnerSound i 10 ownLine := by
  intro j e s t hw _ _ h
  obtain ⟨x, hx, rfl⟩ := Option.map_eq_some_iff.1 h
  exact takeLineSettings_effects hw (readLine_good hx)

theorem ownIdle_sound : OwnerSound i 11 ownIdle := by
  intro j e s t hw _ _ h
  obtain ⟨on, hon, rfl⟩ := Option.map_eq_some_iff.1 h
  obtain ⟨-, hlast⟩ := (readIdle_eq_some_iff j e on).1 hon
  refine (entry_effects (t := { s.tables with idles := s.tables.idles.set j on }) ⟨hw, fun hgood => ?_, rfl, rfl, id,
    fun _ => rfl⟩).trans (Effect.outputs _ _ _).run
  obtain ⟨hactions, hscan, hcals, hcurves, hpolls, hconds, hsheds, hsupply, hab, hba, hline, ⟨hlen, hseven⟩, hmgmt⟩ := hgood
  refine ⟨hactions, hscan, hcals, hcurves, hpolls, hconds, hsheds, hsupply, hab, hba, hline, ⟨by simp [hlen], ?_⟩, hmgmt⟩
  by_cases hj : j = 7
  · simp [hj, hlen, hlast hj, List.getD_eq_getElem?_getD]
  · simpa [List.getD_eq_getElem?_getD, List.getElem?_set_ne hj] using hseven

theorem ownManagement_sound : OwnerSound i 12 ownManagement := by
  intro j e s t hw _ _ h
  obtain ⟨x, hx, rfl⟩ := Option.map_eq_some_iff.1 h
  refine entry_effects ⟨hw, fun hgood => ?_, rfl, rfl, id, fun _ => rfl⟩
  obtain ⟨hactions, hscan, hcals, hcurves, hpolls, hconds, hsheds, hsupply, hab, hba, hline, hidles, -⟩ := hgood
  exact ⟨hactions, hscan, hcals, hcurves, hpolls, hconds, hsheds, hsupply, hab, hba, hline, hidles, readManagement_good hx⟩

end Sys2Proof.Machine

/-! PROOF. Every command, and every step, is a run of effects. -/

namespace Sys2Proof.Machine

theorem yields_execAckAlarm {i : Instr} {m : Sender} (hm : Instr.sender i = some m) (args : List Byte) (s : State) :
    Yields i s (execAckAlarm m args s) :=
  yields_next (commandOrBroadcast_effects hm _ _ _ (fun _ u => (Effect.acknowledge _ u).run) s)

theorem execForceOutput_yields {i : Instr} {m : Sender} (hm : Instr.sender i = some m) (args : List Byte) (s : State) :
    Yields i s (execForceOutput m args s) :=
  yields_next (command_effects hm _ _ _ _ (fun u _ => sound_ite (fun _ => sound_refuse _ u)
    fun _ => sound_done (setOutputForcing_effects _ _ u)) s)

theorem execForceShed_yields {i : Instr} {m : Sender} (hm : Instr.sender i = some m) (args : List Byte) (s : State) :
    Yields i s (execForceShed m args s) := by
  refine yields_next (commandOrBroadcast_effects hm _ _ _ (fun hgood u => setShedForcing_effects ?_ u) s)
  rw [or_self, decide_eq_true_eq] at hgood
  split_ifs with hauto
  · simp
  · simpa [hauto] using hgood

theorem execPumpMode_yields {i : Instr} {m : Sender} (hm : Instr.sender i = some m) (args : List Byte) (s : State) :
    Yields i s (execPumpMode m args s) :=
  yields_next (commandOrBroadcast_effects hm _ _ _ (fun _ u => forcePumps_effects _ _ u) s)

theorem execUnknownCommand_yields {i : Instr} {m : Sender} (hm : Instr.sender i = some m) (payload : List Byte) (s : State) :
    Yields i s (execUnknownCommand m payload s) := by
  unfold execUnknownCommand
  split
  · refine yields_next (effects_ite (fun _ => (Effect.dequeue _ s).run) fun _ => ?_)
    exact (takeManaged_effects _ s).trans (Effect.reply m _ _ [] _ hm (by simp)).run
  · exact yields_refused i s _

theorem execIgnoredCommand_yields {i : Instr} (m : Sender) (payload : List Byte) (s : State) :
    Yields i s (execIgnoredCommand m payload s) := by
  unfold execIgnoredCommand
  split
  · exact yields_refused i s _
  · exact yields_next (effects_ite (fun _ => Effects.refl i s) fun _ => effects_ite (fun _ => (Effect.dequeue _ s).run)
      fun _ => takeManaged_effects _ s)

theorem execWriteEntryOtherTable_yields {i : Instr} {m : Sender} (hm : Instr.sender i = some m) (args : List Byte) (s : State) :
    Yields i s (execWriteEntryOtherTable m args s) := by
  unfold execWriteEntryOtherTable
  split
  · exact yields_next (command_effects hm _ _ _ _ (fun u _ => sound_refuse _ u) s)
  · exact yields_refused i s _

/-- A command is a run of its effects. -/
theorem exec_yields (i : Instr) (s : State) : Yields i s (exec i s) := by
  cases i with
  | powerOnReset addr inputs => exact yields_next (Effect.powerOn addr inputs s (.inl rfl)).run
  | resetPin addr inputs => exact yields_next (Effect.powerOn addr inputs s (.inr rfl)).run
  | restartReset addr =>
    simp only [exec, execRestartReset]
    split
    · exact yields_next (effects_ite (fun _ => (Effect.restart addr s rfl).run) fun _ => Effects.refl _ s)
    · exact yields_same _ s
  | transmitEvent p => exact execTransmitEvent_yields p s
  | syncPatternFound p pos b0 b1 b2 => exact execSyncPatternFound_yields p pos b0 b1 b2 s
  | confirmCheck p b0 b1 b2 => exact execConfirmCheck_yields p b0 b1 b2 s
  | missedSync p b0 b1 b2 => exact execMissedSync_yields p b0 b1 b2 s
  | lossOfSync p b0 b1 b2 => exact execLossOfSync_yields p b0 b1 b2 s
  | erroredFrame p f => exact execErroredFrame_yields p f s
  | goodFrameArrival p f => exact execGoodFrameArrival_yields p f s
  | rfmRunCountReached p f => exact execRfmRunCountReached_yields p f s
  | windowTimerExpiry p => exact execWindowTimerExpiry_yields p s
  | identify m args =>
    exact yields_next (command_effects rfl _ _ _ _ (fun u _ => sound_result (by simp [identity])) s)
  | claim m args => exact yields_next (command_effects rfl _ _ _ _ (fun u hu => claimBody_sound hu) s)
  | release m args => exact yields_next (command_effects rfl _ _ _ _ (fun u _ => releaseBody_sound u) s)
  | readEntry m args => exact yields_next (command_effects rfl _ _ _ _ (fun u _ => readEntryBody_sound args u) s)
  | readPoints m args => exact yields_next (command_effects rfl _ _ _ _ (fun u _ => readPointsBody_sound args u) s)
  | readStanding m args => exact yields_next (command_effects rfl _ _ _ _ (fun u _ => readStandingBody_sound args u) s)
  | writeMessageAction m args => exact yields_next (writeEntry_effects rfl ownAction_sound args s)
  | writeScanList m args => exact yields_next (writeEntry_effects rfl ownScan_sound args s)
  | writeChannelCalibration m args => exact yields_next (writeEntry_effects rfl ownCalibration_sound args s)
  | writeConversionCurve m args => exact yields_next (writeEntry_effects rfl ownCurve_sound args s)
  | writePollEntry m args => exact yields_next (writeEntry_effects rfl ownPoll_sound args s)
  | writeCondition m args => exact yields_next (writeEntry_effects rfl ownCondition_sound args s)
  | writeShedTable m args => exact yields_next (writeEntry_effects rfl ownShed_sound args s)
  | writeSupplySettings m args => exact yields_next (writeEntry_effects rfl ownSupply_sound args s)
  | writePumpSettings m args => exact yields_next (writeEntry_effects rfl ownPump_sound args s)
  | writeLineSettings m args => exact yields_next (writeEntry_effects rfl ownLine_sound args s)
  | writeOutputSettings m args => exact yields_next (writeEntry_effects rfl ownIdle_sound args s)
  | writeManagementSettings m args => exact yields_next (writeEntry_effects rfl ownManagement_sound args s)
  | writeEntryOtherTable m args => exact execWriteEntryOtherTable_yields rfl args s
  | ackAlarm m args => exact yields_execAckAlarm rfl args s
  | forceOutput m args => exact execForceOutput_yields rfl args s
  | forceShed m args => exact execForceShed_yields rfl args s
  | pumpMode m args => exact execPumpMode_yields rfl args s
  | pulseOutput m args => exact yields_next (command_effects rfl _ _ _ _ (fun u _ => pulseBody_sound args u) s)
  | requalifySupply m args =>
    exact yields_next (command_effects rfl _ _ _ _
      (fun u _ => sound_done (Effect.supply _ [] u .requalify (.inl rfl)).run) s)
  | chargeRestart m args =>
    exact yields_next (command_effects rfl _ _ _ _
      (fun u _ => sound_done (Effect.supply _ [] u .restartCharge (.inl rfl)).run) s)
  | setLock m args =>
    exact yields_next (command_effects rfl _ _ _ _
      (fun u _ => sound_done (Effect.note { u.agent with lock := true } u ⟨rfl, rfl, rfl, rfl, rfl, fun _ => rfl⟩).run) s)
  | storeSettings m args => exact yields_next (command_effects rfl _ _ _ _ (fun u _ => storeBody_sound rfl u) s)
  | restart m args => exact yields_next (command_effects rfl _ _ _ _ (fun u _ => restartBody_sound rfl u) s)
  | unknownCommand m payload => exact execUnknownCommand_yields rfl payload s
  | ignoredCommand m payload => exact execIgnoredCommand_yields m payload s
  | beat m payload => exact execBeat_yields m payload s
  | contactTimerExpiry h => exact execContactTimerExpiry_yields h s
  | hutTimeTick => exact execHutTimeTick_yields s
  | autoloadAddressRetry acknowledged => exact execAutoloadAddressRetry_yields acknowledged s
  | autoloadReadDone r => exact execAutoloadReadDone_yields r s
  | autoloadDeadline => exact execAutoloadDeadline_yields s
  | pageWriteDone r => exact execPageWriteDone_yields r s
  | pageAckPoll r => exact execPageAckPoll_yields r s
  | pageWriteTimeout => exact execPageWriteTimeout_yields s
  | readBackDone r => exact execReadBackDone_yields r s
  | scanPeriodStart => exact execScanPeriodStart_yields s
  | conversionEvent code => exact execConversionEvent_yields code s
  | brownOutEvent v => exact execBrownOutEvent_yields v s
  | startupPulsesDone => exact execStartupPulsesDone_yields s
  | transactionSuccess bits => exact execTransactionSuccess_yields bits s
  | transactionFailure f => exact execTransactionFailure_yields f s
  | nextDueTime j => exact execNextDueTime_yields j s
  | retryTime j => exact execRetryTime_yields j s
  | busFault => exact execBusFault_yields s
  | recoveryComplete c d => exact execRecoveryComplete_yields c d s
  | ageTimerExpiry => exact execAgeTimerExpiry_yields s
  | stalenessDeadline j => exact execStalenessDeadline_yields j s
  | launchExpiry p => exact execLaunchExpiry_yields p s
  | inputRawChange j level => exact execInputRawChange_yields j level s
  | debounceTimerExpiry j => exact execDebounceTimerExpiry_yields j s
  | pass => exact execPass_yields s
  | qualifySetReached j => exact execQualifySetReached_yields j s
  | qualifyClearReached j => exact execQualifyClearReached_yields j s
  | startTimerExpiry c => exact execStartTimerExpiry_yields c s
  | rampTimerExpiry c => exact execRampTimerExpiry_yields c s
  | probeTimerExpiry c => exact execProbeTimerExpiry_yields c s
  | probeDurationExpiry c => exact execProbeDurationExpiry_yields c s
  | statusReadTimerExpiry c => exact execStatusReadTimerExpiry_yields c s
  | transferComplete reply => exact execTransferComplete_yields reply s
  | supplyCheck => exact execSupplyCheck_yields s
  | noSagCountReached => exact execNoSagCountReached_yields s
  | bulkTimerExpiry => exact execBulkTimerExpiry_yields s
  | absorbTimerExpiry => exact execAbsorbTimerExpiry_yields s
  | settleTimerExpiry => exact execSettleTimerExpiry_yields s
  | testTimerExpiry => exact execTestTimerExpiry_yields s
  | retryTimerExpiry => exact execRetryTimerExpiry_yields s
  | pulseEnd o => exact execPulseEnd_yields o s

theorem exec_effects {i : Instr} {s t : State} (h : exec i s = .next t) : Effects i s t := exec_yields i s t h

/-- The commands a step can run: one that waits, one that a handed message is, or an event of the part. -/
inductive Runs (s : State) : Instr → Prop
  | waiting (i : Instr) (h : i ∈ s.pending) : Runs s i
  | handed (h : Handed) (hmem : h ∈ s.inbox) : Runs s (handedCommand h)
  | event (i : Instr) (h : Instr.sender i = none) : Runs s i

theorem tick_effects (i : Instr) (s : State) : Effects i s { s with now := s.now + 1 } := by
  have hclock := (Effect.clock (i := i) (s.now + 1) s).run
  rwa [State.reach, Nat.max_eq_right (Nat.le_succ s.now)] at hclock

theorem idle_effects {s t : State} (h : idle s = .next t) : ∃ i, Runs s i ∧ Effects i s t := by
  unfold idle at h
  split at h
  · cases h
    exact ⟨.supplyCheck, .event _ rfl, (Effect.handedLevel s).run⟩
  · split at h
    next x l hinbox => exact ⟨_, .handed x (by simp [hinbox]), exec_effects h⟩
    next hinbox =>
      split at h
      next v l _ => exact ⟨_, .event (.brownOutEvent v) rfl, exec_effects h⟩
      · refine ⟨.nextDueTime 0, .event _ rfl, ?_⟩
        split_ifs at h <;> cases h
        · exact takeGrant_effects s
        · exact tick_effects _ s

/-- A step is a run of effects of one command, once that command has left the queue. -/
theorem step_effects {s t : State} (h : step s = .next t) :
    ∃ i s', Runs s i ∧ (s' = s ∨ ∃ l, s.pending = i :: l ∧ s' = { s with pending := l }) ∧ Effects i s' t := by
  unfold step at h
  split at h
  next i l hl => exact ⟨i, _, .waiting i (by simp [hl]), .inr ⟨l, hl, rfl⟩, exec_effects h⟩
  · obtain ⟨i, hruns, heffects⟩ := idle_effects h
    exact ⟨i, s, hruns, .inl rfl, heffects⟩

/-- What a shorter queue and every effect keep, every step keeps. -/
theorem step_preserves {P : State → Prop} (hpop : ∀ s l, P s → P { s with pending := l })
    (hP : ∀ i l s t, Effect i l s t → P s → P t) {s t : State} (hs : P s) (h : step s = .next t) : P t := by
  obtain ⟨i, s', -, rfl | ⟨l, -, rfl⟩, heffects⟩ := step_effects h
  · exact heffects.preserves (hP i) hs
  · exact heffects.preserves (hP i) (hpop s l hs)

/-! The queue and the clock (O2). -/

theorem Effect.pending_eq {i : Instr} {l : List Part} {s t : State} (h : Effect i l s t) : t.pending = s.pending := by
  refine h.changesOnly .pending ?_
  cases h <;> simp [resetParts, shedParts]

theorem Effect.now_le {i : Instr} {l : List Part} {s t : State} (h : Effect i l s t) : s.now ≤ t.now := by
  by_cases hnow : Part.now ∈ l
  · cases h with
    | clock t s => exact le_max_left _ _
    | _ => simp [resetParts, shedParts] at hnow
  · exact (h.changesOnly .now hnow).ge

theorem exec_pending {i : Instr} {s t : State} (h : exec i s = .next t) : t.pending = s.pending :=
  (exec_effects h).preserves (P := fun u => u.pending = s.pending) (fun _ _ _ he hu => he.pending_eq.trans hu) rfl

theorem exec_now_le {i : Instr} {s t : State} (h : exec i s = .next t) : s.now ≤ t.now :=
  (exec_effects h).preserves (P := fun u => s.now ≤ u.now) (fun _ _ _ he hu => hu.trans he.now_le) (le_refl s.now)

theorem eq_next_ite {c : Prop} [Decidable c] {a b : Result} (ha : c → ∃ t, a = .next t) (hb : ¬c → ∃ t, b = .next t) :
    ∃ t, (if c then a else b) = .next t := by
  split_ifs with h
  · exact ha h
  · exact hb h

/-- A well-formed command goes on: nothing but operands of another row is refused. -/
theorem exec_next_of_wellFormed {i : Instr} (s : State) (h : i.wellFormed = true) : ∃ t, exec i s = .next t := by
  cases i with
  | syncPatternFound p pos b0 b1 b2 => exact eq_next_ite (fun _ => ⟨_, rfl⟩) fun hn => absurd h hn
  | missedSync p b0 b1 b2 => exact eq_next_ite (fun hc => by simp [Instr.wellFormed, hc] at h) fun _ => ⟨_, rfl⟩
  | lossOfSync p b0 b1 b2 => exact eq_next_ite (fun hc => by simp [Instr.wellFormed, hc] at h) fun _ => ⟨_, rfl⟩
  | erroredFrame p f => exact eq_next_ite (fun _ => ⟨_, rfl⟩) fun hn => absurd h hn
  | goodFrameArrival p f => exact eq_next_ite (fun _ => ⟨_, rfl⟩) fun hn => absurd h hn
  | rfmRunCountReached p f => exact eq_next_ite (fun _ => ⟨_, rfl⟩) fun hn => absurd h hn
  | writeEntryOtherTable m l =>
    exact eq_next_ite (fun _ => ⟨_, rfl⟩) fun hn => absurd (Bool.and_eq_true_iff.1 h).2 hn
  | unknownCommand m l =>
    refine eq_next_ite (fun _ => ⟨_, rfl⟩) fun hn => absurd ?_ hn
    simp only [Instr.wellFormed, Bool.and_eq_true] at h ⊢
    exact ⟨h.1.2, h.2⟩
  | ignoredCommand m l =>
    refine eq_next_ite (fun hc => ?_) fun _ => ⟨_, rfl⟩
    simp [Instr.wellFormed, hc] at h
  | autoloadReadDone r =>
    refine eq_next_ite (fun _ => ?_) fun hn => absurd h hn
    split <;> exact ⟨_, rfl⟩
  | readBackDone r =>
    refine eq_next_ite (fun _ => ?_) fun hn => absurd h hn
    split
    · split <;> exact ⟨_, rfl⟩
    · exact ⟨_, rfl⟩
  | transactionFailure f =>
    refine eq_next_ite (fun _ => ?_) fun hn => absurd h hn
    split <;> exact ⟨_, rfl⟩
  | autoloadAddressRetry b =>
    simp only [exec, execAutoloadAddressRetry]
    split
    · split <;> exact ⟨_, rfl⟩
    · exact ⟨_, rfl⟩
  | pageWriteDone r =>
    simp only [exec, execPageWriteDone]
    split
    · split <;> exact ⟨_, rfl⟩
    · exact ⟨_, rfl⟩
  | pageAckPoll r =>
    simp only [exec, execPageAckPoll]
    split
    · split <;> exact ⟨_, rfl⟩
    · exact ⟨_, rfl⟩
  | pageWriteTimeout =>
    simp only [exec, execPageWriteTimeout]
    split
    · split <;> exact ⟨_, rfl⟩
    · exact ⟨_, rfl⟩
  | launchExpiry p =>
    simp only [exec, execLaunchExpiry]
    split
    · exact eq_next_ite (fun _ => ⟨_, rfl⟩) fun _ => ⟨_, rfl⟩
    · exact ⟨_, rfl⟩
  | restartReset addr => simp only [exec, execRestartReset]; split <;> exact ⟨_, rfl⟩
  | contactTimerExpiry x => simp only [exec, execContactTimerExpiry]; split <;> exact ⟨_, rfl⟩
  | autoloadDeadline => simp only [exec, execAutoloadDeadline]; split <;> exact ⟨_, rfl⟩
  | scanPeriodStart => simp only [exec, execScanPeriodStart]; split <;> exact ⟨_, rfl⟩
  | conversionEvent c => simp only [exec, execConversionEvent]; split <;> exact ⟨_, rfl⟩
  | startupPulsesDone => simp only [exec, execStartupPulsesDone]; split <;> exact ⟨_, rfl⟩
  | transactionSuccess l => simp only [exec, execTransactionSuccess]; split <;> exact ⟨_, rfl⟩
  | nextDueTime j => simp only [exec, execNextDueTime]; split <;> exact ⟨_, rfl⟩
  | retryTime j => simp only [exec, execRetryTime]; split <;> exact ⟨_, rfl⟩
  | recoveryComplete c d => simp only [exec, execRecoveryComplete]; split <;> exact ⟨_, rfl⟩
  | stalenessDeadline j => simp only [exec, execStalenessDeadline]; split <;> exact ⟨_, rfl⟩
  | debounceTimerExpiry j => simp only [exec, execDebounceTimerExpiry]; split <;> exact ⟨_, rfl⟩
  | pass => simp only [exec, execPass]; split <;> exact ⟨_, rfl⟩
  | qualifySetReached j => simp only [exec, execQualifySetReached]; split <;> exact ⟨_, rfl⟩
  | qualifyClearReached j => simp only [exec, execQualifyClearReached]; split <;> exact ⟨_, rfl⟩
  | startTimerExpiry c => simp only [exec, execStartTimerExpiry]; split <;> exact ⟨_, rfl⟩
  | rampTimerExpiry c => simp only [exec, execRampTimerExpiry]; split <;> exact ⟨_, rfl⟩
  | probeTimerExpiry c => simp only [exec, execProbeTimerExpiry]; split <;> exact ⟨_, rfl⟩
  | probeDurationExpiry c => simp only [exec, execProbeDurationExpiry]; split <;> exact ⟨_, rfl⟩
  | statusReadTimerExpiry c => simp only [exec, execStatusReadTimerExpiry]; split <;> exact ⟨_, rfl⟩
  | transferComplete reply => simp only [exec, execTransferComplete]; split <;> exact ⟨_, rfl⟩
  | supplyCheck => simp only [exec, execSupplyCheck]; split <;> exact ⟨_, rfl⟩
  | noSagCountReached => simp only [exec, execNoSagCountReached]; split <;> exact ⟨_, rfl⟩
  | bulkTimerExpiry => simp only [exec, execBulkTimerExpiry]; split <;> exact ⟨_, rfl⟩
  | absorbTimerExpiry => simp only [exec, execAbsorbTimerExpiry]; split <;> exact ⟨_, rfl⟩
  | settleTimerExpiry => simp only [exec, execSettleTimerExpiry]; split <;> exact ⟨_, rfl⟩
  | testTimerExpiry => simp only [exec, execTestTimerExpiry]; split <;> exact ⟨_, rfl⟩
  | retryTimerExpiry => simp only [exec, execRetryTimerExpiry]; split <;> exact ⟨_, rfl⟩
  | pulseEnd o => simp only [exec, execPulseEnd]; split <;> exact ⟨_, rfl⟩
  | _ => exact ⟨_, rfl⟩

end Sys2Proof.Machine

section

open Sys2Proof Sys2Proof.Machine

/-- Settles O2: a well-formed command is refused by no row, and no effect touches the queue or turns the clock back. -/
theorem wellFormedCommandsAlwaysRun : Obligations.WellFormedCommandsAlwaysRun := by
  unfold Obligations.WellFormedCommandsAlwaysRun
  intro i s h
  obtain ⟨t, ht⟩ := exec_next_of_wellFormed s h
  exact ⟨t, ht, exec_pending ht, exec_now_le ht⟩

end

/-! PROOF. What the effects do to a line port: the moves a port can make, whatever the rest of the part does. -/

namespace Sys2Proof.Machine

/-- One move of a line port; `F` holds of every message that comes into its relay buffer or its insert queue. -/
inductive PortMove (F : Message → Prop) (p : LinePort) : LinePort → Prop
  | offer (alert : Bool) (q : Queued) (h : F q.msg) : PortMove F p (p.offer alert q)
  | forward (m : Message) (h : F m) : PortMove F p (p.forward m)
  | malformed : PortMove F p p.countMalformed
  | quiet (q : LinePort) (h : p.Quiet q) : PortMove F p q
  | powerOn (t : Nat) : PortMove F p (LinePort.powerOn t)
  | restart : PortMove F p p.atRestart
  | relayed (l : List Message) (h : l <:+ p.relay) : PortMove F p { p with relay := l }
  | sent (l : List Queued) (n : BitVec 16) (f : List Byte) (t : Nat) (h : l <:+ p.queue) :
    PortMove F p { p with queue := l, frameNumber := n, sent := f, transmitAt := t }
  | resync (q : LinePort) (threshold : Nat) (h : p.Resync q) : PortMove F p { q with lineState := q.lineStateNow threshold }
  | window (threshold : Nat) : PortMove F p { p.endWindow with lineState := p.endWindow.lineStateNow threshold }
  | record (h : Header) : PortMove F p (p.record h)
  | settings (threshold : Nat) : PortMove F p { p with lineState := p.lineStateNow threshold }

/-- A run of moves of a line port. -/
abbrev PortMoves (F : Message → Prop) : LinePort → LinePort → Prop := Relation.ReflTransGen (PortMove F)

theorem PortMoves.of_eq {F : Message → Prop} {p q : LinePort} (h : q = p) : PortMoves F p q := h ▸ Relation.ReflTransGen.refl

theorem PortMove.run {F : Message → Prop} {p q : LinePort} (h : PortMove F p q) : PortMoves F p q :=
  Relation.ReflTransGen.single h

theorem PortMoves.preserves {F : Message → Prop} {P : LinePort → Prop} (hP : ∀ p q, PortMove F p q → P p → P q)
    {p q : LinePort} (h : PortMoves F p q) (hp : P p) : P q := by
  induction h with
  | refl => exact hp
  | tail _ hmove ih => exact hP _ _ hmove ih

theorem PortMoves.mono {F G : Message → Prop} (hFG : ∀ m, F m → G m) {p q : LinePort} (h : PortMoves F p q) :
    PortMoves G p q := by
  induction h with
  | refl => exact Relation.ReflTransGen.refl
  | tail _ hmove ih =>
  refine ih.tail ?_
  cases hmove with
  | offer alert q h => exact .offer alert q (hFG _ h)
  | forward m h => exact .forward m (hFG _ h)
  | malformed => exact .malformed
  | quiet _ h => exact .quiet _ h
  | powerOn t => exact .powerOn t
  | restart => exact .restart
  | relayed l h => exact .relayed l h
  | sent l n f t h => exact .sent l n f t h
  | resync _ threshold h => exact .resync _ threshold h
  | window threshold => exact .window threshold
  | record h => exact .record h
  | settings threshold => exact .settings threshold

/-- Both ports of a state by moves. -/
def PortsMove (F : Message → Prop) (a b : Pair LinePort) : Prop := ∀ x, PortMoves F (a.get x) (b.get x)

theorem PortsMove.refl (F : Message → Prop) (a : Pair LinePort) : PortsMove F a a := fun _ => Relation.ReflTransGen.refl

theorem PortsMove.of_eq {F : Message → Prop} {a b : Pair LinePort} (h : b = a) : PortsMove F a b := h ▸ PortsMove.refl F a

theorem PortsMove.trans {F : Message → Prop} {a b c : Pair LinePort} (h : PortsMove F a b) (h' : PortsMove F b c) :
    PortsMove F a c := fun x => (h x).trans (h' x)

/-- One port moved, the other as it was. -/
theorem portsMove_set {F : Message → Prop} (a : Pair LinePort) (x : Side) {p : LinePort} (h : PortMoves F (a.get x) p) :
    PortsMove F a (a.set x p) := by
  intro y
  cases x <;> cases y
  exacts [h, Relation.ReflTransGen.refl, Relation.ReflTransGen.refl, h]

theorem portsMove_offer {F : Message → Prop} (a : Pair LinePort) (x : Side) (alert : Bool) (q : Queued) (h : F q.msg) :
    PortsMove F a (offer x alert q a) := portsMove_set a x (PortMove.offer alert q h).run

/-! Messages that may be sent (section 1.2). -/

/-- What the hut's own messages are made of is in form: its address and its hop budget. -/
def OriginsInForm (own : Byte) (hopBudget : Nat) : Prop := own.toNat ≤ 60 ∧ hopBudget ≤ 63

theorem inForm_originate {type : Nat} {dst src tag : Byte} {hop : Nat} {payload : List Byte} (h : OriginsInForm src hop)
    (hdst : dst.toNat ≤ 63) (hlen : payload.length ≤ 64) : (originate type dst src hop tag payload).inForm := by
  obtain ⟨hsrc, hhop⟩ := h
  refine ⟨hdst, ?_, ?_, hlen⟩
  · exact hsrc.trans (by decide)
  · simp [originate, toNat_byteOf (by omega : hop < 256), hhop]

theorem headAddress_le (x : Side) : (headAddress x).toNat ≤ 63 := by cases x <;> decide

theorem length_alertRecord (e : Standing) (t : Transition) (v : Int) (time : BitVec 32) (timeSet acknowledged : Bool) (n : Nat) :
    (alertRecord e t v time timeSet acknowledged n).length = 12 := rfl

/-- What the rest of the part sees of a port: its completed window, line state, header record and run count (R9, R11, R136). -/
def LinePort.lineView (p : LinePort) : Nat × LineState × Bool × Bool × Nat :=
  (p.lastWindow, p.lineState, p.ufm, p.rfm, p.rfmRun)

theorem lineView_offer (alert : Bool) (q : Queued) (p : LinePort) : (p.offer alert q).lineView = p.lineView := by
  unfold LinePort.offer
  split_ifs <;> rfl

/-- The rest of the part sees the same of both ports. -/
def SameLines (a b : Pair LinePort) : Prop := ∀ x, (b.get x).lineView = (a.get x).lineView

theorem SameLines.refl (a : Pair LinePort) : SameLines a a := fun _ => rfl

theorem SameLines.of_eq {a b : Pair LinePort} (h : b = a) : SameLines a b := h ▸ SameLines.refl a

theorem SameLines.trans {a b c : Pair LinePort} (h : SameLines a b) (h' : SameLines b c) : SameLines a c :=
  fun x => (h' x).trans (h x)

theorem sameLines_set (a : Pair LinePort) (x : Side) {p : LinePort} (h : p.lineView = (a.get x).lineView) :
    SameLines a (a.set x p) := by
  intro y
  cases x <;> cases y
  case a.a => exact h
  case b.b => exact h
  all_goals rfl

theorem sameLines_offer (a : Pair LinePort) (x : Side) (alert : Bool) (q : Queued) : SameLines a (offer x alert q a) :=
  sameLines_set a x (lineView_offer alert q _)

/-! Alerts (chapter 7): every operation of the Alarm Reporter only offers alert messages to the ports. -/

/-- The ports of `t` from those of `s` by offered messages that are in form when the hut's origins are; the origins stand. -/
structure Alerts (s t : State) : Prop where
  ports : PortsMove (fun m => OriginsInForm s.ownAddr s.tables.line.hopBudget → m.inForm) s.ports t.ports
  lines : SameLines s.ports t.ports
  ownAddr : t.ownAddr = s.ownAddr
  tables : t.tables = s.tables

theorem Alerts.refl (s : State) : Alerts s s := ⟨PortsMove.refl _ _, SameLines.refl _, rfl, rfl⟩

theorem Alerts.trans {s t u : State} (h : Alerts s t) (h' : Alerts t u) : Alerts s u := by
  refine ⟨h.ports.trans ?_, h.lines.trans h'.lines, h'.ownAddr.trans h.ownAddr, h'.tables.trans h.tables⟩
  have hports := h'.ports
  rwa [h.ownAddr, h.tables] at hports

/-- An operation that leaves ports, own address and tables. -/
theorem Alerts.of_eq {s t : State} (hports : t.ports = s.ports) (hown : t.ownAddr = s.ownAddr) (htables : t.tables = s.tables) :
    Alerts s t := ⟨PortsMove.of_eq hports, SameLines.of_eq hports, hown, htables⟩

theorem alerts_deliver {record : List Byte} (s : State) (h : record.length = 12) : Alerts s (deliver record s) := by
  have hF : ∀ x, OriginsInForm s.ownAddr s.tables.line.hopBudget → (alertMessage s x record).inForm := fun x ho =>
    inForm_originate ho (headAddress_le x) (by omega)
  refine ⟨?_, ?_, rfl, rfl⟩
  · unfold deliver
    dsimp only
    split
    · exact portsMove_offer _ _ _ _ (hF .a)
    · exact portsMove_offer _ _ _ _ (hF .b)
    · exact (portsMove_offer _ _ _ _ (hF .a)).trans (portsMove_offer _ _ _ _ (hF .b))
  · unfold deliver
    dsimp only
    split
    · exact sameLines_offer _ _ _ _
    · exact sameLines_offer _ _ _ _
    · exact (sameLines_offer _ _ _ _).trans (sameLines_offer _ _ _ _)

/-- A list of the Alarm Reporter replaced, and perhaps an alert about it. -/
theorem alerts_list (s : State) (l : List Standing) (c : Bool) {record : List Byte} (h : record.length = 12) :
    Alerts s (if c then deliver record { s with alarms := l } else { s with alarms := l }) := by
  have hlist : Alerts s { s with alarms := l } := Alerts.of_eq rfl rfl rfl
  split_ifs
  · exact hlist.trans (alerts_deliver _ h)
  · exact hlist

theorem alerts_takeRaise (r : Raise) (s : State) : Alerts s (takeRaise r s) := alerts_list s _ _ (length_alertRecord ..)

theorem alerts_takeClear (j : Nat) (v : Int) (s : State) : Alerts s (takeClear j v s) := by
  unfold takeClear
  split
  · exact Alerts.refl s
  · exact alerts_list s _ _ (length_alertRecord ..)

theorem alerts_takeReconfigure (j : Nat) (s : State) : Alerts s (takeReconfigure j s) := by
  unfold takeReconfigure
  split
  · exact Alerts.refl s
  · exact alerts_list s _ _ (length_alertRecord ..)

theorem alerts_takeSuppression (j : Nat) (sup : Bool) (s : State) : Alerts s (takeSuppression j sup s) := by
  unfold takeSuppression
  split
  · exact Alerts.refl s
  · split
    · exact alerts_list s _ _ (length_alertRecord ..)
    · exact Alerts.refl s

theorem alerts_takeReports (base : State) (all l : List Visit) (s : State) : Alerts s (takeReports base all l s) := by
  induction l generalizing s with
  | nil => exact Alerts.refl s
  | cons v l ih =>
    refine Alerts.trans ?_ (ih _)
    unfold takeVisit
    split
    · exact alerts_takeRaise _ s
    · exact alerts_takeClear _ _ s
    · exact Alerts.refl s

theorem alerts_takeSuppressions (base : State) (all l : List Visit) (s : State) :
    Alerts s (takeSuppressions base all l s) := by
  induction l generalizing s with
  | nil => exact Alerts.refl s
  | cons v l ih =>
    refine Alerts.trans ?_ (ih _)
    split
    · exact alerts_takeSuppression _ _ s
    · exact Alerts.refl s

theorem alerts_takePass (s : State) : Alerts s (takePass s) := by
  have hruns : Alerts s { s with engine := { s.engine with runs := (visits s).map Visit.run } } := Alerts.of_eq rfl rfl rfl
  refine ((hruns.trans (alerts_takeReports s (visits s) (visits s) _)).trans ?_).trans
    (alerts_takeSuppressions s (visits s) (visits s) _)
  exact Alerts.of_eq (by simp) (by simp) (by simp)

theorem takeConditionWrite_ports (j : Nat) (c : Condition) (s : State) :
    PortsMove (fun m => OriginsInForm s.ownAddr s.tables.line.hopBudget → m.inForm) s.ports (takeConditionWrite j c s).ports := by
  simp only [takeConditionWrite, handOutputs_frame]
  split
  · exact (alerts_takeReconfigure j s).ports
  · exact PortsMove.refl _ _

theorem takeConditionWrite_lines (j : Nat) (c : Condition) (s : State) : SameLines s.ports (takeConditionWrite j c s).ports := by
  simp only [takeConditionWrite, handOutputs_frame]
  split
  · exact (alerts_takeReconfigure j s).lines
  · exact SameLines.refl _

/-! The messages of a frame (R12 to R18). -/

/-- What the handling of a message needs to be in form: the message and the hut's own address, hop budget and survey entry. -/
structure RelayView.InForm (v : RelayView) : Prop where
  origins : OriginsInForm v.own v.hopBudget
  entry : v.surveyEntry.length = 4

theorem length_surveyAppend {v : RelayView} (hv : v.surveyEntry.length = 4) {l : List Byte} (h : l.length ≤ 64) :
    (surveyAppend v l).length ≤ 64 := by
  unfold surveyAppend
  split
  next hdue =>
    simp only [surveyConsistent, Bool.and_eq_true, decide_eq_true_eq, beq_iff_eq] at hdue
    obtain ⟨⟨⟨⟨hshort, hcount⟩, hlen⟩, -⟩, -⟩ := hdue
    split <;> simp [hv] <;> omega
  · exact h

theorem inForm_forwarded {m : Message} (h : m.inForm) (hhop : m.hop ≠ 0) : ({ m with hop := m.hop - 1 } : Message).inForm := by
  obtain ⟨hdst, hsrc, hbudget, hlen⟩ := h
  refine ⟨hdst, hsrc, ?_, hlen⟩
  have hpos : m.hop.toNat ≠ 0 := fun h0 => hhop (BitVec.eq_of_toNat_eq h0)
  show (m.hop - 1#8).toNat ≤ 63
  rw [BitVec.toNat_sub]
  simp
  omega

variable {F : Message → Prop}

theorem portsMove_forward (x : Side) (m : Message) (r : RelayIO) (h : F m) : PortsMove F r.ports (forward x m r).ports :=
  portsMove_set _ x (PortMove.forward m h).run

/-- What a message handled does to the ports: offers and forwardings of messages made from it. -/
theorem portsMove_takeMessage {v : RelayView} {x : Side} {m : Message} (r : RelayIO) (hm : F m)
    (hcopy : F { m with payload := surveyAppend v m.payload })
    (hreturn : ∀ h, headOf m.src = some h →
      F (originate typeSurvey m.src v.own v.hopBudget m.tag (surveyAppend v m.payload))) :
    PortsMove F r.ports (takeMessage v x m r).ports := by
  have hforward : ∀ r' : RelayIO, r'.ports = r.ports → PortsMove F r.ports (forward x m r').ports := fun r' hr =>
    hr ▸ portsMove_forward x m r' hm
  unfold takeMessage
  dsimp only
  split
  · exact PortsMove.refl F _
  · exact hforward r rfl
  · split_ifs
    · exact PortsMove.refl F _
    · exact PortsMove.refl F _
    · exact PortsMove.refl F _
    · unfold surveyReturn
      split
      next h hh => exact portsMove_offer _ h _ _ (hreturn h hh)
      · exact PortsMove.refl F _
    · exact PortsMove.refl F _
  · split_ifs
    · exact hforward r rfl
    · exact hforward _ rfl
    · exact hforward _ rfl
    · exact hforward r rfl
    · exact portsMove_forward x _ r hcopy
    · exact hforward r rfl

theorem inForm_source_head {m : Message} {h : Side} (hh : headOf m.src = some h) : m.src.toNat ≤ 63 := by
  unfold headOf at hh
  split_ifs at hh with ha hb
  · simp [ha]
  · simp [hb]

theorem portsMove_takeMessages {v : RelayView} {x : Side} {P : Prop} (hv : P → v.InForm) (ms : List Message) (r : RelayIO)
    (hms : ∀ m ∈ ms, m.inForm) : PortsMove (fun m => P → m.inForm) r.ports (takeMessages v x ms r).ports := by
  induction ms generalizing r with
  | nil => exact PortsMove.refl _ _
  | cons m ms ih =>
    obtain ⟨hdst, hsrc, hhop, hlen⟩ := hms m List.mem_cons_self
    refine PortsMove.trans ?_ (ih (takeMessage v x m r) fun n hn => hms n (List.mem_cons_of_mem m hn))
    refine portsMove_takeMessage r (fun _ => ⟨hdst, hsrc, hhop, hlen⟩) (fun hp => ?_) fun h hh hp => ?_
    · exact ⟨hdst, hsrc, hhop, length_surveyAppend (hv hp).entry hlen⟩
    · exact inForm_originate (hv hp).origins (inForm_source_head hh) (length_surveyAppend (hv hp).entry hlen)

theorem inForm_of_nextMessage {l rest : List Byte} {m : Message} (h : nextMessage l = some (m, rest)) : m.inForm := by
  unfold nextMessage at h
  split_ifs at h with hshort hlong hcut hform
  simp only [not_or, not_lt, byteAt] at hform hlong
  simp only [Option.some.injEq, Prod.mk.injEq] at h
  obtain ⟨rfl, -⟩ := h
  obtain ⟨hdst, hsrc, hhop⟩ := hform
  refine ⟨hdst, hsrc, hhop, ?_⟩
  simp only [List.length_take, byteAt]
  omega

theorem inForm_of_parseMessages {n : Nat} {l : List Byte} {m : Message} (h : m ∈ (parseMessages n l).1) : m.inForm := by
  induction n generalizing l with
  | zero => cases l <;> simp [parseMessages] at h
  | succ n ih =>
    cases l with
    | nil => simp [parseMessages] at h
    | cons b l =>
      rw [parseMessages] at h
      split at h
      · simp at h
      next m' rest hnext =>
        rcases List.mem_cons.1 h with rfl | hmem
        · exact inForm_of_nextMessage hnext
        · exact ih hmem
      · simp

theorem portsMove_takeArea (x : Side) (f : List Byte) (s : State) :
    PortsMove (fun m => OriginsInForm s.ownAddr s.tables.line.hopBudget → m.inForm) s.ports (takeArea x f s).ports := by
  unfold takeArea
  split
  · exact portsMove_set _ x PortMove.malformed.run
  · have hmessages := portsMove_takeMessages (v := relayView s) (x := x)
      (P := OriginsInForm s.ownAddr s.tables.line.hopBudget) (fun ho => ⟨ho, rfl⟩)
      (parseMessages (frameUsed f).length (frameUsed f)).1 ⟨s.ports, s.inbox⟩ fun m hm => inForm_of_parseMessages hm
    dsimp only
    split
    · exact hmessages.trans (portsMove_set _ x PortMove.malformed.run)
    · exact hmessages

end Sys2Proof.Machine

/-! PROOF. Every effect takes the line ports by moves of theirs; what each port keeps. -/

namespace Sys2Proof.Machine

/-- The port with its line state taken afresh. -/
def LinePort.reassessed (threshold : Nat) (p : LinePort) : LinePort := { p with lineState := p.lineStateNow threshold }

theorem Pair.set_get {α : Type} (p : Pair α) (x : Side) : p.set x (p.get x) = p := by cases x <;> rfl

theorem Pair.set_set {α : Type} (p : Pair α) (x : Side) (v w : α) : (p.set x v).set x w = p.set x w := by cases x <;> rfl

theorem reevaluate_of_eq {x : Side} {s : State} (h : (s.at x).lineStateNow s.tables.line.threshold = (s.at x).lineState) :
    reevaluate x s = s := if_pos h

theorem reevaluate_of_ne {x : Side} {s : State} (h : (s.at x).lineStateNow s.tables.line.threshold ≠ (s.at x).lineState) :
    reevaluate x s =
      writePoint (linePoint x) ((s.at x).lineStateNow s.tables.line.threshold).code .valid
        (s.setPort x ((s.at x).reassessed s.tables.line.threshold)) := if_neg h

/-- R9: re-evaluating a line state, whether it changes or not. -/
theorem reevaluate_ports (x : Side) (s : State) :
    (reevaluate x s).ports = s.ports.set x ((s.at x).reassessed s.tables.line.threshold) := by
  by_cases h : (s.at x).lineStateNow s.tables.line.threshold = (s.at x).lineState
  · have hsame : (s.at x).reassessed s.tables.line.threshold = s.ports.get x := by rw [LinePort.reassessed, h]; rfl
    rw [reevaluate_of_eq h, hsame, Pair.set_get]
  · rw [reevaluate_of_ne h]
    rfl

theorem portsMove_reevaluate {F : Message → Prop} (x : Side) (s : State) : PortsMove F s.ports (reevaluate x s).ports := by
  rw [reevaluate_ports]
  exact portsMove_set _ x (PortMove.settings _).run

theorem takeLaunch_ports (x : Side) (v : Int) (s : State) : (takeLaunch x v s).ports = s.ports := by simp

theorem at_setPort (x : Side) (p : LinePort) (s : State) : (s.setPort x p).at x = p := Pair.get_set_same _ _ _

theorem lineMove_portsMove {F : Message → Prop} {s u : State} (h : LineMove s u) : PortsMove F s.ports u.ports := by
  cases h with
  | resync x p h =>
    rw [reevaluate_ports, at_setPort]
    show PortsMove F s.ports ((s.ports.set x p).set x _)
    rw [Pair.set_set]
    exact portsMove_set _ x (PortMove.resync p _ h).run
  | window x =>
    rw [reevaluate_ports]
    show PortsMove F s.ports ((s.ports.set x _).set x ((State.at (s.setPort x (s.at x).endWindow) x).reassessed _))
    rw [Pair.set_set, at_setPort]
    exact portsMove_set _ x (PortMove.window _).run
  | header x h hsync =>
    have hports : PortsMove F s.ports (s.ports.set x ((s.at x).record h)) := portsMove_set _ x (PortMove.record h).run
    dsimp only
    split
    · rw [takeLaunch_ports]; exact hports
    · exact hports
  | settings =>
    exact (portsMove_reevaluate .a s).trans (portsMove_reevaluate .b _)

theorem fillFrom_suffix {α : Type} (size : α → Nat) (room : Nat) (l : List α) : (fillFrom size room l).2 <:+ l := by
  induction l generalizing room with
  | nil => exact List.suffix_refl _
  | cons x l ih =>
    unfold fillFrom
    split
    · exact (ih _).trans (List.suffix_cons x l)
    · exact List.suffix_refl _

theorem transmit_portsMove {F : Message → Prop} (x : Side) (s : State) : PortsMove F s.ports (transmit x s).ports := by
  have hrelay : PortsMove F s.ports
      (s.ports.set (otherSide x) { s.at (otherSide x) with relay := (fillFrame s x).relayLeft }) :=
    portsMove_set _ _ (PortMove.relayed _ (fillFrom_suffix _ _ _)).run
  refine hrelay.trans (portsMove_set _ x ?_)
  have hother : (s.ports.set (otherSide x) { s.at (otherSide x) with relay := (fillFrame s x).relayLeft }).get x = s.at x := by
    cases x <;> rfl
  rw [hother]
  exact (PortMove.sent _ _ _ _ (fillFrom_suffix _ _ _)).run

theorem restartReset_ports (addr : BitVec 6) (s : State) :
    (restartReset addr s).ports = ⟨s.ports.a.atRestart, s.ports.b.atRestart⟩ := by simp [restartReset]

/-- The hut's origins and the sender of the command, or of the store in progress, are in form. -/
structure SendersInForm (i : Instr) (s : State) : Prop where
  origins : OriginsInForm s.ownAddr s.tables.line.hopBudget
  sender : ∀ m, Instr.sender i = some m → m.good = true
  store : ∀ m ∈ s.agent.store, m.good = true

theorem inForm_reply {i : Instr} {s : State} {m : Sender} {code : Byte} {st : Status} {r : List Byte} (hr : r.length ≤ 62)
    (h : SendersInForm i s) (hm : m.good = true) : (replyMessage s m code st r).inForm := by
  refine inForm_originate h.origins (of_decide_eq_true hm) ?_
  simp only [List.length_append, List.length_cons, List.length_nil]
  omega

theorem endStore_portsMove {i : Instr} (good : Bool) {s u : State} (hports : u.ports = s.ports) (hagent : u.agent = s.agent)
    (hown : u.ownAddr = s.ownAddr) (htables : u.tables = s.tables) :
    PortsMove (fun m => SendersInForm i s → m.inForm) s.ports (endStore good u).ports := by
  rw [← hports]
  unfold endStore
  split
  next m hm =>
    refine portsMove_offer _ _ _ _ fun h => ?_
    have hmessage := inForm_reply (code := 0x10) (st := if good then .done else .failed) (r := []) (by simp) h
      (h.store m (by rw [← hagent, hm]; rfl))
    rw [replyMessage, ← hown, ← htables] at hmessage
    exact hmessage
  · exact PortsMove.refl _ _

theorem restartBody_portsMove {i : Instr} {m : Sender} (hm : Instr.sender i = some m) (s : State) :
    PortsMove (fun m => SendersInForm i s → m.inForm) s.ports (restartBody m s).state.ports := by
  unfold restartBody
  split
  · exact PortsMove.refl _ _
  · exact portsMove_offer _ _ _ _ fun h => inForm_reply (by simp) h (h.sender m hm)

theorem Effect.portsMove {i : Instr} {l : List Part} {s t : State} (h : Effect i l s t) :
    PortsMove (fun m => SendersInForm i s → m.inForm) s.ports t.ports := by
  have hweaken : ∀ {a b : Pair LinePort},
      PortsMove (fun m => OriginsInForm s.ownAddr s.tables.line.hopBudget → m.inForm) a b →
      PortsMove (fun m => SendersInForm i s → m.inForm) a b := fun hab x => (hab x).mono fun m hm hs => hm hs.origins
  by_cases hframe : ∀ x, Part.line x ∉ l
  · exact fun x => PortMoves.of_eq (h.changesOnly (.line x) (hframe x))
  · cases h with
    | powerOn addr inputs s h => intro x; cases x <;> exact (PortMove.powerOn s.now).run
    | restart addr s h =>
      rw [restartReset_ports]
      intro x
      cases x <;> exact PortMove.restart.run
    | transmit x s => exact transmit_portsMove x s
    | receive x p s h => exact portsMove_set _ x (PortMove.quiet p h).run
    | line u s h =>
      rw [show (reactBoth s u).ports = u.ports by simp]
      exact lineMove_portsMove h
    | area x f s => exact hweaken (portsMove_takeArea x f s)
    | reply m code st r s hm hr =>
      exact portsMove_offer _ _ _ _ fun h => inForm_reply hr h (h.sender m hm)
    | beginRestart m s hm => exact restartBody_portsMove hm s
    | endStore good st m n s h hm => exact endStore_portsMove good rfl rfl rfl rfl
    | condition j c s h hj hc hlock => exact hweaken (takeConditionWrite_ports j c s)
    | pass s _ => exact hweaken (alerts_takePass s).ports
    | _ => exact absurd (by simp [shedParts]) hframe

/-- What every move of a port keeps, every effect keeps of both ports. -/
theorem Effect.ports_keep {P : LinePort → Prop} (hP : ∀ F p q, PortMove F p q → P p → P q) {i : Instr} {l : List Part}
    {s t : State} (h : Effect i l s t) (hs : ∀ x, P (s.ports.get x)) (x : Side) : P (t.ports.get x) :=
  (h.portsMove x).preserves (hP _) (hs x)

/-! The relay buffer and the insert queue (R14, R19). -/

/-- The relay buffer and the insert queue of a port are within their bounds. -/
def LinePort.Bounded (p : LinePort) : Prop := bufferTotal p.relay ≤ relayCap ∧ p.queue.length ≤ queueCap

theorem bufferTotal_suffix {l m : List Message} (h : l <:+ m) : bufferTotal l ≤ bufferTotal m := by
  obtain ⟨k, rfl⟩ := h
  simp [bufferTotal]

theorem bufferTotal_append (l m : List Message) : bufferTotal (l ++ m) = bufferTotal l + bufferTotal m := by
  simp [bufferTotal]

theorem bounded_offer {p : LinePort} (alert : Bool) (q : Queued) (h : p.Bounded) : (p.offer alert q).Bounded := by
  obtain ⟨hrelay, hqueue⟩ := h
  unfold LinePort.offer
  split_ifs with hroom
  · exact ⟨hrelay, by simpa using hroom⟩
  · exact ⟨hrelay, hqueue⟩
  · exact ⟨hrelay, hqueue⟩

theorem bounded_forward {p : LinePort} (m : Message) (h : p.Bounded) : (p.forward m).Bounded := by
  obtain ⟨hrelay, hqueue⟩ := h
  unfold LinePort.forward
  split_ifs with hhop hroom
  · exact ⟨hrelay, hqueue⟩
  · refine ⟨?_, hqueue⟩
    rw [bufferTotal_append]
    simpa [bufferTotal, Message.size] using hroom
  · exact ⟨hrelay, hqueue⟩

theorem bounded_move (F : Message → Prop) (p q : LinePort) (h : PortMove F p q) (hp : p.Bounded) : q.Bounded := by
  obtain ⟨hrelay, hqueue⟩ := hp
  cases h with
  | offer alert q h => exact bounded_offer alert q ⟨hrelay, hqueue⟩
  | forward m h => exact bounded_forward m ⟨hrelay, hqueue⟩
  | malformed => exact ⟨hrelay, hqueue⟩
  | quiet q h => exact ⟨h.relay ▸ hrelay, h.queue ▸ hqueue⟩
  | powerOn t => exact ⟨Nat.zero_le _, Nat.zero_le _⟩
  | restart => exact ⟨hrelay, Nat.zero_le _⟩
  | relayed l h => exact ⟨(bufferTotal_suffix h).trans hrelay, hqueue⟩
  | sent l n f t h => exact ⟨hrelay, h.length_le.trans hqueue⟩
  | resync q threshold h => exact ⟨h.relay ▸ hrelay, h.queue ▸ hqueue⟩
  | window threshold => exact ⟨hrelay, hqueue⟩
  | record h => exact ⟨hrelay, hqueue⟩
  | settings threshold => exact ⟨hrelay, hqueue⟩

theorem buffersBounded_iff (s : State) : BuffersBounded s ↔ ∀ x, (s.ports.get x).Bounded := by
  constructor
  · rintro ⟨ha, hb, hqa, hqb⟩ (_ | _)
    exacts [⟨ha, hqa⟩, ⟨hb, hqb⟩]
  · intro h
    exact ⟨(h .a).1, (h .b).1, (h .a).2, (h .b).2⟩

/-! The line state and the window counts (R9). -/

theorem lossMatches_reassessed (threshold : Nat) (p : LinePort) : (p.reassessed threshold).lossMatches := by
  unfold LinePort.lossMatches LinePort.reassessed LinePort.lineStateNow
  split_ifs <;> simp [*]

theorem lossMatches_offer {p : LinePort} (alert : Bool) (q : Queued) (h : p.lossMatches) : (p.offer alert q).lossMatches := by
  unfold LinePort.offer
  split_ifs <;> exact h

theorem lossMatches_forward {p : LinePort} (m : Message) (h : p.lossMatches) : (p.forward m).lossMatches := by
  unfold LinePort.forward
  split_ifs <;> exact h

theorem lossMatches_move (F : Message → Prop) (p q : LinePort) (h : PortMove F p q) (hp : p.lossMatches) :
    q.lossMatches := by
  cases h with
  | offer alert q h => exact lossMatches_offer alert q hp
  | forward m h => exact lossMatches_forward m hp
  | quiet q h =>
    rw [LinePort.lossMatches, h.lineState]
    exact Iff.trans hp (not_congr h.sync).symm
  | powerOn t => simp [LinePort.lossMatches, LinePort.powerOn]
  | malformed | restart | relayed l h | sent l n f t h | record h => exact hp
  | resync q threshold h => exact lossMatches_reassessed threshold q
  | window threshold => exact lossMatches_reassessed threshold _
  | settings threshold => exact lossMatches_reassessed threshold p

/-- The counts of a port's windows are within 1000. -/
def LinePort.Counted (p : LinePort) : Prop := p.window ≤ 1000 ∧ p.lastWindow ≤ 1000

theorem counted_offer {p : LinePort} (alert : Bool) (q : Queued) (h : p.Counted) : (p.offer alert q).Counted := by
  unfold LinePort.offer
  split_ifs <;> exact h

theorem counted_forward {p : LinePort} (m : Message) (h : p.Counted) : (p.forward m).Counted := by
  unfold LinePort.forward
  split_ifs <;> exact h

theorem counted_move (F : Message → Prop) (p q : LinePort) (h : PortMove F p q) (hp : p.Counted) : q.Counted := by
  cases h with
  | offer alert q h => exact counted_offer alert q hp
  | forward m h => exact counted_forward m hp
  | quiet q h => exact ⟨h.window hp.1, h.lastWindow.trans_le hp.2⟩
  | powerOn t => exact ⟨Nat.zero_le _, Nat.zero_le _⟩
  | malformed | restart | relayed l h | sent l n f t h | record h => exact hp
  | resync q threshold h => exact ⟨h.window hp.1, h.lastWindow.trans_le hp.2⟩
  | window threshold => exact ⟨Nat.zero_le _, hp.1⟩
  | settings threshold => exact hp

theorem windowsLawful_iff (s : State) : WindowsLawful s ↔ ∀ x, (s.ports.get x).Counted := by
  constructor
  · rintro ⟨ha, hb, hla, hlb⟩ (_ | _)
    exacts [⟨ha, hla⟩, ⟨hb, hlb⟩]
  · intro h
    exact ⟨(h .a).1, (h .b).1, (h .a).2, (h .b).2⟩

/-! The messages waiting (section 1.2). -/

/-- Every message waiting at a port is in form. -/
def LinePort.InForm (p : LinePort) : Prop := (∀ m ∈ p.relay, m.inForm) ∧ ∀ q ∈ p.queue, q.msg.inForm

theorem inForm_offer {p : LinePort} (alert : Bool) {q : Queued} (hq : q.msg.inForm) (h : p.InForm) :
    (p.offer alert q).InForm := by
  obtain ⟨hrelay, hqueue⟩ := h
  unfold LinePort.offer
  split_ifs
  · refine ⟨hrelay, fun n hn => ?_⟩
    rcases List.mem_append.1 hn with hold | hnew
    · exact hqueue n hold
    · rwa [List.mem_singleton.1 hnew]
  · exact ⟨hrelay, hqueue⟩
  · exact ⟨hrelay, hqueue⟩

theorem inForm_forward {p : LinePort} {m : Message} (hm : m.inForm) (h : p.InForm) : (p.forward m).InForm := by
  obtain ⟨hrelay, hqueue⟩ := h
  unfold LinePort.forward
  split_ifs with hhop
  · exact ⟨hrelay, hqueue⟩
  · refine ⟨fun n hn => ?_, hqueue⟩
    rcases List.mem_append.1 hn with hold | hnew
    · exact hrelay n hold
    · rw [List.mem_singleton.1 hnew]
      exact inForm_forwarded hm hhop
  · exact ⟨hrelay, hqueue⟩

theorem inForm_move {P : Prop} (hP : P) (p q : LinePort) (h : PortMove (fun m => P → m.inForm) p q) (hp : p.InForm) :
    q.InForm := by
  obtain ⟨hrelay, hqueue⟩ := hp
  cases h with
  | offer alert q h => exact inForm_offer alert (h hP) ⟨hrelay, hqueue⟩
  | forward m h => exact inForm_forward (h hP) ⟨hrelay, hqueue⟩
  | malformed | window threshold | record h | settings threshold => exact ⟨hrelay, hqueue⟩
  | quiet q h => exact ⟨h.relay ▸ hrelay, h.queue ▸ hqueue⟩
  | powerOn t => exact ⟨by simp [LinePort.powerOn], by simp [LinePort.powerOn]⟩
  | restart => exact ⟨hrelay, by simp [LinePort.atRestart]⟩
  | relayed l h => exact ⟨fun m hm => hrelay m (h.subset hm), hqueue⟩
  | sent l n f t h => exact ⟨hrelay, fun m hm => hqueue m (h.subset hm)⟩
  | resync q threshold h => exact ⟨h.relay ▸ hrelay, h.queue ▸ hqueue⟩

theorem messagesInForm_iff (s : State) : MessagesInForm s ↔ ∀ x, (s.ports.get x).InForm := by
  constructor
  · rintro ⟨ha, hb, hqa, hqb⟩ (_ | _)
    exacts [⟨ha, hqa⟩, ⟨hb, hqb⟩]
  · intro h
    exact ⟨(h .a).1, (h .b).1, (h .a).2, (h .b).2⟩

end Sys2Proof.Machine

/-! PROOF. O54: what every step keeps of the line ports, the control side and the messages. -/

namespace Sys2Proof.Machine

/-! The control side (R32). -/

theorem setShedForcing_agent (f : Option Nat) (s : State) :
    (setShedForcing f s).agent = { s.agent with shedForce := f } := by
  simp [setShedForcing]

theorem restartReset_agent (addr : BitVec 6) (s : State) : (restartReset addr s).agent = s.agent.atRestart s.now := by
  simp [restartReset]

theorem endStore_agent (good : Bool) (s : State) : (endStore good s).agent = { s.agent with store := none } := by
  unfold endStore
  split <;> rfl

theorem restartBody_agent (m : Sender) (s : State) :
    ∃ r, (restartBody m s).state.agent = { s.agent with restart := r } := by
  unfold restartBody
  split
  · exact ⟨s.agent.restart, rfl⟩
  · exact ⟨_, rfl⟩

theorem ControlInContact.of_agent {s t : State} (h : ControlInContact s) (hcontrol : t.agent.control = s.agent.control)
    (hcontacts : t.agent.contacts = s.agent.contacts) : ControlInContact t := by
  unfold ControlInContact at *
  rwa [hcontrol, hcontacts]

theorem controlInContact_iff (s : State) :
    ControlInContact s ↔ ∀ x, s.agent.control = some x → s.agent.contacts.get x ≠ none := by
  unfold ControlInContact
  split <;> simp [*]

theorem controlInContact_effect {i : Instr} {l : List Part} {s t : State} (he : Effect i l s t) (h : ControlInContact s) :
    ControlInContact t := by
  by_cases hframe : Part.agent ∉ l
  · have hagent : t.agent = s.agent := he.changesOnly .agent hframe
    exact h.of_agent (by rw [hagent]) (by rw [hagent])
  cases he with
  | powerOn addr inputs s _ => exact trivial
  | restart addr s _ => rw [controlInContact_iff, restartReset_agent]; simp [Agent.atRestart, Agent.powerOn]
  | transmit x s => exact h
  | contacts c s hc =>
    rw [controlInContact_iff] at h ⊢
    exact fun x hx => hc x hx (h x hx)
  | control c s hc =>
    rw [controlInContact_iff] at h ⊢
    intro x hx
    rcases hc x hx with hold | hcontact
    · exact h x hold
    · exact hcontact
  | note a s hn => exact h.of_agent hn.control hn.contacts
  | outForcing f s => exact h
  | shedForcing f s _ => exact h.of_agent (by rw [setShedForcing_agent]) (by rw [setShedForcing_agent])
  | beginStore m s _ _ => exact h
  | beginRestart m s _ =>
    obtain ⟨r, hr⟩ := restartBody_agent m s
    exact h.of_agent (by rw [hr]) (by rw [hr])
  | endStore good st m n s _ _ => exact h.of_agent (by rw [endStore_agent]) (by rw [endStore_agent])
  | _ => exact absurd (by simp [shedParts]) hframe

/-! What messages are made of. -/

theorem ownAddress_toNat (addr : BitVec 6) :
    (ownAddress addr).toNat = if 1 ≤ addr.toNat ∧ addr.toNat ≤ 60 then addr.toNat else 0 := by
  unfold ownAddress
  split
  · rw [BitVec.toNat_setWidth, Nat.mod_eq_of_lt (addr.isLt.trans (by decide))]
  · rfl

theorem ownAddress_le (addr : BitVec 6) : (ownAddress addr).toNat ≤ 60 := by
  rw [ownAddress_toNat]
  split_ifs with h
  · exact h.2
  · exact Nat.zero_le _

theorem surveyReturn_inbox (v : RelayView) (m : Message) (r : RelayIO) : (surveyReturn v m r).inbox = r.inbox := by
  unfold surveyReturn
  split <;> rfl

/-- R12: a message handled is handed to the agent or it is not. -/
theorem takeMessage_inbox (v : RelayView) (x : Side) (m : Message) (r : RelayIO) :
    (takeMessage v x m r).inbox = r.inbox ∨
      ∃ k c, (takeMessage v x m r).inbox = r.inbox ++ [⟨k, ⟨m.src, m.tag, c, x⟩, m.payload⟩] := by
  unfold takeMessage
  dsimp only
  split
  · exact .inl rfl
  · exact .inl rfl
  · split_ifs
    · exact .inl rfl
    · exact .inr ⟨.command, _, rfl⟩
    · exact .inr ⟨.beat, _, rfl⟩
    · exact .inl (surveyReturn_inbox v m r)
    · exact .inl rfl
  · split_ifs
    · exact .inl rfl
    · exact .inr ⟨.command, _, rfl⟩
    · exact .inr ⟨.beat, _, rfl⟩
    all_goals exact .inl rfl

/-- Every management message handed on comes with a sender section 1.2 allows. -/
theorem takeMessages_inbox {v : RelayView} {x : Side} (ms : List Message) (r : RelayIO) (hms : ∀ m ∈ ms, m.inForm)
    (hr : ∀ h ∈ r.inbox, h.sender.good = true) : ∀ h ∈ (takeMessages v x ms r).inbox, h.sender.good = true := by
  induction ms generalizing r with
  | nil => exact hr
  | cons m ms ih =>
    refine ih (takeMessage v x m r) (fun n hn => hms n (List.mem_cons_of_mem m hn)) ?_
    rcases takeMessage_inbox v x m r with hsame | ⟨k, c, hnew⟩
    · rw [hsame]
      exact hr
    · intro h hh
      rw [hnew] at hh
      rcases List.mem_append.1 hh with hold | hlast
      · exact hr h hold
      · rw [List.mem_singleton.1 hlast]
        exact decide_eq_true (hms m List.mem_cons_self).2.1

theorem takeArea_inbox (x : Side) (f : List Byte) {s : State} (h : ∀ h ∈ s.inbox, h.sender.good = true) :
    ∀ h ∈ (takeArea x f s).inbox, h.sender.good = true := by
  unfold takeArea
  split
  · exact h
  · exact takeMessages_inbox _ ⟨s.ports, s.inbox⟩ (fun m hm => inForm_of_parseMessages hm) h

theorem mem_dequeue {h x : Handed} {s : State} (hx : x ∈ (dequeue h s).inbox) : x ∈ s.inbox := by
  unfold dequeue at hx
  split at hx
  next y l hl =>
    split_ifs at hx
    · rw [hl]
      exact List.mem_cons_of_mem y hx
    · exact hx
  · exact hx

theorem inboxGood_effect {i : Instr} {l : List Part} {s t : State} (he : Effect i l s t)
    (h : ∀ h ∈ s.inbox, h.sender.good = true) : ∀ h ∈ t.inbox, h.sender.good = true := by
  by_cases hframe : Part.inbox ∉ l
  · rwa [show t.inbox = s.inbox from he.changesOnly .inbox hframe]
  cases he with
  | powerOn addr inputs s _ => simp [powerOn, State.reset]
  | restart addr s _ => simp [restartReset]
  | dequeue x s => exact fun y hy => h y (mem_dequeue hy)
  | area x f s => exact takeArea_inbox x f h
  | _ => exact absurd (by simp [shedParts]) hframe

theorem storeSender_effect {i : Instr} {l : List Part} {s t : State} (he : Effect i l s t)
    (hi : ∀ m, Instr.sender i = some m → m.good = true) (h : ∀ m ∈ s.agent.store, m.good = true) :
    ∀ m ∈ t.agent.store, m.good = true := by
  by_cases hframe : Part.agent ∉ l
  · rwa [show t.agent = s.agent from he.changesOnly .agent hframe]
  cases he with
  | powerOn addr inputs s _ => simp [powerOn, Agent.powerOn]
  | restart addr s _ => simp [restartReset_agent, Agent.atRestart, Agent.powerOn]
  | transmit x s => exact h
  | contacts c s _ => exact h
  | control c s _ => exact h
  | note a s hn => rw [hn.store]; exact h
  | outForcing f s => exact h
  | shedForcing f s _ => rw [setShedForcing_agent]; exact h
  | beginStore m s hm _ =>
    rintro _ ⟨⟩
    exact hi m hm
  | beginRestart m s _ =>
    obtain ⟨r, hr⟩ := restartBody_agent m s
    rw [hr]
    exact h
  | endStore good st m n s _ _ => rw [endStore_agent]; simp
  | _ => exact absurd (by simp [shedParts]) hframe

theorem builtin_hopBudget : builtinTables.line.hopBudget ≤ 63 := by decide

theorem hopBudget_of_good {t : Tables} (h : t.good) : t.line.hopBudget ≤ 63 := by
  obtain ⟨-, -, -, -, -, -, -, -, -, -, ⟨-, -, hbudget⟩, -⟩ := h
  exact hbudget

theorem originsInForm_effect {i : Instr} {l : List Part} {s t : State} (he : Effect i l s t)
    (h : OriginsInForm s.ownAddr s.tables.line.hopBudget) : OriginsInForm t.ownAddr t.tables.line.hopBudget := by
  obtain ⟨hown, hbudget⟩ := h
  by_cases hframe : Part.ownAddr ∉ l ∧ Part.tables ∉ l
  · rw [show t.ownAddr = s.ownAddr from he.changesOnly .ownAddr hframe.1,
      show t.tables = s.tables from he.changesOnly .tables hframe.2]
    exact ⟨hown, hbudget⟩
  cases he with
  | powerOn addr inputs s _ => exact ⟨ownAddress_le addr, builtin_hopBudget⟩
  | restart addr s _ => simpa [restartReset] using ⟨ownAddress_le addr, builtin_hopBudget⟩
  | install l t s _ ht =>
    refine ⟨hown, ?_⟩
    cases t with
    | none => exact hbudget
    | some x => exact hopBudget_of_good (ht x rfl)
  | entry t s ht => exact ⟨hown, ht.hopBudget hbudget⟩
  | scanList x s _ _ => exact ⟨hown, hbudget⟩
  | condition j c s _ _ _ _ =>
    have hcond : (takeConditionWrite j c s).ownAddr = s.ownAddr ∧
        (takeConditionWrite j c s).tables.line = s.tables.line := by
      unfold takeConditionWrite
      dsimp only
      split <;> simp
    rw [hcond.1, hcond.2]
    exact ⟨hown, hbudget⟩
  | _ => exact absurd (by simp [shedParts]) hframe

/-- The parts of SourcesInForm besides the queue of commands. -/
theorem sourcesInForm_effect {i : Instr} {l : List Part} {s t : State} (he : Effect i l s t)
    (hi : ∀ m, Instr.sender i = some m → m.good = true) (h : SourcesInForm s) : SourcesInForm t := by
  obtain ⟨hown, hbudget, hpending, hinbox, hstore⟩ := h
  obtain ⟨hown', hbudget'⟩ := originsInForm_effect he ⟨hown, hbudget⟩
  exact ⟨hown', hbudget', he.pending_eq ▸ hpending, inboxGood_effect he hinbox, storeSender_effect he hi hstore⟩

theorem messagesInForm_effect {i : Instr} {l : List Part} {s t : State} (he : Effect i l s t)
    (hi : ∀ m, Instr.sender i = some m → m.good = true) (hs : SourcesInForm s) (h : MessagesInForm s) : MessagesInForm t := by
  obtain ⟨hown, hbudget, -, -, hstore⟩ := hs
  rw [messagesInForm_iff] at h ⊢
  exact fun x => (he.portsMove x).preserves (inForm_move ⟨⟨hown, hbudget⟩, hi, hstore⟩) (h x)

theorem sender_good_of_wellFormed {i : Instr} (h : i.wellFormed = true) (m : Sender) (hm : Instr.sender i = some m) :
    m.good = true := by
  cases i <;> cases hm
  all_goals simp only [Instr.wellFormed, commandArgs, writeArgs, argsWithin, Bool.and_eq_true] at h
  all_goals tauto

theorem sender_writeRow (m : Sender) (id : Nat) (l args : List Byte) : Instr.sender (writeRow m id l args) = some m := by
  unfold writeRow
  split <;> rfl

theorem sender_commandRow (m : Sender) (payload : List Byte) : Instr.sender (commandRow m payload) = some m := by
  unfold commandRow
  split
  · rfl
  · unfold mineRow
    split
    case h_5 =>
      unfold writeCommand
      split
      · rfl
      · exact sender_writeRow _ _ _ _
    all_goals rfl
  · unfold broadcastRow
    split <;> rfl
  all_goals rfl

theorem sender_handedCommand (h : Handed) : Instr.sender (handedCommand h) = some h.sender := by
  unfold handedCommand
  split
  · rfl
  · exact sender_commandRow _ _

/-- The command a step runs comes from a sender section 1.2 allows. -/
theorem sender_good_of_runs {s : State} {i : Instr} (hs : SourcesInForm s) (h : Runs s i) (m : Sender)
    (hm : Instr.sender i = some m) : m.good = true := by
  obtain ⟨-, -, hpending, hinbox, -⟩ := hs
  cases h with
  | waiting i h => exact sender_good_of_wellFormed (hpending i h) m hm
  | handed h hmem =>
    rw [sender_handedCommand] at hm
    cases hm
    exact hinbox h hmem
  | event i h => simp [h] at hm

theorem step_keeps_messages {s t : State} (hm : MessagesInForm s) (hs : SourcesInForm s) (h : step s = .next t) :
    MessagesInForm t ∧ SourcesInForm t := by
  obtain ⟨i, s', hruns, hstart, heffects⟩ := step_effects h
  have hi := sender_good_of_runs hs hruns
  have hs' : MessagesInForm s' ∧ SourcesInForm s' := by
    rcases hstart with rfl | ⟨l, hl, rfl⟩
    · exact ⟨hm, hs⟩
    · obtain ⟨hown, hbudget, hpending, hinbox, hstore⟩ := hs
      exact ⟨hm, hown, hbudget, fun j hj => hpending j (by rw [hl]; exact List.mem_cons_of_mem i hj), hinbox, hstore⟩
  exact heffects.preserves (P := fun u => MessagesInForm u ∧ SourcesInForm u)
    (fun _ _ _ he hu => ⟨messagesInForm_effect he hi hu.2 hu.1, sourcesInForm_effect he hi hu.2⟩) hs'

end Sys2Proof.Machine

section

open Sys2Proof Sys2Proof.Machine

/-- Settles O54: buffers, line states and counts are kept by every move of a port (`Effect.ports_keep`), the control side by
every effect on the agent, and the messages' form with the sources they are made of. -/
theorem everyStepKeepsLinePortsAndControl : Obligations.EveryStepKeepsLinePortsAndControl := by
  unfold Obligations.EveryStepKeepsLinePortsAndControl
  refine ⟨⟨fun s t hs h => ?_, fun s t hs h => ?_, fun s t hs h => ?_, fun s t hs h => ?_⟩, fun s t hm hs h => ?_⟩
  · rw [buffersBounded_iff] at hs ⊢
    exact step_preserves (P := fun u => ∀ x, (u.ports.get x).Bounded) (fun _ _ hu => hu)
      (fun _ _ _ _ he hu => he.ports_keep bounded_move hu) hs h
  · exact step_preserves (P := fun u => ∀ x, (u.ports.get x).lossMatches) (fun _ _ hu => hu)
      (fun _ _ _ _ he hu => he.ports_keep lossMatches_move hu) hs h
  · rw [windowsLawful_iff] at hs ⊢
    exact step_preserves (P := fun u => ∀ x, (u.ports.get x).Counted) (fun _ _ hu => hu)
      (fun _ _ _ _ he hu => he.ports_keep counted_move hu) hs h
  · exact step_preserves (fun _ _ hu => hu) (fun _ _ _ _ he hu => controlInContact_effect he hu) hs h
  · exact step_keeps_messages hm hs h

end

/-! PROOF. O27: what the safety lock protects, effect by effect. -/

namespace Sys2Proof.Machine

/-- Only power-on reset and the reset pin clear the safety lock (R44, R54). -/
theorem lock_effect {i : Instr} {l : List Part} {s t : State} (he : Effect i l s t)
    (hi : ∀ addr inputs, i ≠ .powerOnReset addr inputs ∧ i ≠ .resetPin addr inputs) (h : s.agent.lock = true) :
    t.agent.lock = true := by
  by_cases hframe : Part.agent ∉ l
  · have hagent : t.agent = s.agent := he.changesOnly .agent hframe
    rw [hagent]
    exact h
  cases he with
  | powerOn addr inputs s hreset => exact absurd hreset (not_or.2 (hi addr inputs))
  | restart addr s _ => rw [restartReset_agent]; exact h
  | transmit x s => exact h
  | contacts c s _ => exact h
  | control c s _ => exact h
  | note a s hn => exact hn.lock h
  | outForcing f s => exact h
  | shedForcing f s _ => rw [setShedForcing_agent]; exact h
  | beginStore m s _ _ => exact h
  | beginRestart m s _ =>
    obtain ⟨r, hr⟩ := restartBody_agent m s
    rw [hr]
    exact h
  | endStore good st m n s _ _ => rw [endStore_agent]; exact h
  | _ => exact absurd (by simp [shedParts]) hframe

/-- R44: between two Condition Tables, only entries without a reduce action were replaced, by such entries. -/
def ReducesKept (a b : List Condition) : Prop :=
  ∀ (j : Nat) (c : Condition), a[j]? = some c → b[j]? ≠ some c →
    ∃ d : Condition, b[j]? = some d ∧ (∀ x, c.action ≠ .reduce x) ∧ ∀ x, d.action ≠ .reduce x

theorem ReducesKept.refl (a : List Condition) : ReducesKept a a := fun _ _ hc hne => absurd hc hne

theorem ReducesKept.trans {a b e : List Condition} (h : ReducesKept a b) (h' : ReducesKept b e) : ReducesKept a e := by
  intro j x hx hne
  by_cases hb : b[j]? = some x
  · exact h' j x hb hne
  obtain ⟨y, hy, hxr, hyr⟩ := h j x hx hb
  by_cases hc : e[j]? = some y
  · exact ⟨y, hc, hxr, hyr⟩
  obtain ⟨z, hz, -, hzr⟩ := h' j y hy hc
  exact ⟨z, hz, hxr, hzr⟩

theorem reducesKept_set {a : List Condition} {j : Nat} {c : Condition}
    (hold : ∀ x, (a.getD j builtinUnused).action ≠ .reduce x) (hnew : ∀ x, c.action ≠ .reduce x) :
    ReducesKept a (a.set j c) := by
  intro k x hx hne
  have hk : k < a.length := (List.getElem?_eq_some_iff.1 hx).1
  rcases eq_or_ne j k with rfl | hjk
  · refine ⟨c, by simp [hk], ?_, hnew⟩
    rwa [List.getD_eq_getElem?_getD, hx] at hold
  · rw [List.getElem?_set_ne hjk] at hne
    exact absurd hx hne

theorem takeConditionWrite_tables (j : Nat) (c : Condition) (s : State) :
    (takeConditionWrite j c s).tables = { s.tables with conds := s.tables.conds.set j c } := by
  simp only [takeConditionWrite, handOutputs_frame]
  split_ifs <;> simp

/-- What the safety lock protects, seen from an earlier state: the Pump Settings, the entries with a reduce action. -/
structure Protected (s0 t : State) : Prop where
  lock : t.agent.lock = true
  autoload : t.loader.autoload = none
  pumps : t.tables.pumps = s0.tables.pumps
  conds : ReducesKept s0.tables.conds t.tables.conds

theorem Protected.of_tables {s0 s t : State} (h : Protected s0 s) (hlock : t.agent.lock = true)
    (hautoload : t.loader.autoload = none) (htables : t.tables = s.tables) : Protected s0 t :=
  ⟨hlock, hautoload, htables ▸ h.pumps, htables ▸ h.conds⟩

/-- No effect but a reset's starts an autoload (R161). -/
theorem autoload_effect {i : Instr} {l : List Part} {s t : State} (he : Effect i l s t)
    (hi : ∀ addr inputs, i ≠ .powerOnReset addr inputs ∧ i ≠ .resetPin addr inputs)
    (hr : ∀ addr, i ≠ .restartReset addr) (h : s.loader.autoload = none) : t.loader.autoload = none := by
  by_cases hframe : Part.loader ∉ l
  · have hloader : t.loader = s.loader := he.changesOnly .loader hframe
    rw [hloader]
    exact h
  cases he with
  | powerOn addr inputs s hreset => exact absurd hreset (not_or.2 (hi addr inputs))
  | restart addr s hreset => exact absurd hreset (hr addr)
  | beginStore m s _ _ => exact h
  | endStore good st m n s _ _ =>
    unfold endStore
    split <;> exact h
  | commit st s _ _ => exact h
  | loader u s hu =>
    cases hu with
    | drove d => exact h
    | retry a a' ha => exact absurd (ha.symm.trans h) (by simp)
    | cycle st u d _ _ => exact h
  | install a x s ha _ => exact absurd (ha.symm.trans h) (by simp)
  | _ => exact absurd (by simp [shedParts]) hframe

theorem protected_effect {i : Instr} {l : List Part} {s0 s t : State} (he : Effect i l s t)
    (hi : ∀ addr inputs, i ≠ .powerOnReset addr inputs ∧ i ≠ .resetPin addr inputs)
    (hr : ∀ addr, i ≠ .restartReset addr) (h : Protected s0 s) : Protected s0 t := by
  have hlock := lock_effect he hi h.lock
  have hautoload := autoload_effect he hi hr h.autoload
  by_cases hframe : Part.tables ∉ l
  · exact h.of_tables hlock hautoload (he.changesOnly .tables hframe)
  cases he with
  | powerOn addr inputs s hreset => exact absurd hreset (not_or.2 (hi addr inputs))
  | restart addr s hreset => exact absurd hreset (hr addr)
  | install a x s ha _ => exact absurd (ha.symm.trans h.autoload) (by simp)
  | entry u s hu =>
    exact ⟨hlock, hautoload, (hu.pumps h.lock).trans h.pumps, hu.conds.symm ▸ h.conds⟩
  | scanList u s _ _ => exact ⟨hlock, hautoload, h.pumps, h.conds⟩
  | condition j c s _ _ _ hreduce =>
    refine ⟨hlock, hautoload, ?_, ?_⟩
    · rw [takeConditionWrite_tables]
      exact h.pumps
    · rw [takeConditionWrite_tables]
      exact h.conds.trans (reducesKept_set (hreduce h.lock).1 (hreduce h.lock).2)
  | _ => exact absurd (by simp [shedParts]) hframe

end Sys2Proof.Machine

section

open Sys2Proof Sys2Proof.Machine

/-- Settles O27: each effect keeps the lock, and while it is set an accepted write reaches neither the Pump Settings nor an
entry with a reduce action. -/
theorem safetyLockProtectsReduceAndPumps : Obligations.SafetyLockProtectsReduceAndPumps := by
  unfold Obligations.SafetyLockProtectsReduceAndPumps
  intro i s t hlock hexec hi
  have heffects := exec_effects hexec
  refine ⟨heffects.preserves (P := fun u => u.agent.lock = true) (fun _ _ _ he => lock_effect he hi) hlock, ?_⟩
  intro hautoload hr
  have hprotected : Protected s t :=
    heffects.preserves (fun _ _ _ he => protected_effect he hi hr) ⟨hlock, hautoload, rfl, .refl _⟩
  exact ⟨hprotected.pumps, hprotected.conds⟩

end

/-! PROOF. What the shared operations do to a pump channel, stated on the channel alone. -/

namespace Sys2Proof.Machine

/-! The settings in use: only new settings replace them (R132). -/

@[simp] theorem enterRamp_inUse (now : Nat) (p : Pump) : (p.enterRamp now).inUse = p.inUse := by
  unfold Pump.enterRamp
  split <;> rfl

@[simp] theorem follow_inUse (now : Nat) (p : Pump) : (p.follow now).pump.inUse = p.inUse := by
  unfold Pump.follow
  split
  · exact enterRamp_inUse now p
  all_goals rfl

@[simp] theorem retarget_inUse (now level : Nat) (p : Pump) : (p.retarget now level).pump.inUse = p.inUse := by
  unfold Pump.retarget
  split
  · rfl
  · exact follow_inUse now _

@[simp] theorem catchUp_inUse (now : Nat) (p : Pump) : (p.catchUp now).pump.inUse = p.inUse := by
  unfold Pump.catchUp
  split
  · rfl
  · exact follow_inUse now p

@[simp] theorem appearance_inUse (now : Nat) (p : Pump) : (p.appearance now).pump.inUse = p.inUse := by
  unfold Pump.appearance
  split <;> rfl

@[simp] theorem modeRequest_inUse (now level : Nat) (m : Mode) (p : Pump) :
    (p.modeRequest now level m).pump.inUse = p.inUse := by
  unfold Pump.modeRequest
  split
  · rfl
  · rfl
  · rfl
  · rfl
  · exact retarget_inUse now level _

@[simp] theorem driverFault_inUse (p : Pump) : p.driverFault.pump.inUse = p.inUse := by
  unfold Pump.driverFault
  split <;> rfl

@[simp] theorem settingsChange_inUse (now level : Nat) (t : PumpSettings) (p : Pump) :
    (p.settingsChange now level t).pump.inUse = t := retarget_inUse now level _

@[simp] theorem startExpiry_inUse (now : Nat) (b : Bool) (p : Pump) : (p.startExpiry now b).pump.inUse = p.inUse := by
  unfold Pump.startExpiry
  split
  · rfl
  · exact enterRamp_inUse now p

@[simp] theorem rampStep_inUse (now : Nat) (p : Pump) : (p.rampStep now).pump.inUse = p.inUse := by
  unfold Pump.rampStep
  dsimp only
  split_ifs <;> rfl

@[simp] theorem probeEnd_inUse (now : Nat) (b : Bool) (p : Pump) : (p.probeEnd now b).pump.inUse = p.inUse := by
  unfold Pump.probeEnd
  split <;> rfl

/-- A channel's event leaves its settings in use, or takes those of the table. -/
theorem pumpMove_inUse {s : State} {c : Channel} {r : PumpResult} (h : PumpMove s c r) :
    r.pump.inUse = (s.pumps.get c).inUse ∨ r.pump.inUse = s.tables.pumps.get c := by
  cases h with
  | settings => exact .inr (settingsChange_inUse _ _ _ _)
  | mode m => exact .inl (modeRequest_inUse _ _ _ _)
  | start _ => exact .inl (startExpiry_inUse _ _ _)
  | ramp t _ => exact .inl (rampStep_inUse _ _)
  | probe _ => exact .inl rfl
  | probeEnd _ => exact .inl (probeEnd_inUse _ _ _)
  | status t _ => exact .inl rfl
  | fault => exact .inl (driverFault_inUse _)

/-! What each operation makes of a channel. -/

theorem retargetPumps_pump (s : State) (c : Channel) :
    (retargetPumps s).pumps.get c = ((s.pumps.get c).retarget s.now s.supply.level).pump := by
  cases c <;> rfl

@[simp] theorem sources_applyPump (c d : Channel) (r : PumpResult) (s : State) :
    sources (applyPump c r s) d = sources s d := rfl

theorem reactTo_pump (before : State) (c d : Channel) (s : State) :
    (reactTo before c s).pumps.get d =
      if d = c ∧ appeared (sources before c) (sources s c) = true then ((s.pumps.get c).appearance s.now).pump
      else s.pumps.get d := by
  unfold reactTo
  split_ifs with h h' h'
  · rw [applyPump_pump, if_pos h'.1]
  · rw [applyPump_pump, if_neg fun hd => h' ⟨hd, h⟩]
  · exact absurd h'.2 h
  · rfl

theorem sources_reactTo (before : State) (c d : Channel) (s : State) : sources (reactTo before c s) d = sources s d := by
  unfold reactTo
  split <;> rfl

/-- R137: a channel takes the appearances of its own sources. -/
theorem reactBoth_pump (before : State) (c : Channel) (s : State) :
    (reactBoth before s).pumps.get c =
      if appeared (sources before c) (sources s c) = true then ((s.pumps.get c).appearance s.now).pump
      else s.pumps.get c := by
  unfold reactBoth
  cases c <;> simp [reactTo_pump, sources_reactTo]

/-- R155: at a recomputation a channel takes the target of a changed level. -/
theorem recomputeShed_pump (s : State) (c : Channel) :
    (recomputeShed s).pumps.get c =
      if s.shedLevel = s.supply.level then s.pumps.get c else ((s.pumps.get c).retarget s.now s.shedLevel).pump := by
  split_ifs with h
  · rw [recomputeShed_of_eq h]
  · rw [recomputeShed_of_ne h]
    exact retargetPumps_pump _ c

@[simp] theorem reactBoth_inUse (before : State) (c : Channel) (s : State) :
    ((reactBoth before s).pumps.get c).inUse = (s.pumps.get c).inUse := by
  rw [reactBoth_pump]
  split_ifs <;> simp

@[simp] theorem recomputeShed_inUse (s : State) (c : Channel) :
    ((recomputeShed s).pumps.get c).inUse = (s.pumps.get c).inUse := by
  rw [recomputeShed_pump]
  split_ifs <;> simp

@[simp] theorem recomputeAtRestart_inUse (s : State) (c : Channel) :
    ((recomputeAtRestart s).pumps.get c).inUse = (s.pumps.get c).inUse := by
  rw [recomputeAtRestart_pump]
  split_ifs <;> rfl

@[simp] theorem takeHandedLevel_inUse (s : State) (c : Channel) :
    ((takeHandedLevel s).pumps.get c).inUse = (s.pumps.get c).inUse := by
  rw [takeHandedLevel_pump, catchUp_inUse]

@[simp] theorem handOutputs_inUse (s : State) (c : Channel) :
    ((handOutputs s).pumps.get c).inUse = (s.pumps.get c).inUse := by
  rw [handOutputs_eq]
  simp [State.withOutRequest, State.withReduce, State.withShedRequest]

/-! The supply of the operations. -/

@[simp] theorem withShedRequest_supply (n : Nat) (s : State) : (s.withShedRequest n).supply = s.supply := rfl

@[simp] theorem withReduce_supply (r : Duo Bool) (s : State) : (s.withReduce r).supply = s.supply := rfl

@[simp] theorem withOutRequest_supply (o : BitVec 7) (s : State) : (s.withOutRequest o).supply = s.supply := rfl

theorem takeSupply_supply (v : Supply) (extra : List PortWord) (s : State) :
    (takeSupply v extra s).supply = { v with level := (applySupply v extra s).shedLevel } :=
  recomputeShed_supply _

theorem handOutputs_supply (s : State) :
    (handOutputs s).supply =
      { s.supply with
        level := (s.withShedRequest (shedRequestOf (standingActions s.tables s.engine.runs))).shedLevel } := by
  rw [handOutputs_eq]
  simp only [resolveOutputs_supply, withOutRequest_supply, reactBoth_frame, withReduce_supply, recomputeShed_supply,
    withShedRequest_supply]

/-- R101: the run states replaced. -/
def State.withRuns (r : List CondRun) (s : State) : State := { s with engine := { s.engine with runs := r } }

/-- R108: a pass, as the operations it is made of. -/
theorem takePass_eq (s : State) :
    takePass s =
      let vs := visits s
      takeSuppressions s vs vs
        (handOutputs (takePulses vs (takeReports s vs vs (s.withRuns (vs.map Visit.run))))) := rfl

theorem takePass_supply (s : State) : ∃ n, (takePass s).supply = { s.supply with level := n } := by
  rw [takePass_eq]
  generalize visits s = vs
  have hsupply : (takePulses vs (takeReports s vs vs (s.withRuns (vs.map Visit.run)))).supply = s.supply := by
    simp only [takePulses_frame, takeReports_frame, State.withRuns]
  obtain ⟨n, hn⟩ : ∃ n, _ = { s.supply with level := n } := ⟨_, hsupply ▸ handOutputs_supply _⟩
  exact ⟨n, by simp only [takeSuppressions_frame]; exact hn⟩

theorem takeConditionWrite_supply (j : Nat) (c : Condition) (s : State) :
    ∃ n, (takeConditionWrite j c s).supply = { s.supply with level := n } := by
  unfold takeConditionWrite
  simp only [handOutputs_supply]
  split <;> simp

end Sys2Proof.Machine

/-! PROOF. O58: the live tables and the settings in use, and a store over the EEPROM it writes. -/

namespace Sys2Proof.Machine

/-! The built-in tables are ones their owners accept. -/

theorem builtinConds_good : builtinConds.length = 64 ∧ ∀ i ∈ List.range 64, (builtinConds.getD i builtinUnused).good i := by
  decide

theorem builtinCals_good : builtinCals.length = 16 ∧ ∀ c ∈ builtinCals, c.good := by decide

theorem builtinScan_good : builtinScan.good := by decide

theorem builtinCurve_good : builtinCurve.good := by decide

theorem builtinPoll_good : builtinPoll.good := by decide

theorem builtinSupply_good : builtinSupply.valid = true ∧ isSigned16 builtinSupply.t1 ∧ isSigned16 builtinSupply.t2 ∧
    isSigned16 builtinSupply.t3 ∧ isSigned16 builtinSupply.t4 := by decide

theorem builtinPump_valid : builtinPump.valid = true := by decide

theorem builtinTables_good : builtinTables.good :=
  ⟨by decide, builtinScan_good, builtinCals_good, ⟨rfl, fun _ hc => (List.mem_replicate.1 hc).2 ▸ builtinCurve_good⟩,
    ⟨rfl, fun _ hc => (List.mem_replicate.1 hc).2 ▸ builtinPoll_good⟩, builtinConds_good, rfl, builtinSupply_good,
    builtinPump_valid, builtinPump_valid, by decide, by decide, by decide⟩

/-! The supply's settings in use: only new settings replace them (R146). -/

theorem pvStep_inUse (t : Nat) (p10 : Point) (u : Supply) : (u.pvStep t p10).inUse = u.inUse := by
  unfold Supply.pvStep
  split_ifs
  · rfl
  · rfl
  · rfl
  · split
    · rfl
    · unfold Supply.limitStep
      split_ifs <;> rfl
    all_goals rfl

theorem zoneStep_inUse (p12 : Point) (u : Supply) : (u.zoneStep p12).inUse = u.inUse := by
  unfold Supply.zoneStep
  dsimp only
  split_ifs <;> rfl

theorem stageStep_inUse (p8 p9 : Point) (u : Supply) : (u.stageStep p8 p9).inUse = u.inUse := by
  unfold Supply.stageStep Supply.toBulk
  split
  case h_4 => split_ifs <;> rfl
  case h_5 => rfl
  case h_6 => rfl
  all_goals split_ifs <;> rfl

theorem shedStep_inUse (p8 : Point) (u : Supply) : (u.shedStep p8).inUse = u.inUse := by
  unfold Supply.shedStep
  split <;> rfl

theorem check_inUse (t : Nat) (p8 p9 p10 p12 : Point) (u : Supply) : (u.check t p8 p9 p10 p12).inUse = u.inUse := by
  unfold Supply.check Supply.beforeStage
  rw [shedStep_inUse, stageStep_inUse, zoneStep_inUse, pvStep_inUse]

theorem supplyMove_inUse {s : State} {v : Supply} (h : SupplyMove s v) :
    v.inUse = s.supply.inUse ∨ v.inUse = s.tables.supply := by
  cases h with
  | check => exact .inl (check_inUse _ _ _ _ _ _)
  | settle _ => unfold Supply.settleExpiry; split_ifs <;> exact .inl rfl
  | test _ => unfold Supply.testExpiry; split_ifs <;> exact .inl rfl
  | retry _ => exact .inl rfl
  | requalify => unfold Supply.requalify; split_ifs <;> exact .inl rfl
  | restartCharge => unfold Supply.restartCharge; split_ifs <;> exact .inl rfl
  | chargerFault => unfold Supply.chargerFault; split <;> exact .inl rfl
  | adopt => exact .inr rfl

/-! The settings in use come from the tables. -/

/-- The settings an effect leaves in use are those used before, those of the table, or the built-in ones. -/
structure Adopts (s t : State) : Prop where
  supply : t.supply.inUse = s.supply.inUse ∨ t.supply.inUse = s.tables.supply ∨ t.supply.inUse = builtinSupply
  pump : ∀ c, (t.pumps.get c).inUse = (s.pumps.get c).inUse ∨ (t.pumps.get c).inUse = s.tables.pumps.get c ∨
    (t.pumps.get c).inUse = builtinPump

theorem Adopts.of_same {s t : State} (hsupply : t.supply.inUse = s.supply.inUse)
    (hpump : ∀ c, (t.pumps.get c).inUse = (s.pumps.get c).inUse) : Adopts s t :=
  ⟨.inl hsupply, fun c => .inl (hpump c)⟩

theorem lineMove_pumps {s u : State} (h : LineMove s u) : u.pumps = s.pumps := by
  cases h with
  | resync x p _ => simp
  | window x => simp
  | header x hd _ => dsimp only; split <;> simp
  | settings => simp

theorem takePass_inUse (s : State) (c : Channel) : ((takePass s).pumps.get c).inUse = (s.pumps.get c).inUse := by
  rw [takePass_eq]
  generalize visits s = vs
  have hpumps : (takePulses vs (takeReports s vs vs (s.withRuns (vs.map Visit.run)))).pumps = s.pumps := by
    simp only [takePulses_frame, takeReports_frame, State.withRuns]
  simp only [takeSuppressions_frame]
  rw [handOutputs_inUse, hpumps]

theorem takeConditionWrite_inUse (j : Nat) (x : Condition) (s : State) (c : Channel) :
    ((takeConditionWrite j x s).pumps.get c).inUse = (s.pumps.get c).inUse := by
  unfold takeConditionWrite
  simp only [handOutputs_inUse]
  split <;> simp

theorem takeSupply_inUse (v : Supply) (extra : List PortWord) (s : State) (c : Channel) :
    ((takeSupply v extra s).pumps.get c).inUse = (s.pumps.get c).inUse := by
  unfold takeSupply
  rw [recomputeShed_inUse, applySupply_pumps]

theorem setShedForcing_supply (f : Option Nat) (s : State) :
    ∃ n, (setShedForcing f s).supply = { s.supply with level := n } := by
  unfold setShedForcing
  rw [recomputeShed_supply]
  exact ⟨_, rfl⟩

theorem takeBrownOut_supply (s : State) : ∃ n, (takeBrownOut s).supply = { s.supply with brownHold := 4, level := n } := by
  unfold takeBrownOut
  rw [recomputeShed_supply]
  exact ⟨_, rfl⟩

theorem adopts_effect {i : Instr} {l : List Part} {s t : State} (he : Effect i l s t) : Adopts s t := by
  by_cases hframe : Part.supply ∉ l ∧ Part.pump .ab ∉ l ∧ Part.pump .ba ∉ l
  · obtain ⟨hsupply, hab, hba⟩ := hframe
    have hs : t.supply = s.supply := he.changesOnly .supply hsupply
    refine .of_same (by rw [hs]) fun c => ?_
    cases c with
    | ab => exact congrArg Pump.inUse (he.changesOnly (.pump .ab) hab)
    | ba => exact congrArg Pump.inUse (he.changesOnly (.pump .ba) hba)
  cases he with
  | powerOn addr inputs s _ => exact ⟨.inr (.inr rfl), fun c => .inr (.inr (by cases c <;> rfl))⟩
  | restart addr s _ =>
    refine .of_same ?_ fun c => ?_
    · simp [restartReset, recomputeAtRestart_supply]
    · simp [restartReset]
  | line u s hu =>
    refine .of_same ?_ fun c => ?_
    · rw [(reactBoth_frame s u).2.2.2.2.2.2.2.2.2.2.2.2.1]
      exact congrArg Supply.inUse (lineMove_changesOnly hu .supply (by simp))
    · rw [reactBoth_inUse, lineMove_pumps hu]
  | shedForcing f s _ =>
    obtain ⟨n, hn⟩ := setShedForcing_supply f s
    refine .of_same (by rw [hn]) fun c => ?_
    unfold setShedForcing
    rw [recomputeShed_inUse]
  | condition j x s _ _ _ _ =>
    obtain ⟨n, hn⟩ := takeConditionWrite_supply j x s
    exact .of_same (by rw [hn]) (takeConditionWrite_inUse j x s)
  | supply v extra s hv _ =>
    refine ⟨?_, fun c => .inl (takeSupply_inUse v extra s c)⟩
    rw [takeSupply_supply]
    exact (supplyMove_inUse hv).imp id .inl
  | checkTimer t s => exact .of_same rfl fun _ => rfl
  | brownOut s =>
    obtain ⟨n, hn⟩ := takeBrownOut_supply s
    refine .of_same (by rw [hn]) fun c => ?_
    unfold takeBrownOut
    rw [recomputeShed_inUse]
  | handedLevel s => exact .of_same (by simp) fun c => takeHandedLevel_inUse s c
  | pump d r s hr =>
    refine ⟨.inl rfl, fun c => ?_⟩
    rw [applyPump_pump]
    split_ifs with hc
    · exact hc ▸ (pumpMove_inUse hr).imp id .inl
    · exact .inl rfl
  | pass s _ =>
    obtain ⟨n, hn⟩ := takePass_supply s
    exact .of_same (by rw [hn]) (takePass_inUse s)
  | _ => exact absurd (by simp) hframe

/-! The live tables. -/

theorem good_setCondition {t : Tables} {j : Nat} {c : Condition} (h : t.good) (hj : j < 64) (hc : c.good j) :
    ({ t with conds := t.conds.set j c } : Tables).good := by
  obtain ⟨hactions, hscan, hcals, hcurves, hpolls, ⟨hlen, hconds⟩, hrest⟩ := h
  refine ⟨hactions, hscan, hcals, hcurves, hpolls, ⟨by simpa using hlen, fun k hk => ?_⟩, hrest⟩
  rw [List.getD_eq_getElem?_getD]
  rcases eq_or_ne j k with rfl | hne
  · simpa [List.getElem?_set_self (hlen ▸ hj)] using hc
  · rw [List.getElem?_set_ne hne, ← List.getD_eq_getElem?_getD]
    exact hconds k hk

theorem tables_good_effect {i : Instr} {l : List Part} {s t : State} (he : Effect i l s t) (h : s.tables.good) :
    t.tables.good := by
  by_cases hframe : Part.tables ∉ l
  · have htables : t.tables = s.tables := he.changesOnly .tables hframe
    rw [htables]
    exact h
  cases he with
  | powerOn addr inputs s _ => exact builtinTables_good
  | restart addr s _ => simpa [restartReset] using builtinTables_good
  | install a x s _ hx =>
    cases x with
    | none => exact h
    | some x => exact hx x rfl
  | entry u s hu => exact hu.good h
  | scanList u s _ hu =>
    obtain ⟨hactions, -, hrest⟩ := h
    exact ⟨hactions, hu, hrest⟩
  | condition j c s _ hj hc _ =>
    rw [takeConditionWrite_tables]
    exact good_setCondition h hj hc
  | _ => exact absurd (by simp [shedParts]) hframe

theorem tablesLawful_effect {i : Instr} {l : List Part} {s t : State} (he : Effect i l s t) (h : TablesLawful s) :
    TablesLawful t := by
  obtain ⟨hgood, hsupply, hab, hba⟩ := h
  have hold := hgood
  obtain ⟨-, -, -, -, -, -, -, ⟨htsupply, -⟩, htab, htba, -⟩ := hold
  obtain ⟨hs, hp⟩ := adopts_effect he
  refine ⟨tables_good_effect he hgood, ?_, ?_, ?_⟩
  · rcases hs with e | e | e <;> rw [e]
    · exact hsupply
    · exact htsupply
    · exact builtinSupply_good.1
  · rcases hp .ab with e | e | e <;> rw [show t.pumps.ab.inUse = _ from e]
    · exact hab
    · exact htab
    · exact builtinPump_valid
  · rcases hp .ba with e | e | e <;> rw [show t.pumps.ba.inUse = _ from e]
    · exact hba
    · exact htba
    · exact builtinPump_valid

/-! A store over the EEPROM it writes. -/

theorem length_stepData (buf : List Byte) (k : Nat) : (stepData buf k).length = 32 := by
  unfold stepData padTo
  split <;> simp <;> omega

/-- A page just written reads as the data written. -/
theorem pageHolds_written {m : List Host.Cell} (st st' : Store) (hm : canonical m = true) (hbuf : st'.buffer = st.buffer)
    (k : Nat) : pageHolds (writeBytes m (32 * stepPage k) (stepData st.buffer k)) st' k := by
  unfold pageHolds
  rw [hbuf]
  refine List.ext_getElem (by simp [readBytes, length_stepData]) fun j h1 h2 => ?_
  simpa [readBytes] using readByte_writeBytes_inside m (32 * stepPage k) (stepData st.buffer k) j h2 hm

/-- Another page keeps what it holds. -/
theorem pageHolds_of_other {m : List Host.Cell} {st st' : Store} {j k : Nat} (hbuf : st'.buffer = st.buffer)
    (hpage : stepPage j ≠ stepPage k) (h : pageHolds m st j) :
    pageHolds (writeBytes m (32 * stepPage k) (stepData st.buffer k)) st' j := by
  unfold pageHolds at *
  rw [hbuf, ← h]
  refine List.map_congr_left fun x hx => ?_
  have hx32 : x < 32 := List.mem_range.1 hx
  refine readByte_writeBytes_outside _ _ _ _ ?_
  rw [length_stepData]
  omega

theorem committed_of_ne {st : Store} (h : st.phase ≠ .readBack) : st.committed = st.step - 1 := by
  unfold Store.committed
  split
  · exact absurd (by assumption) h
  · rfl
  · rfl

theorem progress_start (m : List Host.Cell) (buf : List Byte) : (⟨buf, 1, .writing⟩ : Store).progress m := by
  refine ⟨le_refl 1, by simp, by simp, fun k _ hk => ?_, fun h => ?_⟩
  · simp [Store.committed] at hk
  · simp [Store.committed] at h

theorem progress_cycle {m : List Host.Cell} {st : Store} (t d : Nat) (hphase : st.phase ≠ .readBack) (h : st.progress m) :
    ({ st with phase := .cycle t d } : Store).progress m := by
  obtain ⟨h1, h52, -, hpages, hlast⟩ := h
  have hcommitted : ({ st with phase := .cycle t d } : Store).committed = st.committed := (committed_of_ne hphase).symm
  refine ⟨h1, h52, by simp, ?_, ?_⟩
  · rwa [hcommitted]
  · rwa [hcommitted]

/-- R163: the acknowledge that ends a step's write cycle adds that step's page to those the EEPROM holds. -/
theorem progress_commit {m : List Host.Cell} {st : Store} (hm : canonical m = true) (hphase : st.phase ≠ .readBack)
    (h : st.progress m) :
    (if st.step < 52 then ⟨st.buffer, st.step + 1, .writing⟩ else ⟨st.buffer, st.step, .readBack⟩ : Store).progress
      (writeBytes m (32 * stepPage st.step) (stepData st.buffer st.step)) := by
  obtain ⟨h1, h52, -, hpages, -⟩ := h
  rw [committed_of_ne hphase] at hpages
  have holds : ∀ (st' : Store) (j : Nat), st'.buffer = st.buffer → j < 51 → j + 1 ≤ st.step → (st.step = 52 → j ≠ 0) →
      pageHolds (writeBytes m (32 * stepPage st.step) (stepData st.buffer st.step)) st' (j + 1) := by
    intro st' j hbuf hj hle hlast
    rcases eq_or_lt_of_le hle with heq | hlt
    · exact heq ▸ pageHolds_written st st' hm hbuf (j + 1)
    · refine pageHolds_of_other hbuf ?_ ((hpages j (List.mem_range.2 hj) (by omega)).resolve_left (by omega))
      unfold stepPage
      split_ifs <;> omega
  split_ifs with hstep
  · refine ⟨by simp, hstep, by simp, fun j hj hk => .inr (holds _ j rfl (List.mem_range.1 hj) ?_ (by omega)), fun hk => ?_⟩
    · simpa [Store.committed] using hk
    · simp [Store.committed] at hk
      omega
  · have hlast : st.step = 52 := by omega
    refine ⟨h1, h52, fun _ => hlast, fun j hj _ => ?_, fun _ => ?_⟩
    · rcases eq_or_ne j 0 with rfl | h0
      · exact .inl ⟨rfl, rfl⟩
      · exact .inr (holds _ j rfl (List.mem_range.1 hj) (by have := List.mem_range.1 hj; omega) fun _ => h0)
    · have hwritten := pageHolds_written st ⟨st.buffer, st.step, .readBack⟩ hm rfl st.step
      rwa [hlast] at hwritten ⊢

theorem cutStore_lawful {s : State} (h : StoreLawful s) :
    canonical (cutStore s).eeprom = true ∧ ∀ c ∈ (cutStore s).eeprom, c.1 < 8192 := by
  obtain ⟨-, -, heeprom, hstore⟩ := h
  unfold cutStore
  split
  · exact heeprom
  next st hst =>
    have hcut : canonical (cutPage st.step s).eeprom = true ∧ ∀ c ∈ (cutPage st.step s).eeprom, c.1 < 8192 := by
      rw [cutPage_eq]
      exact eepromLawful_cut s.cuts heeprom (hstore st hst).2.2.1
    split
    · exact heeprom
    · split_ifs
      · exact heeprom
      · exact hcut
    · exact hcut

theorem no_store_of_writable {s : State} (h : StoreLawful s) (hw : s.Writable) : s.loader.store = none := by
  have hflag := h.1
  rw [hw.store] at hflag
  simpa using hflag.symm

theorem storeLawful_of_none {s : State} (hagent : s.agent.store = none) (hstore : s.loader.store = none)
    (heeprom : EepromLawful s) : StoreLawful s := by
  refine ⟨by rw [hagent, hstore]; rfl, fun _ => hstore, heeprom, ?_⟩
  rw [hstore]
  simp

/-- An effect on none of the parts the law speaks of but the agent, whose store-in-flight flag it leaves. -/
theorem StoreLawful.of_same {s t : State} (h : StoreLawful s) (hagent : t.agent.store = s.agent.store)
    (hloader : t.loader = s.loader) (heeprom : t.eeprom = s.eeprom) (htables : t.tables = s.tables) : StoreLawful t := by
  unfold StoreLawful EepromLawful at *
  rw [hagent, hloader, heeprom, htables]
  exact h

theorem setTables_storeLawful {s t : State} (h : StoreLawful s) (hw : s.Writable) (hagent : t.agent.store = s.agent.store)
    (hloader : t.loader = s.loader) (heeprom : t.eeprom = s.eeprom) : StoreLawful t :=
  storeLawful_of_none (hagent.trans hw.store) (hloader ▸ no_store_of_writable h hw)
    (by unfold EepromLawful; rw [heeprom]; exact h.2.2.1)

theorem endStore_loader (good : Bool) (s : State) : (endStore good s).loader = { s.loader with store := none } := by
  unfold endStore
  split <;> rfl

theorem storeLawful_loader {s : State} {l : Loader} (hl : LoaderMove s l) (h : StoreLawful s) :
    StoreLawful { s with loader := l } := by
  obtain ⟨hflag, hauto, heeprom, hstore⟩ := h
  cases hl with
  | drove d => exact ⟨hflag, hauto, heeprom, hstore⟩
  | retry a a' ha => exact ⟨hflag, fun _ => hauto (by simp [ha]), heeprom, hstore⟩
  | cycle st t d hst hphase =>
    obtain ⟨hbuf, hprogress⟩ := hstore st hst
    refine ⟨hflag.trans (by simp [hst]), fun ha => absurd (hst.symm.trans (hauto ha)) (by simp), heeprom, ?_⟩
    intro st' hst'
    obtain rfl := Option.some.inj hst'
    exact ⟨hbuf, progress_cycle t d hphase hprogress⟩

theorem storeLawful_effect {i : Instr} {l : List Part} {s t : State} (he : Effect i l s t) (h : StoreLawful s) :
    StoreLawful t := by
  by_cases hframe : Part.agent ∉ l ∧ Part.loader ∉ l ∧ Part.eeprom ∉ l ∧ Part.tables ∉ l
  · obtain ⟨hagent, hloader, heeprom, htables⟩ := hframe
    exact h.of_same (congrArg Agent.store (he.changesOnly .agent hagent)) (he.changesOnly .loader hloader)
      (he.changesOnly .eeprom heeprom) (he.changesOnly .tables htables)
  cases he with
  | powerOn addr inputs s _ => exact storeLawful_of_none rfl rfl (cutStore_lawful h)
  | restart addr s _ =>
    refine storeLawful_of_none ?_ ?_ ?_
    · rw [restartReset_agent]; rfl
    · simp [restartReset, Loader.atReset]
    · simpa [EepromLawful, restartReset] using h.2.2.1
  | transmit x s => exact h
  | contacts c s _ => exact h
  | control c s _ => exact h
  | note a s hn => exact h.of_same hn.store rfl rfl rfl
  | outForcing f s => exact h
  | shedForcing f s _ =>
    exact h.of_same (by rw [setShedForcing_agent]) (by simp) (by simp) (by simp)
  | beginStore m s _ hw =>
    refine ⟨rfl, fun ha => absurd hw.autoload ha, h.2.2.1, ?_⟩
    intro st hst
    obtain rfl := Option.some.inj hst
    exact ⟨rfl, progress_start _ _⟩
  | beginRestart m s _ =>
    obtain ⟨r, hr⟩ := restartBody_agent m s
    have hsame := restartBody_changesOnly m s
    exact h.of_same (by rw [hr]) (hsame .loader (by simp)) (hsame .eeprom (by simp)) (hsame .tables (by simp))
  | endStore good st m n s hst hm =>
    have heeprom := hm (h.2.2.2 st hst).2.2.1 h.2.2.1
    exact storeLawful_of_none (by rw [endStore_agent]) (by rw [endStore_loader])
      (by unfold EepromLawful; simpa using heeprom)
  | commit st s hst hphase =>
    obtain ⟨hflag, hauto, heeprom, hstore⟩ := h
    obtain ⟨hbuf, hprogress⟩ := hstore st hst
    have hpage := stepPage_le hprogress.2.1
    refine ⟨hflag.trans (by simp [hst, commitStep]), fun ha => absurd (hst.symm.trans (hauto ha)) (by simp),
      eepromLawful_writeBytes heeprom (by rw [length_stepData]; omega), ?_⟩
    intro st' hst'
    obtain rfl := Option.some.inj hst'
    refine ⟨?_, progress_commit heeprom.1 hphase hprogress⟩
    split_ifs <;> exact hbuf
  | loader u s hu => exact storeLawful_loader hu h
  | install a x s ha _ =>
    have hstore : s.loader.store = none := h.2.1 (by simp [ha])
    have hflag : s.agent.store = none := by simpa [hstore] using h.1
    exact storeLawful_of_none hflag hstore h.2.2.1
  | entry u s hu => exact setTables_storeLawful h hu.gate rfl rfl rfl
  | scanList u s hw _ => exact setTables_storeLawful h hw rfl rfl rfl
  | condition j c s hw _ _ _ => exact setTables_storeLawful h hw (by simp) (by simp) (by simp)
  | _ => exact absurd (by simp [shedParts]) hframe

end Sys2Proof.Machine

section

open Sys2Proof Sys2Proof.Machine

/-- Settles O58: each effect keeps the tables acceptable, and each keeps the store in step with the EEPROM. -/
theorem everyStepKeepsTablesAndStoreTrue : Obligations.EveryStepKeepsTablesAndStoreTrue := by
  unfold Obligations.EveryStepKeepsTablesAndStoreTrue
  exact ⟨fun s t h => step_preserves (fun _ _ hs => hs) (fun _ _ _ _ he hs => tablesLawful_effect he hs) h,
    fun s t h => step_preserves (fun _ _ hs => hs) (fun _ _ _ _ he hs => storeLawful_effect he hs) h⟩

end

/-! PROOF. O57: the Supply Manager, the effective shed level and the output pins. -/

namespace Sys2Proof.Machine

/-! The Supply Manager on its own state. -/

/-- R148, R149: the PV timers and failures by the PV state. -/
structure Supply.PvTimers (u : Supply) : Prop where
  settle : u.settleAt.isSome = (u.pv == .settling)
  test : u.testAt.isSome = (u.pv == .testing)
  retry : u.retryAt.isSome = (u.pv == .retryWait)
  lockedOut : u.pv = .lockedOut → u.failures = 5
  failures : u.pv ≠ .lockedOut → u.failures < 5
  absent : u.pv = .absent → u.failures = 0

/-- R151, R152: the stage by the PV state alone, as it stands between the zone step and the stage step of a check. -/
structure Supply.StageByPv (u : Supply) : Prop where
  enabled : u.stage.enabled = true → u.pv = .qualified
  halted : u.stage = .halted → u.pv = .qualified
  qualified : u.pv = .qualified → u.stage ≠ .off
  zoneLevel : u.zoneLevel = zoneLevelOf u.inUse u.zone

/-- The laws of the Supply Manager's own state. -/
structure Supply.Lawful (u : Supply) : Prop where
  timers : u.PvTimers
  limit : LimitLawful u
  stage : StageLawful u

theorem supplyLawful_iff (s : State) :
    SupplyLawful s ↔ s.outputs.testLoad = (s.supply.pv == .testing) ∧ s.supply.Lawful := by
  constructor
  · rintro ⟨⟨hload, hsettle, htest, hretry, hlocked, hfailures, habsent⟩, hlimit, hstage⟩
    exact ⟨hload, ⟨hsettle, htest, hretry, hlocked, hfailures, habsent⟩, hlimit, hstage⟩
  · rintro ⟨hload, ⟨hsettle, htest, hretry, hlocked, hfailures, habsent⟩, hlimit, hstage⟩
    exact ⟨⟨hload, hsettle, htest, hretry, hlocked, hfailures, habsent⟩, hlimit, hstage⟩

theorem Supply.Lawful.byPv {u : Supply} (h : u.Lawful) : u.StageByPv := by
  obtain ⟨-, -, henabled, hhalted, hqualified, hzone⟩ := h
  exact ⟨fun he => (henabled he).1, fun hh => (hhalted hh).1, hqualified, hzone⟩

theorem arrayRating_ge (n : Nat) : 1000 ≤ arrayRating n := by
  unfold arrayRating
  omega

/-- With PV not QUALIFIED the stage is OFF or FAULT (R152). -/
theorem Supply.StageByPv.off_or_fault {u : Supply} (h : u.StageByPv) (hpv : u.pv ≠ .qualified) :
    u.stage = .off ∨ u.stage = .fault := by
  have henabled := fun he => hpv (h.enabled he)
  have hhalted := fun he => hpv (h.halted he)
  cases hstage : u.stage <;> simp_all [Stage.enabled]

theorem limitLawful_of_not_qualified {u v : Supply} (h : LimitLawful u) (hsag : v.noSag = u.noSag)
    (hpv : v.pv ≠ .qualified) : LimitLawful v := ⟨hsag ▸ h.1, fun hq => absurd hq hpv⟩

theorem stageLawful_of_not_qualified {v : Supply} (hstage : v.stage = .off ∨ v.stage = .fault)
    (hpv : v.pv ≠ .qualified) (hzone : v.zoneLevel = zoneLevelOf v.inUse v.zone) : StageLawful v := by
  refine ⟨fun he => ?_, fun hh => ?_, fun hq => absurd hq hpv, hzone⟩
  · rcases hstage with e | e <;> simp [e, Stage.enabled] at he
  · rcases hstage with e | e <;> simp [e] at hh

/-! The moves of the PV input (R148 to R150). -/

theorem toAbsent_timers (u : Supply) : u.toAbsent.PvTimers := by
  constructor <;> simp [Supply.toAbsent, Supply.stopTimers]

theorem toAbsent_stage {u : Supply} (h : u.StageByPv) : u.toAbsent.stage = .off ∨ u.toAbsent.stage = .fault := by
  simp only [Supply.toAbsent]
  split_ifs with hq
  · exact .inl rfl
  · by_cases hpv : u.pv = .qualified
    · exact .inr (by simpa [hpv] using hq)
    · exact h.off_or_fault hpv

theorem toAbsent_lawful {u : Supply} (h : u.Lawful) : u.toAbsent.Lawful := by
  have hpv : u.toAbsent.pv ≠ .qualified := by simp [Supply.toAbsent]
  exact ⟨toAbsent_timers u, limitLawful_of_not_qualified h.limit rfl hpv,
    stageLawful_of_not_qualified (toAbsent_stage h.byPv) hpv h.byPv.zoneLevel⟩

theorem toSettling_timers (t : Nat) {u : Supply} (h : u.failures < 5) : (u.toSettling t).PvTimers := by
  constructor <;> simp [Supply.toSettling, Supply.stopTimers, h]

/-- Into another PV state than QUALIFIED from one: the stage stands. -/
theorem lawful_of_not_qualified {u v : Supply} (h : u.Lawful) (hpv : u.pv ≠ .qualified) (hv : v.pv ≠ .qualified)
    (htimers : v.PvTimers) (hsag : v.noSag = u.noSag) (hstage : v.stage = u.stage)
    (hzone : v.zoneLevel = zoneLevelOf v.inUse v.zone) : v.Lawful :=
  ⟨htimers, limitLawful_of_not_qualified h.limit hsag hv,
    stageLawful_of_not_qualified (hstage ▸ h.byPv.off_or_fault hpv) hv hzone⟩

theorem toSettling_lawful (t : Nat) {u : Supply} (h : u.Lawful) (hpv : u.pv ≠ .qualified) (hlocked : u.pv ≠ .lockedOut) :
    (u.toSettling t).Lawful :=
  lawful_of_not_qualified h hpv (by simp [Supply.toSettling]) (toSettling_timers t (h.timers.failures hlocked)) rfl rfl
    h.byPv.zoneLevel

theorem limitStep_limit (v : Int) {u : Supply} (h : LimitLawful u) : LimitLawful (u.limitStep v) := by
  obtain ⟨hsag, hq⟩ := h
  have hrating := arrayRating_ge u.inUse.arrayCode
  unfold Supply.limitStep
  split_ifs with hlow hcount
  · refine ⟨by simp, fun hpv => ?_⟩
    obtain ⟨h200, hle, hfloor, -⟩ := hq hpv
    exact ⟨le_max_left _ _, by dsimp only; omega, hfloor, by simp; omega⟩
  · exact ⟨hcount, hq⟩
  · refine ⟨by simp, fun hpv => ?_⟩
    obtain ⟨h200, hle, hfloor, hderated⟩ := hq hpv
    refine ⟨by dsimp only; omega, min_le_left _ _, hfloor, ?_⟩
    dsimp only
    split_ifs with hfull
    · simp [hfull]
    · rw [hderated]
      exact decide_eq_decide.2 (by omega)

/-- The laws a check's supply obeys between its steps. -/
structure Supply.Underway (u : Supply) : Prop where
  timers : u.PvTimers
  limit : LimitLawful u
  stage : u.StageByPv

theorem limitStep_underway (v : Int) {u : Supply} (h : u.Lawful) : (u.limitStep v).Underway := by
  have hlimit := limitStep_limit v h.limit
  refine ⟨?_, hlimit, ?_⟩
  · obtain ⟨h1, h2, h3, h4, h5, h6⟩ := h.timers
    unfold Supply.limitStep
    split_ifs <;> exact ⟨h1, h2, h3, h4, h5, h6⟩
  · obtain ⟨h1, h2, h3, h4⟩ := h.byPv
    unfold Supply.limitStep
    split_ifs <;> exact ⟨h1, h2, h3, h4⟩

theorem Supply.Lawful.underway {u : Supply} (h : u.Lawful) : u.Underway := ⟨h.timers, h.limit, h.byPv⟩

theorem pvStep_underway (t : Nat) (p10 : Point) {u : Supply} (h : u.Lawful) : (u.pvStep t p10).Underway := by
  unfold Supply.pvStep
  split_ifs with husable hlow habsent
  · exact h.underway
  · exact h.underway
  · exact (toAbsent_lawful h).underway
  · split
    case h_1 hpv => exact (toSettling_lawful t h (by simp [hpv]) (by simp [hpv])).underway
    case h_2 hpv => exact limitStep_underway p10.value h
    all_goals exact h.underway

theorem zoneStep_underway (p12 : Point) {u : Supply} (h : u.Underway) : (u.zoneStep p12).Underway := by
  obtain ⟨⟨h1, h2, h3, h4, h5, h6⟩, hlimit, ⟨he, hh, hq, hz⟩⟩ := h
  unfold Supply.zoneStep
  dsimp only
  split_ifs
  · exact ⟨⟨h1, h2, h3, h4, h5, h6⟩, hlimit, ⟨he, hh, hq, hz⟩⟩
  · exact ⟨⟨h1, h2, h3, h4, h5, h6⟩, hlimit, ⟨he, hh, hq, rfl⟩⟩
  · exact ⟨⟨h1, h2, h3, h4, h5, h6⟩, hlimit, ⟨he, hh, hq, hz⟩⟩

/-! The stage (R152). -/

/-- A move of an enabled or halted stage (R152): only the stage and its timer change. -/
theorem lawful_withStage {u : Supply} (h : u.Underway) (hq : u.pv = .qualified) (g : Stage) (n : Nat)
    (henabled : g.enabled = true → u.zone.extreme = false) (hhalted : g = .halted → u.zone.extreme = true) (hoff : g ≠ .off) :
    ({ u with stage := g, stageTime := n } : Supply).Lawful := by
  obtain ⟨⟨h1, h2, h3, h4, h5, h6⟩, hlimit, hstage⟩ := h
  exact ⟨⟨h1, h2, h3, h4, h5, h6⟩, hlimit, fun he => ⟨hq, henabled he⟩, fun hh => ⟨hq, hhalted hh⟩, fun _ => hoff,
    hstage.zoneLevel⟩

theorem lawful_of_underway {u : Supply} (h : u.Underway) (henabled : u.stage.enabled = true → u.zone.extreme = false)
    (hhalted : u.stage = .halted → u.zone.extreme = true) : u.Lawful :=
  ⟨h.timers, h.limit, fun he => ⟨h.stage.enabled he, henabled he⟩, fun hh => ⟨h.stage.halted hh, hhalted hh⟩,
    h.stage.qualified, h.stage.zoneLevel⟩

theorem stageStep_lawful (p8 p9 : Point) {u : Supply} (h : u.Underway) : (u.stageStep p8 p9).Lawful := by
  have move : u.stage.enabled = true ∨ u.stage = .halted → ∀ (g : Stage) (n : Nat),
      (g.enabled = true → u.zone.extreme = false) → (g = .halted → u.zone.extreme = true) → g ≠ .off →
      ({ u with stage := g, stageTime := n } : Supply).Lawful := fun hs g n =>
    lawful_withStage h (hs.elim h.stage.enabled h.stage.halted) g n
  unfold Supply.stageStep Supply.toBulk
  split
  case h_1 hg =>
    have move := move (.inl (by simp [hg, Stage.enabled]))
    split_ifs with hz
    · exact move .halted u.stageTime (by simp [Stage.enabled]) (fun _ => hz) (by simp)
    · exact move .absorb _ (fun _ => by simpa using hz) (by simp) (by simp)
    · exact move .fault _ (by simp [Stage.enabled]) (by simp) (by simp)
    · exact move u.stage _ (fun _ => by simpa using hz) (by simp [hg]) (by simp [hg])
  case h_2 hg =>
    have move := move (.inl (by simp [hg, Stage.enabled]))
    split_ifs with hz
    · exact move .halted u.stageTime (by simp [Stage.enabled]) (fun _ => hz) (by simp)
    · exact move .float u.stageTime (fun _ => by simpa using hz) (by simp) (by simp)
    · exact move .float _ (fun _ => by simpa using hz) (by simp) (by simp)
    · exact move u.stage _ (fun _ => by simpa using hz) (by simp [hg]) (by simp [hg])
  case h_3 hg =>
    have move := move (.inl (by simp [hg, Stage.enabled]))
    split_ifs with hz
    · exact move .halted u.stageTime (by simp [Stage.enabled]) (fun _ => hz) (by simp)
    · exact move .bulk 0 (fun _ => by simpa using hz) (by simp) (by simp)
    · exact lawful_of_underway h (fun _ => by simpa using hz) (by simp [hg])
  case h_4 hg =>
    split_ifs with hz
    · exact lawful_of_underway h (by simp [hg, Stage.enabled]) (fun _ => hz)
    · exact move (.inr hg) .bulk 0 (fun _ => by simpa using hz) (by simp) (by simp)
  case h_5 hg => exact lawful_of_underway h (by simp [hg, Stage.enabled]) (by simp [hg])
  case h_6 hg => exact lawful_of_underway h (by simp [hg, Stage.enabled]) (by simp [hg])

theorem shedStep_lawful (p8 : Point) {u : Supply} (h : u.Lawful) : (u.shedStep p8).Lawful := by
  obtain ⟨⟨h1, h2, h3, h4, h5, h6⟩, hlimit, hstage⟩ := h
  unfold Supply.shedStep
  split <;> exact ⟨⟨h1, h2, h3, h4, h5, h6⟩, hlimit, hstage⟩

theorem check_lawful (t : Nat) (p8 p9 p10 p12 : Point) {u : Supply} (h : u.Lawful) : (u.check t p8 p9 p10 p12).Lawful :=
  shedStep_lawful p8 (stageStep_lawful p8 p9 (zoneStep_underway p12 (pvStep_underway t p10 h)))

/-! The Supply Manager's other events. -/

theorem toQualified_lawful {u : Supply} (h : u.Lawful) (hpv : u.pv ≠ .qualified) : u.toQualified.Lawful := by
  have hstage := h.byPv.off_or_fault hpv
  have hrating := arrayRating_ge u.inUse.arrayCode
  refine ⟨?_, ⟨by simp [Supply.toQualified], fun _ => ?_⟩, ?_⟩
  · constructor <;> simp [Supply.toQualified, Supply.stopTimers]
  · refine ⟨?_, le_refl _, le_max_left _ _, by simp [Supply.toQualified, Supply.stopTimers]⟩
    exact le_trans (by norm_num) hrating
  · have hzone := h.byPv.zoneLevel
    by_cases hz : u.zone.extreme = true <;>
      simp [Supply.toQualified, Supply.stopTimers, hstage, hz, Stage.enabled, hzone, StageLawful]

theorem settleExpiry_lawful (t : Nat) (p10 : Point) {u : Supply} (h : u.Lawful) (hpv : u.pv = .settling) :
    (u.settleExpiry t p10).Lawful := by
  unfold Supply.settleExpiry
  split_ifs
  · exact toSettling_lawful t h (by simp [hpv]) (by simp [hpv])
  · exact toAbsent_lawful h
  · refine lawful_of_not_qualified h (by simp [hpv]) (by simp) ?_ rfl rfl h.byPv.zoneLevel
    have hfailures := h.timers.failures (by simp [hpv])
    constructor <;> simp [Supply.stopTimers, hfailures]

theorem testExpiry_lawful (t : Nat) (p10 : Point) {u : Supply} (h : u.Lawful) (hpv : u.pv = .testing) :
    (u.testExpiry t p10).Lawful := by
  have hfailures := h.timers.failures (by simp [hpv])
  unfold Supply.testExpiry
  split_ifs with husable hfloor hfive
  · exact toSettling_lawful t h (by simp [hpv]) (by simp [hpv])
  · exact toQualified_lawful h (by simp [hpv])
  · refine lawful_of_not_qualified h (by simp [hpv]) (by simp) ?_ rfl rfl h.byPv.zoneLevel
    constructor <;> simp [Supply.stopTimers, hfive]
  · refine lawful_of_not_qualified h (by simp [hpv]) (by simp) ?_ rfl rfl h.byPv.zoneLevel
    constructor <;> simp [Supply.stopTimers]
    omega

theorem requalify_lawful (t : Nat) {u : Supply} (h : u.Lawful) : (u.requalify t).Lawful := by
  unfold Supply.requalify
  split_ifs with hpv
  · refine lawful_of_not_qualified h (by simp [hpv]) (by simp [Supply.toSettling]) ?_ rfl rfl h.byPv.zoneLevel
    constructor <;> simp [Supply.toSettling, Supply.stopTimers]
  · exact h

theorem restartCharge_lawful {u : Supply} (h : u.Lawful) : u.restartCharge.Lawful := by
  have hu := h.underway
  unfold Supply.restartCharge Supply.toBulk
  split_ifs with hfault hpv hz
  · exact lawful_withStage hu hpv .halted u.stageTime (by simp [Stage.enabled]) (fun _ => hz) (by simp)
  · exact lawful_withStage hu hpv .bulk 0 (fun _ => by simpa using hz) (by simp) (by simp)
  · obtain ⟨⟨h1, h2, h3, h4, h5, h6⟩, hlimit, -⟩ := h
    exact ⟨⟨h1, h2, h3, h4, h5, h6⟩, hlimit, stageLawful_of_not_qualified (.inl rfl) hpv hu.stage.zoneLevel⟩
  · exact h

theorem chargerFault_lawful {u : Supply} (h : u.Lawful) : u.chargerFault.Lawful := by
  have fault : u.pv = .qualified → ({ u with stage := .fault } : Supply).Lawful := fun hpv =>
    lawful_withStage h.underway hpv .fault u.stageTime (by simp [Stage.enabled]) (by simp) (by simp)
  unfold Supply.chargerFault
  split
  case h_1 hg => exact fault (h.byPv.enabled (by simp [hg, Stage.enabled]))
  case h_2 hg => exact fault (h.byPv.enabled (by simp [hg, Stage.enabled]))
  case h_3 hg => exact fault (h.byPv.enabled (by simp [hg, Stage.enabled]))
  case h_4 hg => exact fault (h.byPv.halted hg)
  all_goals exact h

theorem adopt_lawful (g : SupplySettings) {u : Supply} (h : u.Lawful) : (u.adopt g).Lawful := by
  obtain ⟨⟨h1, h2, h3, h4, h5, h6⟩, ⟨hsag, hlimit⟩, ⟨he, hh, hq, -⟩⟩ := h
  refine ⟨⟨h1, h2, h3, h4, h5, h6⟩, ⟨hsag, fun hpv => ?_⟩, he, hh, hq, rfl⟩
  have hpv : u.pv = .qualified := hpv
  obtain ⟨h200, -, -, -⟩ := hlimit hpv
  have hrating := arrayRating_ge g.arrayCode
  simp only [Supply.adopt, hpv, decide_true, if_true]
  exact ⟨by omega, min_le_left _ _, le_max_left _ _, trivial⟩

theorem supplyMove_lawful {s : State} {v : Supply} (hv : SupplyMove s v) (h : s.supply.Lawful) : v.Lawful := by
  cases hv with
  | check => exact check_lawful _ _ _ _ _ h
  | settle ht =>
    refine settleExpiry_lawful _ _ h ?_
    have hsome := h.timers.settle
    rw [Option.isSome_iff_ne_none.2 ht] at hsome
    simpa using hsome.symm
  | test ht =>
    refine testExpiry_lawful _ _ h ?_
    have hsome := h.timers.test
    rw [Option.isSome_iff_ne_none.2 ht] at hsome
    simpa using hsome.symm
  | retry ht =>
    have hsome := h.timers.retry
    rw [Option.isSome_iff_ne_none.2 ht] at hsome
    have hpv : s.supply.pv = .retryWait := by simpa using hsome.symm
    exact toSettling_lawful _ h (by simp [hpv]) (by simp [hpv])
  | requalify => exact requalify_lawful _ h
  | restartCharge => exact restartCharge_lawful h
  | chargerFault => exact chargerFault_lawful h
  | adopt => exact adopt_lawful _ h

/-! The laws of the supply in the machine. -/

theorem Supply.Lawful.withLevel {u : Supply} (h : u.Lawful) (n : Nat) : ({ u with level := n } : Supply).Lawful := by
  obtain ⟨⟨h1, h2, h3, h4, h5, h6⟩, hlimit, hstage⟩ := h
  exact ⟨⟨h1, h2, h3, h4, h5, h6⟩, hlimit, hstage⟩

/-- What an operation outside the Supply Manager may change of the supply and of OUT7. -/
structure LeavesSupply (s t : State) : Prop where
  supply : ∃ n b k h, t.supply = { s.supply with level := n, handed := b, brownHold := k, checkAt := h }
  testLoad : t.outputs.testLoad = s.outputs.testLoad

theorem LeavesSupply.of_level {s t : State} (hsupply : ∃ n, t.supply = { s.supply with level := n })
    (htest : t.outputs.testLoad = s.outputs.testLoad) : LeavesSupply s t := by
  obtain ⟨n, hn⟩ := hsupply
  exact ⟨⟨n, s.supply.handed, s.supply.brownHold, s.supply.checkAt, hn⟩, htest⟩

theorem LeavesSupply.lawful {s t : State} (hl : LeavesSupply s t) (h : SupplyLawful s) : SupplyLawful t := by
  rw [supplyLawful_iff] at *
  obtain ⟨⟨n, b, k, c, hsupply⟩, htest⟩ := hl
  obtain ⟨hload, ⟨⟨h1, h2, h3, h4, h5, h6⟩, hlimit, hstage⟩⟩ := h
  rw [htest, hsupply]
  exact ⟨hload, ⟨⟨h1, h2, h3, h4, h5, h6⟩, hlimit, hstage⟩⟩

@[simp] theorem recomputeShed_testLoad (s : State) : (recomputeShed s).outputs.testLoad = s.outputs.testLoad := by
  by_cases h : s.shedLevel = s.supply.level
  · rw [recomputeShed_of_eq h]
  · rw [recomputeShed_of_ne h]
    show (retargetPumps _).outputs.testLoad = _
    rw [(retargetPumps_frame _).2.2.2.2.2.2.2.2.2.2.2.2.2.1]
    rfl

@[simp] theorem recomputeAtRestart_testLoad (s : State) :
    (recomputeAtRestart s).outputs.testLoad = s.outputs.testLoad := by
  unfold recomputeAtRestart
  split <;> rfl

@[simp] theorem handOutputs_testLoad (s : State) : (handOutputs s).outputs.testLoad = s.outputs.testLoad := by
  rw [handOutputs_eq]
  show (reactBoth _ _).outputs.testLoad = _
  rw [(reactBoth_frame _ _).2.2.2.2.2.2.2.2.2.2.2.2.2.1]
  exact recomputeShed_testLoad _

theorem pulseRequest_testLoad (o : Nat) (s : State) : (pulseRequest o s).outputs.testLoad = s.outputs.testLoad := by
  unfold pulseRequest
  split <;> rfl

theorem takePulses_testLoad (l : List Visit) (s : State) : (takePulses l s).outputs.testLoad = s.outputs.testLoad := by
  induction l generalizing s with
  | nil => rfl
  | cons v l ih =>
    refine (ih _).trans ?_
    unfold pulseOf
    split
    · exact pulseRequest_testLoad _ s
    · rfl

theorem takePass_testLoad (s : State) : (takePass s).outputs.testLoad = s.outputs.testLoad := by
  rw [takePass_eq]
  generalize visits s = vs
  have hreports : (takeReports s vs vs (s.withRuns (vs.map Visit.run))).outputs = s.outputs := by
    simp only [takeReports_frame, State.withRuns]
  simp only [takeSuppressions_frame, handOutputs_testLoad, takePulses_testLoad, hreports]

theorem takeConditionWrite_testLoad (j : Nat) (c : Condition) (s : State) :
    (takeConditionWrite j c s).outputs.testLoad = s.outputs.testLoad := by
  unfold takeConditionWrite
  simp only [handOutputs_testLoad]
  split <;> simp

theorem powerOn_supplyLawful (addr : BitVec 6) (inputs : Byte) (s : State) : SupplyLawful (powerOn addr inputs s) := by
  show PvLawful State.reset ∧ LimitLawful Supply.powerOn ∧ StageLawful Supply.powerOn
  decide

theorem supplyLawful_effect {i : Instr} {l : List Part} {s t : State} (he : Effect i l s t) (h : SupplyLawful s) :
    SupplyLawful t := by
  by_cases hframe : Part.supply ∉ l ∧ Part.outputs ∉ l
  · have hsupply : t.supply = s.supply := he.changesOnly .supply hframe.1
    have houtputs : t.outputs = s.outputs := he.changesOnly .outputs hframe.2
    exact LeavesSupply.lawful (.of_level ⟨_, hsupply⟩ (by rw [houtputs])) h
  cases he with
  | powerOn addr inputs s _ => exact powerOn_supplyLawful addr inputs s
  | restart addr s _ =>
    refine LeavesSupply.lawful ⟨⟨_, _, _, _, recomputeAtRestart_supply _⟩, ?_⟩ h
    exact recomputeAtRestart_testLoad _
  | outForcing f s => exact h
  | shedForcing f s _ => exact LeavesSupply.lawful (.of_level (setShedForcing_supply f s) (recomputeShed_testLoad _)) h
  | condition j c s _ _ _ _ =>
    exact LeavesSupply.lawful (.of_level (takeConditionWrite_supply j c s) (takeConditionWrite_testLoad j c s)) h
  | supply v extra s hv _ =>
    rw [supplyLawful_iff] at h ⊢
    rw [takeSupply_supply]
    exact ⟨recomputeShed_testLoad _, (supplyMove_lawful hv h.2).withLevel _⟩
  | checkTimer u s => exact LeavesSupply.lawful ⟨⟨_, _, _, u, rfl⟩, rfl⟩ h
  | brownOut s =>
    obtain ⟨n, hn⟩ := takeBrownOut_supply s
    exact LeavesSupply.lawful ⟨⟨n, _, 4, _, hn⟩, recomputeShed_testLoad _⟩ h
  | handedLevel s => exact LeavesSupply.lawful ⟨⟨_, false, _, _, (takeHandedLevel_frame s).2.2.2.2.2.2.2.2.2.2.2.2.1⟩, by simp⟩ h
  | outputs a b s => exact h
  | pulses a s => exact h
  | pass s _ => exact LeavesSupply.lawful (.of_level (takePass_supply s) (takePass_testLoad s)) h
  | _ => exact absurd (by simp) hframe

/-! The effective shed level (R155). -/

theorem levelBelow_le (g : SupplySettings) (off v : Int) (n : Nat) : levelBelow g off v n ≤ n := by
  induction n with
  | zero => exact le_refl 0
  | succ n ih =>
    simp only [levelBelow]
    split_ifs
    · exact le_refl _
    · exact ih.trans (Nat.le_succ n)

theorem voltageLevelOf_le (g : SupplySettings) {k : Nat} (v : Int) (h : k ≤ 4) : voltageLevelOf g k v ≤ 4 := by
  unfold voltageLevelOf
  dsimp only
  split_ifs
  · exact levelBelow_le g 0 v 4
  · exact (levelBelow_le g _ v k).trans h

theorem zoneLevelOf_le {g : SupplySettings} (h : g.valid = true) (z : Zone) : zoneLevelOf g z ≤ 4 := by
  have hrange : g.inRange = true := (Bool.and_eq_true_iff.1 h).1
  have hlevels : g.coldLevel ≤ 4 ∧ g.hotLevel ≤ 4 := by
    simp only [SupplySettings.inRange, Bool.and_eq_true, decide_eq_true_eq] at hrange
    exact ⟨hrange.1.2, hrange.2⟩
  cases z with
  | cold => exact hlevels.1
  | hot => exact hlevels.2
  | _ => exact Nat.zero_le 4

/-- R155: each source of the shed level in the supply lies between 0 and 4. -/
structure Supply.SourcesBounded (u : Supply) : Prop where
  voltage : u.voltageLevel ≤ 4
  zone : u.zoneLevel ≤ 4
  brownHold : u.brownHold ≤ 4

/-- What an event of the supply other than a check leaves of the sources. -/
theorem Supply.SourcesBounded.of_same {u v : Supply} (h : u.SourcesBounded) (hv : v.voltageLevel = u.voltageLevel)
    (hz : v.zoneLevel = u.zoneLevel) (hb : v.brownHold = u.brownHold) : v.SourcesBounded :=
  ⟨hv ▸ h.voltage, hz ▸ h.zone, hb ▸ h.brownHold⟩

theorem pvStep_sources (t : Nat) (p10 : Point) {u : Supply} (h : u.SourcesBounded) : (u.pvStep t p10).SourcesBounded := by
  unfold Supply.pvStep
  split_ifs
  · exact h
  · exact h
  · exact .of_same h rfl rfl rfl
  · split
    · exact .of_same h rfl rfl rfl
    · unfold Supply.limitStep
      split_ifs <;> exact .of_same h rfl rfl rfl
    all_goals exact h

theorem zoneStep_sources (p12 : Point) {u : Supply} (hvalid : u.inUse.valid = true) (h : u.SourcesBounded) :
    (u.zoneStep p12).SourcesBounded := by
  unfold Supply.zoneStep
  dsimp only
  split_ifs
  · exact h
  · exact ⟨h.voltage, zoneLevelOf_le hvalid _, h.brownHold⟩
  · exact h

theorem stageStep_sources (p8 p9 : Point) {u : Supply} (h : u.SourcesBounded) : (u.stageStep p8 p9).SourcesBounded := by
  unfold Supply.stageStep Supply.toBulk
  split
  case h_5 => exact h
  case h_6 => exact h
  all_goals split_ifs <;> exact .of_same h rfl rfl rfl

theorem shedStep_sources (p8 : Point) {u : Supply} (h : u.SourcesBounded) : (u.shedStep p8).SourcesBounded := by
  unfold Supply.shedStep
  split
  · refine ⟨voltageLevelOf_le _ _ h.voltage, h.zone, ?_⟩
    dsimp only
    split_ifs
    · exact Nat.zero_le 4
    · exact h.brownHold
  · exact h

theorem check_sources (t : Nat) (p8 p9 p10 p12 : Point) {u : Supply} (hvalid : u.inUse.valid = true) (h : u.SourcesBounded) :
    (u.check t p8 p9 p10 p12).SourcesBounded :=
  shedStep_sources p8 (stageStep_sources p8 p9
    (zoneStep_sources p12 (by rwa [pvStep_inUse]) (pvStep_sources t p10 h)))

theorem supplyMove_sources {s : State} {v : Supply} (hv : SupplyMove s v) (hvalid : s.supply.inUse.valid = true)
    (htable : s.tables.supply.valid = true) (h : s.supply.SourcesBounded) : v.SourcesBounded := by
  cases hv with
  | check => exact check_sources _ _ _ _ _ hvalid h
  | settle _ => unfold Supply.settleExpiry; split_ifs <;> exact .of_same h rfl rfl rfl
  | test _ => unfold Supply.testExpiry; split_ifs <;> exact .of_same h rfl rfl rfl
  | retry _ => exact .of_same h rfl rfl rfl
  | requalify => unfold Supply.requalify; split_ifs <;> exact .of_same h rfl rfl rfl
  | restartCharge => unfold Supply.restartCharge; split_ifs <;> exact .of_same h rfl rfl rfl
  | chargerFault => unfold Supply.chargerFault; split <;> exact .of_same h rfl rfl rfl
  | adopt => exact ⟨h.voltage, zoneLevelOf_le htable _, h.brownHold⟩

theorem shedLevel_le {s : State} (hsupply : s.supply.SourcesBounded) (hrequest : s.engine.shedRequest ≤ 4)
    (hforce : s.agent.shedForce.getD 0 ≤ 4) : s.shedLevel ≤ 4 := by
  unfold State.shedLevel
  split
  case h_1 n hn => simpa [hn] using hforce
  case h_2 => exact max_le (max_le hsupply.voltage hsupply.zone) (max_le hrequest hsupply.brownHold)

/-- The level in force is what its sources give, each between 0 and 4. -/
theorem shedLawful_intro {s : State} (hlevel : s.supply.level = s.shedLevel) (hsupply : s.supply.SourcesBounded)
    (hrequest : s.engine.shedRequest ≤ 4) (hforce : s.agent.shedForce.getD 0 ≤ 4) : ShedLawful s :=
  ⟨hlevel, hlevel ▸ shedLevel_le hsupply hrequest hforce, hsupply.voltage, hsupply.zone, hsupply.brownHold, hrequest, hforce⟩

/-- What the level in force is made of. -/
theorem shedLevel_congr {s t : State} (hforce : t.agent.shedForce = s.agent.shedForce)
    (hvoltage : t.supply.voltageLevel = s.supply.voltageLevel) (hzone : t.supply.zoneLevel = s.supply.zoneLevel)
    (hrequest : t.engine.shedRequest = s.engine.shedRequest) (hbrown : t.supply.brownHold = s.supply.brownHold) :
    t.shedLevel = s.shedLevel := by
  unfold State.shedLevel
  rw [hforce, hvoltage, hzone, hrequest, hbrown]

theorem recomputeShed_shedLawful {s : State} (hsupply : s.supply.SourcesBounded) (hrequest : s.engine.shedRequest ≤ 4)
    (hforce : s.agent.shedForce.getD 0 ≤ 4) : ShedLawful (recomputeShed s) := by
  have hs := recomputeShed_supply s
  have hengine : (recomputeShed s).engine = s.engine := (recomputeShed_frame s).2.2.2.2.2.2.2.2.2.2.1
  have hagent : (recomputeShed s).agent = s.agent := (recomputeShed_frame s).2.2.2.2.2.2.2.1
  have hlevel : (recomputeShed s).shedLevel = s.shedLevel :=
    shedLevel_congr (by rw [hagent]) (by rw [hs]) (by rw [hs]) (by rw [hengine]) (by rw [hs])
  refine shedLawful_intro (by rw [hlevel, hs]) (by rw [hs]; exact .of_same hsupply rfl rfl rfl) (by rwa [hengine])
    (by rwa [hagent])

theorem shedRequestOf_le {l : List CondAction} (h : ∀ a ∈ l, a.good = true) : shedRequestOf l ≤ 4 := by
  induction l with
  | nil => exact Nat.zero_le 4
  | cons a l ih =>
    have hl := ih fun b hb => h b (List.mem_cons_of_mem a hb)
    cases a with
    | shed n =>
      have hn : 1 ≤ n ∧ n ≤ 4 := of_decide_eq_true (h _ List.mem_cons_self)
      exact max_le hn.2 hl
    | _ => exact hl

theorem mem_standingActions {t : Tables} {runs : List CondRun} {a : CondAction} (h : a ∈ standingActions t runs) :
    ∃ c ∈ t.conds, c.action = a := by
  unfold standingActions entriesOfEngine at h
  obtain ⟨e, he, rfl⟩ := List.mem_map.1 h
  exact ⟨e.1, (List.of_mem_zip (List.mem_filter.1 he).1).1, rfl⟩

theorem action_good_of_mem {t : Tables} (h : t.good) {c : Condition} (hc : c ∈ t.conds) : c.action.good = true := by
  obtain ⟨-, -, -, -, -, ⟨hlen, hconds⟩, -⟩ := h
  obtain ⟨k, hk, rfl⟩ := List.getElem_of_mem hc
  have hgood := hconds k (List.mem_range.2 (hlen ▸ hk))
  rw [List.getD_eq_getElem _ _ hk] at hgood
  exact hgood.2.2.2.2.2.2

theorem shedRequest_le {t : Tables} (h : t.good) (runs : List CondRun) : shedRequestOf (standingActions t runs) ≤ 4 := by
  refine shedRequestOf_le fun a ha => ?_
  obtain ⟨c, hc, rfl⟩ := mem_standingActions ha
  exact action_good_of_mem h hc

/-- R112 to R114: the engine after its outputs are handed. -/
theorem handOutputs_engine (s : State) :
    (handOutputs s).engine =
      { s.engine with
        shedRequest := shedRequestOf (standingActions s.tables s.engine.runs),
        reduce := ⟨reduceOf .ab (standingActions s.tables s.engine.runs),
          reduceOf .ba (standingActions s.tables s.engine.runs)⟩,
        outRequest := outRequestOf (standingActions s.tables s.engine.runs) } := by
  rw [handOutputs_eq]
  generalize standingActions s.tables s.engine.runs = acts
  have hengine (u b : State) (o : BitVec 7) : (resolveOutputs ((reactBoth b u).withOutRequest o)).engine =
      { u.engine with outRequest := o } := by
    rw [resolveOutputs_engine, State.withOutRequest, (reactBoth_frame b u).2.2.2.2.2.2.2.2.2.2.1]
  have hshed : (recomputeShed (s.withShedRequest (shedRequestOf acts))).engine =
      { s.engine with shedRequest := shedRequestOf acts } := (recomputeShed_frame _).2.2.2.2.2.2.2.2.2.2.1
  refine (hengine _ _ _).trans ?_
  rw [State.withReduce, hshed]

theorem handOutputs_shedLawful {s : State} (hsupply : s.supply.SourcesBounded) (htables : s.tables.good)
    (hforce : s.agent.shedForce.getD 0 ≤ 4) : ShedLawful (handOutputs s) := by
  have hs := handOutputs_supply s
  have hengine := handOutputs_engine s
  have hagent : (handOutputs s).agent = s.agent := (handOutputs_frame s).2.2.2.2.2.2.2.1
  have hlevel : (handOutputs s).shedLevel =
      (s.withShedRequest (shedRequestOf (standingActions s.tables s.engine.runs))).shedLevel :=
    shedLevel_congr (by rw [hagent]; rfl) (by rw [hs]; rfl) (by rw [hs]; rfl) (by rw [hengine]; rfl) (by rw [hs]; rfl)
  refine shedLawful_intro (by rw [hlevel, hs]) (by rw [hs]; exact .of_same hsupply rfl rfl rfl) ?_ (by rwa [hagent])
  rw [hengine]
  exact shedRequest_le htables _

/-- What the level in force and its sources are made of. -/
structure SameShed (s t : State) : Prop where
  force : t.agent.shedForce = s.agent.shedForce
  request : t.engine.shedRequest = s.engine.shedRequest
  supply : ∃ k h, t.supply = { s.supply with checkAt := k, handed := h }

theorem SameShed.lawful {s t : State} (hsame : SameShed s t) (h : ShedLawful s) : ShedLawful t := by
  obtain ⟨hforce, hrequest, k, b, hsupply⟩ := hsame
  have hlevel : t.shedLevel = s.shedLevel :=
    shedLevel_congr hforce (by rw [hsupply]) (by rw [hsupply]) hrequest (by rw [hsupply])
  unfold ShedLawful at *
  rw [hlevel, hforce, hrequest, hsupply]
  exact h

theorem ShedLawful.sources {s : State} (h : ShedLawful s) : s.supply.SourcesBounded :=
  ⟨h.2.2.1, h.2.2.2.1, h.2.2.2.2.1⟩

theorem ShedLawful.request {s : State} (h : ShedLawful s) : s.engine.shedRequest ≤ 4 := h.2.2.2.2.2.1

theorem ShedLawful.force {s : State} (h : ShedLawful s) : s.agent.shedForce.getD 0 ≤ 4 := h.2.2.2.2.2.2

theorem takeSuppressions_sameShed (b : State) (a l : List Visit) (s : State) : SameShed s (takeSuppressions b a l s) :=
  ⟨by simp only [takeSuppressions_frame], by simp only [takeSuppressions_frame], s.supply.checkAt, s.supply.handed,
    by simp only [takeSuppressions_frame]⟩

theorem takePass_shedLawful {s : State} (h : ShedLawful s) (htables : s.tables.good) : ShedLawful (takePass s) := by
  rw [takePass_eq]
  generalize visits s = vs
  have hbase : ∀ u : State, u = takePulses vs (takeReports s vs vs (s.withRuns (vs.map Visit.run))) →
      u.supply = s.supply ∧ u.tables = s.tables ∧ u.agent = s.agent := by
    rintro u rfl
    simp only [takePulses_frame, takeReports_frame, State.withRuns, and_self]
  obtain ⟨hsupply, htab, hagent⟩ := hbase _ rfl
  refine (takeSuppressions_sameShed _ _ _ _).lawful ?_
  exact handOutputs_shedLawful (by rw [hsupply]; exact h.sources) (by rw [htab]; exact htables)
    (by rw [hagent]; exact h.force)

theorem takeConditionWrite_shedLawful {j : Nat} {c : Condition} {s : State} (h : ShedLawful s)
    (htables : (takeConditionWrite j c s).tables.good) : ShedLawful (takeConditionWrite j c s) := by
  rw [takeConditionWrite_tables] at htables
  unfold takeConditionWrite
  dsimp only
  split_ifs
  · refine handOutputs_shedLawful ?_ ?_ ?_
    · simpa using h.sources
    · simpa using htables
    · simpa using h.force
  · exact handOutputs_shedLawful h.sources htables h.force

theorem powerOn_shedLawful (addr : BitVec 6) (inputs : Byte) (s : State) : ShedLawful (powerOn addr inputs s) := by
  show ShedLawful State.reset
  decide

/-- R53: the state at a RESTART before the effective shed level is recomputed. -/
def restartBase (addr : BitVec 6) (s : State) : State :=
  { s with
    inbox := [], brownOuts := [], ownAddr := ownAddress addr, ports := ⟨s.ports.a.atRestart, s.ports.b.atRestart⟩,
    tables := builtinTables, agent := s.agent.atRestart s.now, sampling := Sampling.atReset, poll := Poll.atReset,
    points := s.points.atRestart, engine := Engine.atReset, alarms := [],
    port := ControlPort.placeAll s.now (restartWords s) ⟨[], none, []⟩,
    outputs := { s.outputs with pulses := List.replicate 7 none }, loader := Loader.atReset s.now true }

theorem restartReset_eq (addr : BitVec 6) (s : State) : restartReset addr s = recomputeAtRestart (restartBase addr s) := rfl

theorem restartReset_shedLawful (addr : BitVec 6) {s : State} (h : ShedLawful s) : ShedLawful (restartReset addr s) := by
  rw [restartReset_eq]
  have hbase : (restartBase addr s).supply.SourcesBounded := h.sources
  have hrequest : (restartBase addr s).engine.shedRequest ≤ 4 := Nat.zero_le 4
  have hforce : (restartBase addr s).agent.shedForce.getD 0 ≤ 4 := Nat.zero_le 4
  generalize restartBase addr s = s1 at hbase hrequest hforce ⊢
  have hs := recomputeAtRestart_supply s1
  have hagent : (recomputeAtRestart s1).agent = s1.agent := (recomputeAtRestart_frame s1).2.2.2.2.2.2.2.1
  have hengine : (recomputeAtRestart s1).engine = s1.engine := (recomputeAtRestart_frame s1).2.2.2.2.2.2.2.2.2.2.1
  have hlevel : (recomputeAtRestart s1).shedLevel = s1.shedLevel :=
    shedLevel_congr (by rw [hagent]) (by rw [hs]) (by rw [hs]) (by rw [hengine]) (by rw [hs])
  exact shedLawful_intro (by rw [hlevel, hs]) (by rw [hs]; exact .of_same hbase rfl rfl rfl) (by rwa [hengine])
    (by rwa [hagent])

theorem agent_shedForce {i : Instr} {l : List Part} {s t : State} (he : Effect i l s t) (hl : Part.supply ∉ l) :
    t.agent.shedForce = s.agent.shedForce := by
  by_cases hframe : Part.agent ∉ l
  · exact congrArg Agent.shedForce (he.changesOnly .agent hframe)
  cases he with
  | note a s hn => exact hn.shedForce
  | beginRestart m s _ =>
    obtain ⟨r, hr⟩ := restartBody_agent m s
    rw [hr]
  | endStore good st m n s _ _ => rw [endStore_agent]
  | transmit x s => rfl
  | contacts c s _ => rfl
  | control c s _ => rfl
  | outForcing f s => rfl
  | beginStore m s _ _ => rfl
  | _ => simp [shedParts, resetParts] at hframe hl

theorem engine_shedRequest {i : Instr} {l : List Part} {s t : State} (he : Effect i l s t) (hl : Part.supply ∉ l) :
    t.engine.shedRequest = s.engine.shedRequest := by
  by_cases hframe : Part.engine ∉ l
  · exact congrArg Engine.shedRequest (he.changesOnly .engine hframe)
  cases he with
  | install a x s _ _ => rfl
  | passTimer u s _ => rfl
  | _ => simp [shedParts, resetParts] at hframe hl

theorem shedLawful_effect {i : Instr} {l : List Part} {s t : State} (he : Effect i l s t) (htables : TablesLawful s)
    (h : ShedLawful s) : ShedLawful t := by
  by_cases hframe : Part.supply ∉ l
  · have hsupply : t.supply = s.supply := he.changesOnly .supply hframe
    exact SameShed.lawful ⟨agent_shedForce he hframe, engine_shedRequest he hframe, _, _, hsupply⟩ h
  have hgood := htables.1
  have hold := hgood
  obtain ⟨-, -, -, -, -, -, -, ⟨htsupply, -⟩, -⟩ := hold
  cases he with
  | powerOn addr inputs s _ => exact powerOn_shedLawful addr inputs s
  | restart addr s _ => exact restartReset_shedLawful addr h
  | shedForcing f s hf => exact recomputeShed_shedLawful h.sources h.request hf
  | condition j c s hw hj hc hlock =>
    exact takeConditionWrite_shedLawful h (tables_good_effect (Effect.condition (i := i) j c s hw hj hc hlock) hgood)
  | supply v extra s hv _ =>
    exact recomputeShed_shedLawful (supplyMove_sources hv htables.2.1 htsupply h.sources) h.request h.force
  | checkTimer u s => exact SameShed.lawful ⟨rfl, rfl, _, _, rfl⟩ h
  | brownOut s =>
    exact recomputeShed_shedLawful ⟨h.sources.voltage, h.sources.zone, le_refl 4⟩ h.request h.force
  | handedLevel s =>
    have hs := (takeHandedLevel_frame s).2.2.2.2.2.2.2.2.2.2.2.2.1
    exact SameShed.lawful ⟨by simp, by simp, _, _, hs⟩ h
  | pass s _ => exact takePass_shedLawful h hgood
  | _ => exact absurd (by simp) hframe

/-! The output pins (R157). -/

theorem outLevel_congr {s t : State} (hforce : t.agent.outForce = s.agent.outForce) (hsheds : t.outputs.sheds = s.outputs.sheds)
    (hidles : t.outputs.idles = s.outputs.idles) (hpulses : t.outputs.pulses = s.outputs.pulses)
    (hlevel : t.supply.level = s.supply.level) (hrequest : t.engine.outRequest = s.engine.outRequest) :
    t.outLevel = s.outLevel := by
  funext o
  unfold State.outLevel State.baseLevel
  rw [hforce, hsheds, hidles, hpulses, hlevel, hrequest]

theorem outputsResolved_resolve (s : State) : OutputsResolved (resolveOutputs s) := rfl

/-- What the levels of the pins are made of, and the levels themselves. -/
structure SamePins (s t : State) : Prop where
  force : t.agent.outForce = s.agent.outForce
  outputs : ∃ b, t.outputs = { s.outputs with testLoad := b }
  level : t.supply.level = s.supply.level
  request : t.engine.outRequest = s.engine.outRequest

theorem SamePins.resolved {s t : State} (hsame : SamePins s t) (h : OutputsResolved s) : OutputsResolved t := by
  obtain ⟨hforce, ⟨b, houtputs⟩, hlevel, hrequest⟩ := hsame
  have hout : t.outLevel = s.outLevel :=
    outLevel_congr hforce (by rw [houtputs]) (by rw [houtputs]) (by rw [houtputs]) hlevel hrequest
  unfold OutputsResolved at *
  rw [hout, houtputs]
  exact h

theorem recomputeShed_resolved {s : State} (h : OutputsResolved s) : OutputsResolved (recomputeShed s) := by
  by_cases hlevel : s.shedLevel = s.supply.level
  · rwa [recomputeShed_of_eq hlevel]
  · rw [recomputeShed_of_ne hlevel]
    exact outputsResolved_resolve _

/-- No event of the Supply Manager sets the level in force or the mark of a handed one: those are recomputed. -/
theorem supplyMove_level {s : State} {v : Supply} (hv : SupplyMove s v) :
    v.level = s.supply.level ∧ v.handed = s.supply.handed := by
  cases hv with
  | check =>
    have hpv : ∀ (t : Nat) (p : Point) (u : Supply), (u.pvStep t p).level = u.level ∧ (u.pvStep t p).handed = u.handed := by
      intro t p u
      unfold Supply.pvStep
      split_ifs
      · exact ⟨rfl, rfl⟩
      · exact ⟨rfl, rfl⟩
      · exact ⟨rfl, rfl⟩
      · split
        · exact ⟨rfl, rfl⟩
        · unfold Supply.limitStep
          split_ifs <;> exact ⟨rfl, rfl⟩
        all_goals exact ⟨rfl, rfl⟩
    have hzone : ∀ (p : Point) (u : Supply), (u.zoneStep p).level = u.level ∧ (u.zoneStep p).handed = u.handed := by
      intro p u
      unfold Supply.zoneStep
      dsimp only
      split_ifs <;> exact ⟨rfl, rfl⟩
    have hstage : ∀ (p q : Point) (u : Supply), (u.stageStep p q).level = u.level ∧ (u.stageStep p q).handed = u.handed := by
      intro p q u
      unfold Supply.stageStep Supply.toBulk
      split
      case h_5 => exact ⟨rfl, rfl⟩
      case h_6 => exact ⟨rfl, rfl⟩
      all_goals split_ifs <;> exact ⟨rfl, rfl⟩
    unfold Supply.check Supply.shedStep Supply.beforeStage
    split <;> simp [hstage, hzone, hpv]
  | settle _ => unfold Supply.settleExpiry; split_ifs <;> exact ⟨rfl, rfl⟩
  | test _ => unfold Supply.testExpiry; split_ifs <;> exact ⟨rfl, rfl⟩
  | retry _ => exact ⟨rfl, rfl⟩
  | requalify => unfold Supply.requalify; split_ifs <;> exact ⟨rfl, rfl⟩
  | restartCharge => unfold Supply.restartCharge; split_ifs <;> exact ⟨rfl, rfl⟩
  | chargerFault => unfold Supply.chargerFault; split <;> exact ⟨rfl, rfl⟩
  | adopt => exact ⟨rfl, rfl⟩

theorem agent_outForce {i : Instr} {l : List Part} {s t : State} (he : Effect i l s t) (hl : Part.outputs ∉ l) :
    t.agent.outForce = s.agent.outForce := by
  by_cases hframe : Part.agent ∉ l
  · exact congrArg Agent.outForce (he.changesOnly .agent hframe)
  cases he with
  | note a s hn => exact hn.outForce
  | beginRestart m s _ =>
    obtain ⟨r, hr⟩ := restartBody_agent m s
    rw [hr]
  | endStore good st m n s _ _ => rw [endStore_agent]
  | transmit x s => rfl
  | contacts c s _ => rfl
  | control c s _ => rfl
  | beginStore m s _ _ => rfl
  | _ => simp [shedParts, resetParts] at hframe hl

theorem engine_outRequest {i : Instr} {l : List Part} {s t : State} (he : Effect i l s t) (hl : Part.outputs ∉ l) :
    t.engine.outRequest = s.engine.outRequest := by
  by_cases hframe : Part.engine ∉ l
  · exact congrArg Engine.outRequest (he.changesOnly .engine hframe)
  cases he with
  | install a x s _ _ => rfl
  | passTimer u s _ => rfl
  | _ => simp [shedParts, resetParts] at hframe hl

theorem supply_level {i : Instr} {l : List Part} {s t : State} (he : Effect i l s t) (hl : Part.outputs ∉ l) :
    t.supply.level = s.supply.level := by
  by_cases hframe : Part.supply ∉ l
  · exact congrArg Supply.level (he.changesOnly .supply hframe)
  cases he with
  | checkTimer u s => rfl
  | handedLevel s => rw [(takeHandedLevel_frame s).2.2.2.2.2.2.2.2.2.2.2.2.1]
  | _ => simp [shedParts, resetParts] at hframe hl

theorem takeSuppressions_samePins (b : State) (a l : List Visit) (s : State) : SamePins s (takeSuppressions b a l s) :=
  ⟨by simp only [takeSuppressions_frame], ⟨s.outputs.testLoad, by simp only [takeSuppressions_frame]⟩,
    by simp only [takeSuppressions_frame], by simp only [takeSuppressions_frame]⟩

theorem takePass_resolved (s : State) : OutputsResolved (takePass s) := by
  rw [takePass_eq]
  generalize visits s = vs
  refine (takeSuppressions_samePins _ _ _ _).resolved ?_
  rw [handOutputs_eq]
  exact outputsResolved_resolve _

theorem outputsResolved_effect {i : Instr} {l : List Part} {s t : State} (he : Effect i l s t) (h : OutputsResolved s) :
    OutputsResolved t := by
  by_cases hframe : Part.outputs ∉ l
  · exact SamePins.resolved ⟨agent_outForce he hframe, ⟨_, he.changesOnly .outputs hframe⟩, supply_level he hframe,
      engine_outRequest he hframe⟩ h
  cases he with
  | powerOn addr inputs s _ =>
    show OutputsResolved State.reset
    decide
  | restart addr s _ => exact outputsResolved_resolve _
  | outForcing f s => exact outputsResolved_resolve _
  | shedForcing f s _ => exact recomputeShed_resolved h
  | condition j c s _ _ _ _ => exact outputsResolved_resolve _
  | supply v extra s hv _ =>
    exact recomputeShed_resolved (SamePins.resolved (s := s) ⟨rfl, ⟨_, rfl⟩, (supplyMove_level hv).1, rfl⟩ h)
  | brownOut s => exact recomputeShed_resolved h
  | outputs a b s => exact outputsResolved_resolve _
  | pulses a s => exact outputsResolved_resolve _
  | pass s _ => exact takePass_resolved s
  | _ => exact absurd (by simp) hframe

end Sys2Proof.Machine

section

open Sys2Proof Sys2Proof.Machine

/-- Settles O57: each effect keeps the laws of the supply, of the shed level over acceptable tables, and of the pins. -/
theorem everyStepKeepsTheSupplyAndOutputsLawful : Obligations.EveryStepKeepsTheSupplyAndOutputsLawful := by
  unfold Obligations.EveryStepKeepsTheSupplyAndOutputsLawful
  refine ⟨fun s t h => step_preserves (fun _ _ hs => hs) (fun _ _ _ _ he hs => supplyLawful_effect he hs) h,
    fun s t h htables hstep => ?_,
    fun s t h => step_preserves (fun _ _ hs => hs) (fun _ _ _ _ he hs => outputsResolved_effect he hs) h⟩
  have hboth : ShedLawful t ∧ TablesLawful t :=
    step_preserves (P := fun u => ShedLawful u ∧ TablesLawful u) (fun _ _ hs => hs)
      (fun _ _ _ _ he hs => ⟨shedLawful_effect he hs.2 hs.1, tablesLawful_effect he hs.2⟩) ⟨h, htables⟩ hstep
  exact hboth.1

end

/-! PROOF. What the effects leave of a port's view, and what an effect can make of the sources of a pump channel. -/

namespace Sys2Proof.Machine

/-! The view of a port: only the line's own events change it. -/

theorem lineView_forward (m : Message) (p : LinePort) : (p.forward m).lineView = p.lineView := by
  unfold LinePort.forward
  split_ifs <;> rfl

theorem sameLines_forward (x : Side) (m : Message) (r : RelayIO) : SameLines r.ports (forward x m r).ports :=
  sameLines_set _ _ (lineView_forward m _)

theorem sameLines_surveyReturn (v : RelayView) (m : Message) (r : RelayIO) : SameLines r.ports (surveyReturn v m r).ports := by
  unfold surveyReturn
  split
  · exact sameLines_offer _ _ _ _
  · exact SameLines.refl _

theorem sameLines_takeMessage (v : RelayView) (x : Side) (m : Message) (r : RelayIO) :
    SameLines r.ports (takeMessage v x m r).ports := by
  unfold takeMessage
  dsimp only
  split
  · exact SameLines.refl _
  · exact sameLines_forward x m r
  · split_ifs
    · exact SameLines.refl _
    · exact SameLines.refl _
    · exact SameLines.refl _
    · exact sameLines_surveyReturn v m r
    · exact SameLines.refl _
  · split_ifs <;> exact sameLines_forward x _ _

theorem sameLines_takeMessages (v : RelayView) (x : Side) (ms : List Message) (r : RelayIO) :
    SameLines r.ports (takeMessages v x ms r).ports := by
  induction ms generalizing r with
  | nil => exact SameLines.refl _
  | cons m ms ih => exact (sameLines_takeMessage v x m r).trans (ih _)

theorem sameLines_takeArea (x : Side) (f : List Byte) (s : State) : SameLines s.ports (takeArea x f s).ports := by
  unfold takeArea
  dsimp only
  split_ifs
  · exact sameLines_set _ _ rfl
  · exact (sameLines_takeMessages _ x _ ⟨s.ports, s.inbox⟩).trans (sameLines_set _ _ rfl)
  · exact sameLines_takeMessages _ x _ ⟨s.ports, s.inbox⟩

theorem sameLines_transmit (x : Side) (s : State) : SameLines s.ports (transmit x s).ports := by
  unfold transmit
  dsimp only
  refine (sameLines_set s.ports (otherSide x) ?_).trans (sameLines_set _ x ?_)
  · rfl
  · cases x <;> rfl

theorem sameLines_endStore (good : Bool) (s : State) : SameLines s.ports (endStore good s).ports := by
  unfold endStore
  split
  · exact sameLines_offer _ _ _ _
  · exact SameLines.refl _

theorem sameLines_restartBody (m : Sender) (s : State) : SameLines s.ports (restartBody m s).state.ports := by
  unfold restartBody
  split
  · exact SameLines.refl _
  · exact sameLines_offer _ _ _ _

theorem sameLines_quiet {x : Side} {p : LinePort} {s : State} (h : (s.at x).Quiet p) : SameLines s.ports (s.setPort x p).ports :=
  sameLines_set _ _ (by unfold LinePort.lineView; rw [h.lastWindow, h.lineState, h.ufm, h.rfm, h.rfmRun]; rfl)

theorem sameLines_restartReset (addr : BitVec 6) (s : State) : SameLines s.ports (restartReset addr s).ports := by
  rw [restartReset_eq, (recomputeAtRestart_frame _).2.2.2.2.2.1]
  intro x
  cases x <;> rfl

/-- Only the line's own events and power-on reset change what the rest of the part sees of a port. -/
theorem Effect.lines_cases {i : Instr} {l : List Part} {s t : State} (he : Effect i l s t) :
    SameLines s.ports t.ports ∨ Part.points ∈ l ∧
      ((∃ u, LineMove s u ∧ t = reactBoth s u) ∨ ∃ addr inputs, t = Machine.powerOn addr inputs s) := by
  by_cases hframe : Part.line .a ∉ l ∧ Part.line .b ∉ l
  · refine .inl fun x => ?_
    cases x with
    | a => exact congrArg LinePort.lineView (he.changesOnly (.line .a) hframe.1)
    | b => exact congrArg LinePort.lineView (he.changesOnly (.line .b) hframe.2)
  cases he with
  | powerOn addr inputs s _ => exact .inr ⟨by simp [resetParts], .inr ⟨addr, inputs, rfl⟩⟩
  | line u s hu => exact .inr ⟨by simp, .inl ⟨u, hu, rfl⟩⟩
  | restart addr s _ => exact .inl (sameLines_restartReset addr s)
  | transmit x s => exact .inl (sameLines_transmit x s)
  | receive x p s hp => exact .inl (sameLines_quiet hp)
  | area x f s => exact .inl (sameLines_takeArea x f s)
  | reply m code st r s _ _ => exact .inl (sameLines_offer _ _ _ _)
  | beginRestart m s _ => exact .inl (sameLines_restartBody m s)
  | endStore good st m n s _ _ => exact .inl (sameLines_endStore good _)
  | condition j c s _ _ _ _ => exact .inl (takeConditionWrite_lines j c s)
  | pass s _ => exact .inl (alerts_takePass s).lines
  | _ => exact absurd (by simp [shedParts]) hframe

end Sys2Proof.Machine

/-! PROOF. O56: the pump channels and the Control Port. -/

namespace Sys2Proof.Machine

/-! A channel on its own (R133, R139, R140). -/

/-- A channel's current and timers by its state, whatever its target. -/
structure Pump.Framed (p : Pump) : Prop where
  ceiling : p.current ≤ p.inUse.ceiling
  mode : p.state = .off ↔ p.mode = .off
  dark : p.state = .off ∨ p.state = .startWait ∨ p.state = .fault → p.current = 0
  safe : p.state = .reduced → p.current ≤ p.inUse.safe
  start : p.startAt.isSome = true ↔ p.state = .startWait
  ramp : p.rampAt.isSome = true ↔ p.state = .ramp
  probe : p.probeAt.isSome = true ↔ p.state = .reduced
  duration : p.durationAt.isSome = true ↔ p.state = .probe
  status : p.statusAt.isSome = true ↔ p.state ≠ .off

/-- What PumpsLawful asks of one channel under a shed level, with the mark of a handed level and its trigger. -/
structure Pump.Ok (level : Nat) (handed trigger : Bool) (p : Pump) : Prop where
  framed : p.Framed
  target : p.onTarget level
  running : handed = false → p.atTarget
  trigger : p.state = .ramp ∨ p.state = .run → trigger = false

theorem isSome_eq_beq_iff (t : Option Nat) (x y : PumpState) : t.isSome = (x == y) ↔ (t.isSome = true ↔ x = y) := by
  rw [Bool.eq_iff_iff, beq_iff_eq]

theorem isSome_eq_bne_iff (t : Option Nat) (x y : PumpState) : t.isSome = (x != y) ↔ (t.isSome = true ↔ x ≠ y) := by
  rw [Bool.eq_iff_iff, bne_iff_ne]

theorem lawful_iff_framed (p : Pump) : p.lawful ↔ p.target ≤ p.inUse.ceiling ∧ p.Framed := by
  simp only [Pump.lawful, isSome_eq_beq_iff, isSome_eq_bne_iff]
  constructor
  · rintro ⟨htarget, hceiling, hmode, hoff, hwait, hfault, hsafe, h1, h2, h3, h4, h5⟩
    exact ⟨htarget, hceiling, hmode, fun h => h.elim hoff fun h => h.elim hwait hfault, hsafe, h1, h2, h3, h4, h5⟩
  · rintro ⟨htarget, hceiling, hmode, hdark, hsafe, h1, h2, h3, h4, h5⟩
    exact ⟨htarget, hceiling, hmode, fun h => hdark (.inl h), fun h => hdark (.inr (.inl h)),
      fun h => hdark (.inr (.inr h)), hsafe, h1, h2, h3, h4, h5⟩

theorem pumpsLawful_iff (s : State) :
    PumpsLawful s ↔ ∀ c, (s.pumps.get c).Ok s.supply.level s.supply.handed (Machine.trigger s c) := by
  unfold PumpsLawful
  simp only [lawful_iff_framed]
  constructor
  · rintro ⟨⟨-, hab⟩, ⟨-, hba⟩, htab, htba, hrun, hnab, hnba⟩ c
    cases c with
    | ab => exact ⟨hab, htab, fun h => (hrun h).1, hnab⟩
    | ba => exact ⟨hba, htba, fun h => (hrun h).2, hnba⟩
  · intro h
    have hab := h .ab
    have hba := h .ba
    have hle : ∀ p : Pump, p.onTarget s.supply.level → p.target ≤ p.inUse.ceiling := fun p hp =>
      hp ▸ effectiveTarget_le _ _ _
    exact ⟨⟨hle _ hab.target, hab.framed⟩, ⟨hle _ hba.target, hba.framed⟩, hab.target, hba.target,
      fun hh => ⟨hab.running hh, hba.running hh⟩, hab.trigger, hba.trigger⟩

theorem Pump.Ok.of_trigger {level : Nat} {handed a b : Bool} {p : Pump} (h : p.Ok level handed a) (hb : b = true → a = true) :
    p.Ok level handed b :=
  ⟨h.framed, h.target, h.running, fun hs => by
    have ha := h.trigger hs
    cases b with
    | false => rfl
    | true => exact absurd (hb rfl) (by simp [ha])⟩

theorem aim_framed (level : Nat) {p : Pump} (h : p.Framed) : (p.aim level).Framed := by
  obtain ⟨h1, h2, h3, h4, h5, h6, h7, h8, h9⟩ := h
  exact ⟨h1, h2, h3, h4, h5, h6, h7, h8, h9⟩

/-- R135: a channel in START_WAIT or RUN on its entry into RAMP. -/
theorem enterRamp_framed (now : Nat) {p : Pump} (h : p.Framed) (hs : p.state = .startWait ∨ p.state = .run) :
    (p.enterRamp now).Framed := by
  obtain ⟨h1, h2, h3, h4, h5, h6, h7, h8, h9⟩ := h
  unfold Pump.enterRamp
  rcases hs with hs | hs <;> simp only [hs] at h2 h7 h8 h9 <;> split_ifs <;> constructor <;>
    simp_all

theorem enterRamp_state (now : Nat) (p : Pump) :
    (p.enterRamp now).target = p.target ∧ (p.enterRamp now).mode = p.mode ∧ (p.enterRamp now).current = p.current ∧
      ((p.enterRamp now).state = .run ∧ p.current = p.target ∨ (p.enterRamp now).state = .ramp) := by
  unfold Pump.enterRamp
  split_ifs with h
  · exact ⟨rfl, rfl, rfl, .inl ⟨rfl, h⟩⟩
  · exact ⟨rfl, rfl, rfl, .inr rfl⟩

theorem enterRamp_ok {level now : Nat} {handed trigger : Bool} {p : Pump} (h : p.Framed)
    (hs : p.state = .startWait ∨ p.state = .run) (htarget : p.onTarget level) (htrigger : trigger = false) :
    (p.enterRamp now).Ok level handed trigger := by
  obtain ⟨ht, hm, hc, hstate⟩ := enterRamp_state now p
  refine ⟨enterRamp_framed now h hs, ?_, fun _ hrun => ?_, fun _ => htrigger⟩
  · unfold Pump.onTarget at *
    rw [ht, hm, enterRamp_inUse, htarget]
  · rcases hstate with ⟨-, hat⟩ | hramp
    · rw [ht, hc, hat]
    · simp [hramp] at hrun

/-- R133: a channel that acts on its target obeys the laws, whatever it did before. -/
theorem follow_ok {level now : Nat} {handed trigger : Bool} {p : Pump} (h : p.Framed) (htarget : p.onTarget level)
    (htrigger : p.state = .ramp ∨ p.state = .run → trigger = false) : (p.follow now).pump.Ok level handed trigger := by
  have still : p.state ≠ .run → p.state ≠ .probe → p.Ok level handed trigger := fun hr hp =>
    ⟨h, htarget, fun _ hs => absurd hs (not_or.2 ⟨hr, hp⟩), htrigger⟩
  unfold Pump.follow
  split
  case h_1 hs => exact enterRamp_ok h (.inr hs) htarget (htrigger (.inr hs))
  case h_2 hs =>
    obtain ⟨h1, h2, h3, h4, h5, h6, h7, h8, h9⟩ := h
    refine ⟨⟨?_, h2, by simp [hs], by simp [hs], h5, h6, h7, h8, h9⟩, htarget, fun _ _ => rfl, htrigger⟩
    exact htarget ▸ effectiveTarget_le _ _ _
  all_goals exact still (by simp [*]) (by simp [*])

/-- R133: a target computed afresh and acted on; a channel that ran at the target it keeps runs at it still. -/
theorem retarget_ok {level now : Nat} {handed trigger : Bool} {p : Pump} (h : p.Framed)
    (hrunning : (p.aim level).target = p.target → handed = false → p.atTarget)
    (htrigger : p.state = .ramp ∨ p.state = .run → trigger = false) :
    (p.retarget now level).pump.Ok level handed trigger := by
  unfold Pump.retarget
  split_ifs with heq
  · exact ⟨h, heq.symm, hrunning heq, htrigger⟩
  · exact follow_ok (aim_framed level h) rfl htrigger

theorem reduce_ok {level now : Nat} {handed trigger : Bool} {p : Pump} (h : p.Framed) (htarget : p.onTarget level)
    (hoff : p.state ≠ .off) : (p.reduce now).pump.Ok level handed trigger := by
  obtain ⟨h1, h2, h3, h4, h5, h6, h7, h8, h9⟩ := h
  have hmode : p.mode ≠ .off := fun hm => hoff (h2.2 hm)
  refine ⟨⟨(min_le_right _ _).trans h1, ?_, ?_, fun _ => min_le_left _ _, ?_, ?_, ?_, ?_, ?_⟩, htarget, ?_, ?_⟩ <;>
    simp_all [Pump.reduce, Pump.atTarget]

theorem appearance_ok {level now : Nat} {handed a b : Bool} {p : Pump} (h : p.Ok level handed a) :
    (p.appearance now).pump.Ok level handed b := by
  unfold Pump.appearance
  split
  case h_1 hs => exact reduce_ok h.framed h.target (by simp [hs])
  case h_2 hs => exact reduce_ok h.framed h.target (by simp [hs])
  case h_3 hs => exact reduce_ok h.framed h.target (by simp [hs])
  all_goals exact ⟨h.framed, h.target, h.running, by simp [*]⟩

theorem catchUp_ok {level now : Nat} {handed a b : Bool} {p : Pump} (h : p.Ok level handed a) :
    (p.catchUp now).pump.Ok level b a := by
  refine ⟨?_, ?_, fun _ => catchUp_atTarget now p, ?_⟩ <;> unfold Pump.catchUp <;> split_ifs
  · exact h.framed
  · exact (follow_ok (now := now) (handed := handed) h.framed h.target h.trigger).framed
  · exact h.target
  · exact (follow_ok (now := now) (handed := handed) h.framed h.target h.trigger).target
  · exact h.trigger
  · exact (follow_ok (now := now) (handed := handed) h.framed h.target h.trigger).trigger

theorem startWait_ok {level now : Nat} {handed trigger : Bool} {p : Pump} (m : Mode) (hm : m ≠ .off) (h : p.Framed) :
    (p.startWait now level m).pump.Ok level handed trigger := by
  obtain ⟨h1, h2, h3, h4, h5, h6, h7, h8, h9⟩ := h
  refine ⟨⟨Nat.zero_le _, ?_, ?_, ?_, ?_, ?_, ?_, ?_, ?_⟩, rfl, ?_, ?_⟩ <;> simp [Pump.startWait, Pump.atTarget, hm]

theorem stop_ok {level : Nat} {handed trigger : Bool} (p : Pump) : (p.stop level).pump.Ok level handed trigger := by
  refine ⟨⟨Nat.zero_le _, ?_, ?_, ?_, ?_, ?_, ?_, ?_, ?_⟩, rfl, ?_, ?_⟩ <;> simp [Pump.stop, Pump.atTarget]

theorem withMode_framed {p : Pump} {m : Mode} (h : p.Framed) (hm : m ≠ .off) (hs : p.state ≠ .off) :
    ({ p with mode := m } : Pump).Framed := by
  obtain ⟨h1, h2, h3, h4, h5, h6, h7, h8, h9⟩ := h
  exact ⟨h1, ⟨fun h => absurd h hs, fun h => absurd h hm⟩, h3, h4, h5, h6, h7, h8, h9⟩

theorem modeRequest_ok {level now : Nat} {handed trigger : Bool} {p : Pump} (m : Mode) (h : p.Ok level handed trigger) :
    (p.modeRequest now level m).pump.Ok level handed trigger := by
  unfold Pump.modeRequest
  split
  case h_1 => exact h
  case h_2 => exact stop_ok p
  case h_3 hm _ => exact startWait_ok _ hm h.framed
  case h_4 hm _ => exact startWait_ok _ hm h.framed
  case h_5 hm hoff _ _ => exact retarget_ok (withMode_framed h.framed hm hoff) (fun _ hh => h.running hh) h.trigger

theorem driverFault_ok {level : Nat} {handed trigger : Bool} {p : Pump} (h : p.Ok level handed trigger) :
    p.driverFault.pump.Ok level handed trigger := by
  obtain ⟨⟨h1, h2, h3, h4, h5, h6, h7, h8, h9⟩, htarget, -, -⟩ := id h
  have fault : p.state ≠ .off → Pump.Ok level handed trigger
      { p with state := .fault, current := 0, startAt := none, rampAt := none, probeAt := none, durationAt := none } := by
    intro hoff
    have hmode : p.mode ≠ .off := fun hm => hoff (h2.2 hm)
    refine ⟨⟨Nat.zero_le _, ?_, ?_, ?_, ?_, ?_, ?_, ?_, ?_⟩, htarget, ?_, ?_⟩ <;> simp_all [Pump.atTarget]
  unfold Pump.driverFault
  split
  case h_1 => exact h
  case h_2 => exact h
  all_goals exact fault (by simp [*])

theorem settingsChange_ok {level now : Nat} {handed trigger : Bool} {p : Pump} (t : PumpSettings)
    (h : p.Ok level handed trigger) : (p.settingsChange now level t).pump.Ok level handed trigger := by
  obtain ⟨⟨h1, h2, h3, h4, h5, h6, h7, h8, h9⟩, -, hrunning, htrigger⟩ := h
  refine retarget_ok ⟨?_, h2, fun hs => ?_, fun hs => ?_, h5, h6, h7, h8, h9⟩ (fun heq hh hs => ?_) htrigger
  · dsimp only
    split_ifs <;> omega
  · have hzero := h3 hs
    simp [hzero]
  · have hs : p.state = .reduced := hs
    simp only [hs, true_and]
    split_ifs <;> omega
  · have hat := hrunning hh hs
    have hle : p.target ≤ t.ceiling := heq ▸ effectiveTarget_le _ _ _
    have hreduced : p.state ≠ .reduced := by
      rcases hs with hs | hs <;> simp [show p.state = _ from hs]
    have hceiling : ¬t.ceiling < p.current := by omega
    simpa [hreduced, hceiling] using hat

theorem startExpiry_ok {level now : Nat} {handed trigger : Bool} {p : Pump} (h : p.Ok level handed trigger)
    (hs : p.state = .startWait) : (p.startExpiry now trigger).pump.Ok level handed trigger := by
  unfold Pump.startExpiry
  split_ifs with htrigger
  · exact reduce_ok h.framed h.target (by simp [hs])
  · exact enterRamp_ok h.framed (.inl hs) h.target (by simpa using htrigger)

theorem rampStep_ok {level now : Nat} {handed trigger : Bool} {p : Pump} (h : p.Ok level handed trigger)
    (hs : p.state = .ramp) : (p.rampStep now).pump.Ok level handed trigger := by
  obtain ⟨⟨h1, h2, h3, h4, h5, h6, h7, h8, h9⟩, htarget, hrunning, htrigger⟩ := h
  have hle : p.target ≤ p.inUse.ceiling := htarget ▸ effectiveTarget_le _ _ _
  have hquiet := htrigger (.inl hs)
  have hmode : p.mode ≠ .off := fun hm => by simp [hs] at h2; exact h2 hm
  have arrive : Pump.Ok level handed trigger { p with state := .run, current := p.target, rampAt := none } := by
    refine ⟨⟨hle, ?_, ?_, ?_, ?_, ?_, ?_, ?_, ?_⟩, htarget, fun _ _ => rfl, fun _ => hquiet⟩ <;> simp_all
  have move : ∀ n, n ≤ p.inUse.ceiling → Pump.Ok level handed trigger { p with current := n, rampAt := some (now + millis 10) } := by
    intro n hn
    refine ⟨⟨hn, ?_, ?_, ?_, ?_, ?_, ?_, ?_, ?_⟩, htarget, ?_, fun _ => hquiet⟩ <;> simp_all [Pump.atTarget]
  unfold Pump.rampStep
  dsimp only
  split_ifs
  · exact arrive
  · exact move _ (by omega)
  · exact move _ (by omega)
  · exact arrive
  · exact move _ (by omega)
  · exact move _ (by omega)

theorem probeExpiry_ok {level now : Nat} {handed trigger : Bool} {p : Pump} (h : p.Ok level handed trigger)
    (hs : p.state = .reduced) : (p.probeExpiry now).pump.Ok level handed trigger := by
  obtain ⟨⟨h1, h2, h3, h4, h5, h6, h7, h8, h9⟩, htarget, -, -⟩ := h
  have hle : p.target ≤ p.inUse.ceiling := htarget ▸ effectiveTarget_le _ _ _
  refine ⟨⟨hle, ?_, ?_, ?_, ?_, ?_, ?_, ?_, ?_⟩, htarget, fun _ _ => rfl, ?_⟩ <;> simp_all [Pump.probeExpiry]

theorem probeEnd_ok {level now : Nat} {handed trigger : Bool} {p : Pump} (h : p.Ok level handed trigger)
    (hs : p.state = .probe) : (p.probeEnd now trigger).pump.Ok level handed trigger := by
  unfold Pump.probeEnd
  split_ifs with htrigger
  · exact reduce_ok h.framed h.target (by simp [hs])
  · obtain ⟨⟨h1, h2, h3, h4, h5, h6, h7, h8, h9⟩, htarget, hrunning, -⟩ := h
    refine ⟨⟨h1, ?_, ?_, ?_, ?_, ?_, ?_, ?_, ?_⟩, htarget, fun hh _ => hrunning hh (.inr hs), ?_⟩ <;> simp_all

theorem statusRead_ok {level t : Nat} {handed trigger : Bool} {p : Pump} (h : p.Ok level handed trigger)
    (hs : p.state ≠ .off) : (p.statusRead t).pump.Ok level handed trigger := by
  obtain ⟨⟨h1, h2, h3, h4, h5, h6, h7, h8, h9⟩, htarget, hrunning, htrigger⟩ := h
  exact ⟨⟨h1, h2, h3, h4, h5, h6, h7, h8, by simpa [Pump.statusRead] using hs⟩, htarget, hrunning, htrigger⟩

theorem pumpMove_ok {s : State} {c : Channel} {r : PumpResult} (hr : PumpMove s c r)
    (h : (s.pumps.get c).Ok s.supply.level s.supply.handed (Machine.trigger s c)) :
    r.pump.Ok s.supply.level s.supply.handed (Machine.trigger s c) := by
  cases hr with
  | settings => exact settingsChange_ok _ h
  | mode m => exact modeRequest_ok m h
  | start ht => exact startExpiry_ok h (h.framed.start.1 (Option.isSome_iff_ne_none.2 ht))
  | ramp t ht => exact rampStep_ok h (h.framed.ramp.1 (Option.isSome_iff_ne_none.2 ht))
  | probe ht => exact probeExpiry_ok h (h.framed.probe.1 (Option.isSome_iff_ne_none.2 ht))
  | probeEnd ht => exact probeEnd_ok h (h.framed.duration.1 (Option.isSome_iff_ne_none.2 ht))
  | status t ht => exact statusRead_ok h (h.framed.status.1 (Option.isSome_iff_ne_none.2 ht))
  | fault => exact driverFault_ok h

/-! The channels in the machine. -/

theorem sources_congr {s t : State} (hlines : SameLines s.ports t.ports) (hreduce : t.engine.reduce = s.engine.reduce)
    (c : Channel) : sources t c = sources s c := by
  have hview := hlines (farSide c)
  simp only [LinePort.lineView, Prod.mk.injEq] at hview
  obtain ⟨-, hstate, -, -, hrun⟩ := hview
  unfold sources
  rw [hreduce, hstate, hrun]

theorem trigger_congr {s t : State} {c : Channel} (h : sources t c = sources s c) : Machine.trigger t c = Machine.trigger s c := by
  unfold Machine.trigger
  rw [h]

/-- A source that is present now and did not appear was present before. -/
theorem trigger_of_not_appeared {b u : State} {c : Channel} (h : appeared (sources b c) (sources u c) ≠ true)
    (ht : Machine.trigger u c = true) : Machine.trigger b c = true := by
  unfold appeared at h
  unfold Machine.trigger at ht ⊢
  generalize sources b c = x at h ⊢
  generalize sources u c = y at h ht
  obtain ⟨x1, x2, x3⟩ := x
  obtain ⟨y1, y2, y3⟩ := y
  revert h ht
  revert x1 x2 x3 y1 y2 y3
  decide

/-- What PumpsLawful speaks of. -/
structure SamePumps (s t : State) : Prop where
  pump : ∀ c, t.pumps.get c = s.pumps.get c
  level : t.supply.level = s.supply.level
  handed : t.supply.handed = s.supply.handed
  sources : ∀ c, Machine.sources t c = Machine.sources s c

theorem SamePumps.lawful {s t : State} (hsame : SamePumps s t) (h : PumpsLawful s) : PumpsLawful t := by
  rw [pumpsLawful_iff] at *
  intro c
  rw [hsame.pump c, hsame.level, hsame.handed, trigger_congr (hsame.sources c)]
  exact h c

theorem reactBoth_pumpsLawful {b u : State} (hpumps : u.pumps = b.pumps) (hsupply : u.supply = b.supply)
    (h : PumpsLawful b) : PumpsLawful (reactBoth b u) := by
  rw [pumpsLawful_iff] at *
  intro c
  have hs : (reactBoth b u).supply = u.supply := (reactBoth_frame b u).2.2.2.2.2.2.2.2.2.2.2.2.1
  have htrigger : Machine.trigger (reactBoth b u) c = Machine.trigger u c := by
    refine trigger_congr (sources_congr (.of_eq ?_) ?_ c) <;> simp
  rw [reactBoth_pump, htrigger, hs, hpumps, hsupply]
  split_ifs with happeared
  · exact appearance_ok (h c)
  · exact (h c).of_trigger (trigger_of_not_appeared happeared)

theorem recomputeShed_pumpsLawful {s : State} (h : PumpsLawful s) : PumpsLawful (recomputeShed s) := by
  rw [pumpsLawful_iff] at *
  intro c
  have htrigger : Machine.trigger (recomputeShed s) c = Machine.trigger s c := by
    refine trigger_congr (sources_congr (.of_eq ?_) ?_ c) <;> simp
  rw [recomputeShed_pump, htrigger, recomputeShed_supply]
  split_ifs with hlevel
  · rw [hlevel]
    exact h c
  · exact retarget_ok (h c).framed (fun _ hh => (h c).running hh) (h c).trigger

theorem recomputeAtRestart_pumpsLawful {s : State} (h : PumpsLawful s) : PumpsLawful (recomputeAtRestart s) := by
  rw [pumpsLawful_iff] at *
  intro c
  have htrigger : Machine.trigger (recomputeAtRestart s) c = Machine.trigger s c := by
    refine trigger_congr (sources_congr (.of_eq ?_) ?_ c) <;> simp
  rw [recomputeAtRestart_pump, htrigger, recomputeAtRestart_supply]
  split_ifs with hlevel
  · simpa [hlevel] using h c
  · exact ⟨aim_framed _ (h c).framed, rfl, fun hh => by simp [hlevel] at hh, (h c).trigger⟩

theorem handOutputs_pumpsLawful {s : State} (h : PumpsLawful s) : PumpsLawful (handOutputs s) := by
  rw [handOutputs_eq]
  generalize standingActions s.tables s.engine.runs = acts
  have hrequest : PumpsLawful (s.withShedRequest (shedRequestOf acts)) :=
    SamePumps.lawful (s := s) ⟨fun _ => rfl, rfl, rfl, fun _ => rfl⟩ h
  have hreact := reactBoth_pumpsLawful (b := recomputeShed (s.withShedRequest (shedRequestOf acts)))
    (u := (recomputeShed (s.withShedRequest (shedRequestOf acts))).withReduce ⟨reduceOf .ab acts, reduceOf .ba acts⟩) rfl rfl
    (recomputeShed_pumpsLawful hrequest)
  exact SamePumps.lawful ⟨fun _ => rfl, rfl, rfl, fun _ => rfl⟩ hreact

theorem takeHandedLevel_pumpsLawful {s : State} (h : PumpsLawful s) : PumpsLawful (takeHandedLevel s) := by
  rw [pumpsLawful_iff] at *
  intro c
  have htrigger : Machine.trigger (takeHandedLevel s) c = Machine.trigger s c := by
    refine trigger_congr (sources_congr (.of_eq ?_) ?_ c) <;> simp
  rw [takeHandedLevel_pump, htrigger, (takeHandedLevel_frame s).2.2.2.2.2.2.2.2.2.2.2.2.1]
  exact catchUp_ok (h c)

theorem applyPump_pumpsLawful {s : State} {c : Channel} {r : PumpResult} (hr : PumpMove s c r) (h : PumpsLawful s) :
    PumpsLawful (applyPump c r s) := by
  rw [pumpsLawful_iff] at *
  intro d
  have htrigger : Machine.trigger (applyPump c r s) d = Machine.trigger s d := trigger_congr (sources_applyPump c d r s)
  rw [applyPump_pump, htrigger]
  split_ifs with hd
  · subst hd
    exact pumpMove_ok (s := s) hr (h d)
  · exact h d

theorem takePass_pumpsLawful {s : State} (h : PumpsLawful s) : PumpsLawful (takePass s) := by
  rw [takePass_eq]
  generalize visits s = vs
  have hruns : PumpsLawful (s.withRuns (vs.map Visit.run)) := SamePumps.lawful ⟨fun _ => rfl, rfl, rfl, fun _ => rfl⟩ h
  have hreports (u : State) (l : List Visit) : SamePumps u (takeReports s vs l u) := by
    refine ⟨fun c => ?_, ?_, ?_, sources_congr (alerts_takeReports s vs l u).lines ?_⟩ <;> simp only [takeReports_frame]
  have hpulses (u : State) (l : List Visit) : SamePumps u (takePulses l u) := by
    refine ⟨fun c => ?_, ?_, ?_, sources_congr (.of_eq ?_) ?_⟩ <;> simp only [takePulses_frame]
  have hsuppressions (u : State) (l : List Visit) : SamePumps u (takeSuppressions s vs l u) := by
    refine ⟨fun c => ?_, ?_, ?_, sources_congr (alerts_takeSuppressions s vs l u).lines ?_⟩ <;>
      simp only [takeSuppressions_frame]
  exact (hsuppressions _ vs).lawful (handOutputs_pumpsLawful ((hpulses _ vs).lawful ((hreports _ vs).lawful hruns)))

theorem takeConditionWrite_pumpsLawful (j : Nat) (x : Condition) {s : State} (h : PumpsLawful s) :
    PumpsLawful (takeConditionWrite j x s) := by
  have hreconfigure : SamePumps s (takeReconfigure j s) := by
    refine ⟨fun c => ?_, ?_, ?_, sources_congr (alerts_takeReconfigure j s).lines ?_⟩ <;> simp
  unfold takeConditionWrite
  dsimp only
  split_ifs
  · exact handOutputs_pumpsLawful (SamePumps.lawful ⟨fun _ => rfl, rfl, rfl, fun _ => rfl⟩ (hreconfigure.lawful h))
  · exact handOutputs_pumpsLawful (SamePumps.lawful ⟨fun _ => rfl, rfl, rfl, fun _ => rfl⟩ h)

theorem powerOn_pumpsLawful (addr : BitVec 6) (inputs : Byte) (s : State) : PumpsLawful (powerOn addr inputs s) := by
  rw [pumpsLawful_iff]
  intro c
  have hoff : ∀ trigger, Pump.powerOn.Ok 0 false trigger := fun trigger => by
    refine ⟨⟨?_, ?_, ?_, ?_, ?_, ?_, ?_, ?_, ?_⟩, ?_, ?_, ?_⟩
    case refine_10 => rfl
    all_goals simp [Pump.powerOn, Pump.atTarget]
  cases c <;> exact hoff _

theorem restartReset_pumpsLawful (addr : BitVec 6) {s : State} (h : PumpsLawful s) : PumpsLawful (restartReset addr s) := by
  rw [restartReset_eq]
  refine recomputeAtRestart_pumpsLawful ?_
  rw [pumpsLawful_iff] at *
  intro c
  refine (h c).of_trigger fun ht => ?_
  unfold Machine.trigger sources at ht ⊢
  have hline : ∀ a b c : Bool, (false || b || c) = true → (a || b || c) = true := by decide
  cases c <;> exact hline _ _ _ ht

theorem engine_reduce {i : Instr} {l : List Part} {s t : State} (he : Effect i l s t) (hl : Part.supply ∉ l) :
    t.engine.reduce = s.engine.reduce := by
  by_cases hframe : Part.engine ∉ l
  · exact congrArg Engine.reduce (he.changesOnly .engine hframe)
  cases he with
  | install a x s _ _ => rfl
  | passTimer u s _ => rfl
  | _ => simp [shedParts, resetParts] at hframe hl

theorem pumpsLawful_effect {i : Instr} {l : List Part} {s t : State} (he : Effect i l s t) (h : PumpsLawful s) :
    PumpsLawful t := by
  rcases he.lines_cases with hlines | ⟨-, ⟨u, hu, rfl⟩ | ⟨addr, inputs, rfl⟩⟩
  · by_cases hframe : Part.supply ∉ l ∧ Part.pump .ab ∉ l ∧ Part.pump .ba ∉ l
    · obtain ⟨hsupply, hab, hba⟩ := hframe
      have hs : t.supply = s.supply := he.changesOnly .supply hsupply
      refine SamePumps.lawful ⟨fun c => ?_, by rw [hs], by rw [hs], sources_congr hlines (engine_reduce he hsupply)⟩ h
      cases c with
      | ab => exact he.changesOnly (.pump .ab) hab
      | ba => exact he.changesOnly (.pump .ba) hba
    cases he with
    | powerOn addr inputs s _ => exact powerOn_pumpsLawful addr inputs s
    | restart addr s _ => exact restartReset_pumpsLawful addr h
    | line u s hu =>
      exact reactBoth_pumpsLawful (lineMove_pumps hu) (lineMove_changesOnly hu .supply (by simp)) h
    | shedForcing f s _ =>
      exact recomputeShed_pumpsLawful (SamePumps.lawful (s := s) ⟨fun _ => rfl, rfl, rfl, fun _ => rfl⟩ h)
    | condition j x s _ _ _ _ => exact takeConditionWrite_pumpsLawful j x h
    | supply v extra s hv _ =>
      obtain ⟨hlevel, hhanded⟩ := supplyMove_level hv
      exact recomputeShed_pumpsLawful (SamePumps.lawful (s := s) ⟨fun _ => rfl, hlevel, hhanded, fun _ => rfl⟩ h)
    | checkTimer u s => exact SamePumps.lawful (s := s) ⟨fun _ => rfl, rfl, rfl, fun _ => rfl⟩ h
    | brownOut s => exact recomputeShed_pumpsLawful (SamePumps.lawful (s := s) ⟨fun _ => rfl, rfl, rfl, fun _ => rfl⟩ h)
    | handedLevel s => exact takeHandedLevel_pumpsLawful h
    | pump c r s hr => exact applyPump_pumpsLawful hr h
    | pass s _ => exact takePass_pumpsLawful h
    | _ => exact absurd (by simp) hframe
  · exact reactBoth_pumpsLawful (lineMove_pumps hu) (lineMove_changesOnly hu .supply (by simp)) h
  · exact powerOn_pumpsLawful addr inputs s

/-! The Control Port (R144, R145). -/

/-- A word its owner may place: a register of its device, of the safety class only for SETPOINT. -/
structure PortWord.Good (w : PortWord) : Prop where
  register : w.register.ofDevice w.device = true
  safety : w.cls = .safety → w.register = .setpoint

/-- What PortLawful asks of the port. -/
structure ControlPort.Lawful (p : ControlPort) : Prop where
  keys : (p.words.map PortWord.key).Nodup
  good : ∀ w ∈ p.words, w.Good
  idle : p.transfer = none → p.words = []

theorem portLawful_iff (s : State) : PortLawful s ↔ s.port.Lawful := by
  constructor
  · rintro ⟨hkeys, hregister, hidle, hsafety⟩
    exact ⟨hkeys, fun w hw => ⟨hregister w hw, hsafety w hw⟩, hidle⟩
  · rintro ⟨hkeys, hgood, hidle⟩
    exact ⟨hkeys, fun w hw => (hgood w hw).register, hidle, fun w hw => (hgood w hw).safety⟩

theorem joinWord_good {w : PortWord} (hw : w.Good) {l : List PortWord} (hl : ∀ x ∈ l, x.Good) : ∀ x ∈ joinWord w l, x.Good := by
  induction l with
  | nil => simpa [joinWord] using hw
  | cons y l ih =>
    have hy := hl y List.mem_cons_self
    have hrest := fun x hx => hl x (List.mem_cons_of_mem y hx)
    simp only [joinWord]
    split_ifs with hkey
    · refine List.forall_mem_cons.2 ⟨⟨hy.register, fun hcls => ?_⟩, hrest⟩
      simp only [WordClass.higher] at hcls
      split_ifs at hcls
      · exact hy.safety hcls
      · exact hkey.2.trans (hw.safety hcls)
    · exact List.forall_mem_cons.2 ⟨hy, ih hrest⟩

theorem chooseWord_sublist {l r : List PortWord} {w : PortWord} (h : chooseWord l = some (w, r)) : r.Sublist l := by
  unfold chooseWord at h
  split at h
  next hsafety => exact (takeClass_spec _ _ _ _ (hsafety.trans h)).2.2
  · split at h
    next hpump => exact (takeClass_spec _ _ _ _ (hpump.trans h)).2.2
    · exact (takeClass_spec _ _ _ _ h).2.2

theorem arbitrate_lawful (t : Nat) {p : ControlPort} (hkeys : (p.words.map PortWord.key).Nodup) (hgood : ∀ w ∈ p.words, w.Good) :
    (p.arbitrate t).Lawful := by
  unfold ControlPort.arbitrate
  split
  next x hx => exact ⟨hkeys, hgood, fun h => absurd (hx.symm.trans h) (by simp)⟩
  · split
    next w rest hchoose =>
      have hsub := chooseWord_sublist hchoose
      exact ⟨(hsub.map PortWord.key).nodup hkeys, fun w hw => hgood w (hsub.subset hw), by simp⟩
    next hchoose => exact ⟨hkeys, hgood, fun _ => chooseWord_none _ hchoose⟩

theorem placeAll_lawful (t : Nat) {l : List PortWord} (hl : ∀ w ∈ l, w.Good) {p : ControlPort} (h : p.Lawful) :
    (ControlPort.placeAll t l p).Lawful := by
  induction l generalizing p with
  | nil => exact h
  | cons w l ih =>
    refine ih (fun x hx => hl x (List.mem_cons_of_mem w hx)) ?_
    exact arbitrate_lawful t (joinWord_keys_nodup w h.keys) (joinWord_good (hl w List.mem_cons_self) h.good)

/-! The words each owner places. -/

/-- A pump word of a driver's register, of the safety class only for SETPOINT. -/
def PumpWord.Good (w : PumpWord) : Prop := w.register.ofDevice .pumpAB = true ∧ (w.cls = .safety → w.register = .setpoint)

theorem good_on {w : PumpWord} (h : w.Good) (c : Channel) : (w.on c).Good :=
  ⟨by cases c <;> exact h.1, h.2⟩

theorem good_setpoint (n : Nat) (cls : WordClass) : PumpWord.Good ⟨.setpoint, n, cls⟩ := ⟨rfl, fun _ => rfl⟩

theorem good_clamp (n : Nat) : PumpWord.Good ⟨.clamp, n, .pump⟩ := ⟨rfl, fun hcls => by simp at hcls⟩

theorem good_enable (n : Nat) : PumpWord.Good ⟨.enable, n, .pump⟩ := ⟨rfl, fun hcls => by simp at hcls⟩

theorem good_statusRead (n : Nat) : PumpWord.Good ⟨.statusRead, n, .pump⟩ := ⟨rfl, fun hcls => by simp at hcls⟩

theorem follow_words (now : Nat) (p : Pump) : ∀ w ∈ (p.follow now).words, w.Good := by
  unfold Pump.follow
  split <;> simp [good_setpoint]

theorem retarget_words (now level : Nat) (p : Pump) : ∀ w ∈ (p.retarget now level).words, w.Good := by
  unfold Pump.retarget
  split_ifs
  · simp
  · exact follow_words now _

theorem catchUp_words (now : Nat) (p : Pump) : ∀ w ∈ (p.catchUp now).words, w.Good := by
  unfold Pump.catchUp
  split_ifs
  · simp
  · exact follow_words now _

theorem reduce_words (now : Nat) (p : Pump) : ∀ w ∈ (p.reduce now).words, w.Good := by
  simp [Pump.reduce, good_setpoint]

theorem appearance_words (now : Nat) (p : Pump) : ∀ w ∈ (p.appearance now).words, w.Good := by
  unfold Pump.appearance
  split
  case h_1 => exact reduce_words now p
  case h_2 => exact reduce_words now p
  case h_3 => exact reduce_words now p
  all_goals simp

theorem startWait_words (now level : Nat) (m : Mode) (p : Pump) : ∀ w ∈ (p.startWait now level m).words, w.Good := by
  simp [Pump.startWait, good_setpoint, good_clamp, good_enable]

theorem modeRequest_words (now level : Nat) (m : Mode) (p : Pump) : ∀ w ∈ (p.modeRequest now level m).words, w.Good := by
  unfold Pump.modeRequest
  split
  · simp
  · simp [Pump.stop, good_setpoint, good_enable]
  · exact startWait_words _ _ _ _
  · exact startWait_words _ _ _ _
  · exact retarget_words _ _ _

theorem driverFault_words (p : Pump) : ∀ w ∈ p.driverFault.words, w.Good := by
  unfold Pump.driverFault
  split <;> simp [good_setpoint, good_enable]

theorem settingsChange_words (now level : Nat) (t : PumpSettings) (p : Pump) :
    ∀ w ∈ (p.settingsChange now level t).words, w.Good := by
  intro w hw
  simp only [Pump.settingsChange, List.mem_append] at hw
  have only {x : PumpWord} (hx : x.Good) (hmem : w ∈ [x]) : w.Good := List.mem_singleton.1 hmem ▸ hx
  rcases hw with ((hw | hw) | hw) | hw
  · split_ifs at hw
    · exact only (good_setpoint _ _) hw
    · simp at hw
  · split_ifs at hw
    · exact only (good_setpoint _ _) hw
    · simp at hw
    · exact only (good_setpoint _ _) hw
    · simp at hw
  · split_ifs at hw
    · simp at hw
    · exact only (good_clamp _) hw
  · exact retarget_words _ _ _ w hw

theorem pumpMove_words {s : State} {c : Channel} {r : PumpResult} (h : PumpMove s c r) : ∀ w ∈ r.words, w.Good := by
  cases h with
  | settings => exact settingsChange_words _ _ _ _
  | mode m => exact modeRequest_words _ _ _ _
  | start _ =>
    unfold Pump.startExpiry
    split_ifs
    · exact reduce_words _ _
    · simp
  | ramp t _ =>
    unfold Pump.rampStep
    dsimp only
    split_ifs <;> simp [good_setpoint]
  | probe _ => simp [Pump.probeExpiry, good_setpoint]
  | probeEnd _ =>
    unfold Pump.probeEnd
    split_ifs
    · exact reduce_words _ _
    · simp
  | status t _ => simp [Pump.statusRead, good_statusRead]
  | fault => exact driverFault_words _

theorem restartWords_pump (p : Pump) : ∀ w ∈ p.restartWords, w.Good := by
  simp [Pump.restartWords, good_setpoint, good_clamp, good_enable]

theorem good_charger {r : Register} (n : Nat) (h : r.ofDevice .charger = true) : (chargerWord r n).Good :=
  ⟨h, fun hcls => by simp [chargerWord] at hcls⟩

theorem chargeWords_good (u v : Supply) : ∀ w ∈ chargeWords u v, w.Good := by
  have hcurrent : (currentWord v).Good := good_charger _ rfl
  have hvoltage : (voltageWord v).Good := good_charger _ rfl
  have henable (n : Nat) : (chargerWord .chargeEnable n).Good := good_charger n rfl
  unfold chargeWords
  split_ifs <;> simp [hcurrent, hvoltage, henable]

theorem restartWords_good (s : State) : ∀ w ∈ restartWords s, w.Good := by
  have hcurrent : (currentWord s.supply).Good := good_charger _ rfl
  have hvoltage : (voltageWord s.supply).Good := good_charger _ rfl
  have henable (n : Nat) : (chargerWord .chargeEnable n).Good := good_charger n rfl
  have hpump (p : Pump) (c : Channel) : ∀ w ∈ p.restartWords.map (PumpWord.on c), w.Good :=
    List.forall_mem_map.2 fun w hw => good_on (restartWords_pump p w hw) c
  unfold restartWords
  refine List.forall_mem_append.2 ⟨List.forall_mem_append.2 ⟨hpump _ _, hpump _ _⟩, ?_⟩
  split_ifs <;> simp [hcurrent, hvoltage, henable]

/-! The port in the machine. -/

theorem applyPump_portLawful {s : State} (c : Channel) {r : PumpResult} (hr : ∀ w ∈ r.words, w.Good) (h : s.port.Lawful) :
    (applyPump c r s).port.Lawful :=
  placeAll_lawful s.now (List.forall_mem_map.2 fun w hw => good_on (hr w hw) c) h

theorem retargetPumps_portLawful {s : State} (h : s.port.Lawful) : (retargetPumps s).port.Lawful :=
  applyPump_portLawful .ba (retarget_words _ _ _) (applyPump_portLawful .ab (retarget_words _ _ _) h)

theorem reactTo_portLawful (b : State) (c : Channel) {s : State} (h : s.port.Lawful) : (reactTo b c s).port.Lawful := by
  unfold reactTo
  split
  · exact applyPump_portLawful c (appearance_words _ _) h
  · exact h

theorem reactBoth_portLawful (b : State) {s : State} (h : s.port.Lawful) : (reactBoth b s).port.Lawful :=
  reactTo_portLawful b .ba (reactTo_portLawful b .ab h)

theorem recomputeShed_portLawful {s : State} (h : s.port.Lawful) : (recomputeShed s).port.Lawful := by
  by_cases hlevel : s.shedLevel = s.supply.level
  · rwa [recomputeShed_of_eq hlevel]
  · rw [recomputeShed_of_ne hlevel]
    exact retargetPumps_portLawful (s := writePoint 39 s.shedLevel .valid (s.withLevel s.shedLevel)) h

theorem handOutputs_portLawful {s : State} (h : s.port.Lawful) : (handOutputs s).port.Lawful := by
  rw [handOutputs_eq]
  exact reactBoth_portLawful _ (recomputeShed_portLawful
    (s := s.withShedRequest (shedRequestOf (standingActions s.tables s.engine.runs))) h)

theorem takePass_portLawful {s : State} (h : s.port.Lawful) : (takePass s).port.Lawful := by
  rw [takePass_eq]
  generalize visits s = vs
  have hport : (takePulses vs (takeReports s vs vs (s.withRuns (vs.map Visit.run)))).port = s.port := by
    simp only [takePulses_frame, takeReports_frame, State.withRuns]
  simp only [takeSuppressions_frame]
  exact handOutputs_portLawful (by rwa [hport])

theorem takeConditionWrite_portLawful (j : Nat) (c : Condition) {s : State} (h : s.port.Lawful) :
    (takeConditionWrite j c s).port.Lawful := by
  unfold takeConditionWrite
  dsimp only
  split_ifs
  · exact handOutputs_portLawful (by simpa using h)
  · exact handOutputs_portLawful h

theorem lineMove_port {s u : State} (h : LineMove s u) : u.port = s.port := lineMove_changesOnly h .port (by simp)

theorem idlePort_lawful : (⟨[], none, []⟩ : ControlPort).Lawful := ⟨List.nodup_nil, by simp, fun _ => rfl⟩

theorem powerOn_portLawful (t : Nat) : (ControlPort.powerOn t).Lawful := by
  refine ⟨by simp [ControlPort.powerOn, PortWord.key], ?_, by simp [ControlPort.powerOn]⟩
  have hpump (d : Device) (r : Register) (hr : r.ofDevice d = true) : PortWord.Good ⟨d, r, 0, .pump⟩ :=
    ⟨hr, fun hcls => by simp at hcls⟩
  simp only [ControlPort.powerOn, List.forall_mem_cons, List.not_mem_nil, false_implies, implies_true, and_true]
  exact ⟨hpump _ _ rfl, hpump _ _ rfl, hpump _ _ rfl, good_charger 0 rfl⟩

theorem portLawful_effect {i : Instr} {l : List Part} {s t : State} (he : Effect i l s t) (h : s.port.Lawful) :
    t.port.Lawful := by
  by_cases hframe : Part.port ∉ l
  · have hport : t.port = s.port := he.changesOnly .port hframe
    rwa [hport]
  cases he with
  | powerOn addr inputs s _ => exact powerOn_portLawful s.now
  | restart addr s _ =>
    rw [restartReset_eq, (recomputeAtRestart_frame _).2.2.2.2.2.2.2.2.2.2.2.2.1]
    exact placeAll_lawful s.now (restartWords_good s) idlePort_lawful
  | line u s hu => exact reactBoth_portLawful s (by rwa [lineMove_port hu])
  | shedForcing f s _ =>
    exact recomputeShed_portLawful (s := { s with agent := { s.agent with shedForce := f } }) h
  | condition j c s _ _ _ _ => exact takeConditionWrite_portLawful j c h
  | supply v extra s _ hextra =>
    refine recomputeShed_portLawful (s := applySupply v extra s) (placeAll_lawful s.now ?_ h)
    refine List.forall_mem_append.2 ⟨chargeWords_good _ _, ?_⟩
    rcases hextra with rfl | rfl
    · simp
    · simpa using good_charger 0 rfl
  | brownOut s => exact recomputeShed_portLawful (s := { s with supply := { s.supply with brownHold := 4 } }) h
  | handedLevel s =>
    exact applyPump_portLawful .ba (catchUp_words _ _) (applyPump_portLawful .ab (catchUp_words _ _) h)
  | pump c r s hr => exact applyPump_portLawful c (pumpMove_words hr) h
  | endTransfer d s => exact arbitrate_lawful (p := ⟨s.port.words, none, d⟩) s.now h.keys h.good
  | pass s _ => exact takePass_portLawful h
  | _ => exact absurd (by simp) hframe

end Sys2Proof.Machine

section

open Sys2Proof Sys2Proof.Machine

/-- Settles O56: each effect keeps the laws of both channels, and each keeps those of the Control Port. -/
theorem everyStepKeepsPumpsAndPort : Obligations.EveryStepKeepsPumpsAndPort := by
  unfold Obligations.EveryStepKeepsPumpsAndPort
  refine ⟨fun s t h => step_preserves (fun _ _ hs => hs) (fun _ _ _ _ he hs => pumpsLawful_effect he hs) h,
    fun s t h hstep => ?_⟩
  rw [portLawful_iff] at h ⊢
  exact step_preserves (P := fun u => u.port.Lawful) (fun _ _ hs => hs) (fun _ _ _ _ he hs => portLawful_effect he hs) h hstep

end

/-! PROOF. What the effects keep of the Sensor Poll Unit and of the scan in progress. -/

namespace Sys2Proof.Machine

/-! The Sensor Poll Unit (R77, R78). -/

/-- R75, R82, R84: what the operation in flight says of the unit. -/
structure BusOp.Fits (p : Poll) (o : BusOp) : Prop where
  index : o.index < 12
  valid : o.entry.valid = true
  read : o.kind = .read → p.bus = .busy
  recovery : o.kind = .recovery → p.bus = .fault
  startup : o.kind = .startup → p.bus = .idle ∧ p.watch = false

/-- What PollLawful asks of the unit on its own. -/
structure Poll.Lawful (p : Poll) : Prop where
  length : p.runs.length = 12
  active : ∀ i < 12, (p.run i).state = .active ↔ p.activeEntry = some i
  op : ∀ o, p.op = some o → o.Fits p
  bus : p.op = none → p.bus ≠ .busy
  attempts : ∀ r ∈ p.runs, r.attempts ≤ 3

theorem pollLawful_iff (s : State) : PollLawful s ↔ s.poll.Lawful ∧ (s.loader.autoload ≠ none → s.poll = Poll.atReset) := by
  constructor
  · rintro ⟨hlength, hactive, hop, hbus, hattempts, hreset⟩
    refine ⟨⟨hlength, fun i hi => hactive i (List.mem_range.2 hi), fun o ho => ?_, hbus, hattempts⟩, hreset⟩
    obtain ⟨h1, h2, h3, h4, h5⟩ := hop o ho
    exact ⟨h1, h2, h3, h4, h5⟩
  · rintro ⟨⟨hlength, hactive, hop, hbus, hattempts⟩, hreset⟩
    refine ⟨hlength, fun i hi => hactive i (List.mem_range.1 hi), fun o ho => ?_, hbus, hattempts, hreset⟩
    obtain ⟨h1, h2, h3, h4, h5⟩ := hop o ho
    exact ⟨h1, h2, h3, h4, h5⟩

theorem run_of_set {p : Poll} {j : Nat} (r : PollRun) {k : Nat} (hk : k < p.runs.length) :
    (p.runs.set j r).getD k ⟨.idle, 0, none⟩ = if k = j then r else p.run k := by
  rw [List.getD_eq_getElem?_getD]
  split_ifs with h
  · subst h
    simp [List.getElem?_set_self hk]
  · rw [List.getElem?_set_ne (Ne.symm h), ← List.getD_eq_getElem?_getD]
    rfl

theorem attempts_of_set {l : List PollRun} (j : Nat) {r : PollRun} (h : ∀ x ∈ l, x.attempts ≤ 3) (hr : r.attempts ≤ 3) :
    ∀ x ∈ l.set j r, x.attempts ≤ 3 := fun x hx =>
  (List.mem_or_eq_of_mem_set hx).elim (h x) fun hxr => hxr ▸ hr

theorem run_attempts {p : Poll} (h : p.Lawful) (j : Nat) : (p.run j).attempts ≤ 3 := by
  unfold Poll.run
  rw [List.getD_eq_getElem?_getD]
  cases hj : p.runs[j]? with
  | none => simp
  | some r => exact h.attempts r (List.mem_of_getElem? hj)

theorem run_atReset (j : Nat) : Poll.atReset.run j = ⟨.idle, 0, none⟩ := by
  unfold Poll.run
  rw [List.getD_eq_getElem?_getD]
  exact List.getElem?_getD_replicate_default_eq _ 12 j

theorem atReset_pollLawful : Poll.atReset.Lawful := by
  refine ⟨rfl, fun i hi => ?_, fun o ho => ?_, fun _ => ?_, fun r hr => ?_⟩
  · rw [run_atReset]
    simp [Poll.atReset, Poll.activeEntry]
  · simp [Poll.atReset] at ho
  · simp [Poll.atReset]
  · rw [List.eq_of_mem_replicate hr]
    exact Nat.zero_le 3

theorem activeEntry_of_none {p : Poll} (h : p.op = none) : p.activeEntry = none := by
  unfold Poll.activeEntry
  rw [h]

theorem activeEntry_of_some {p : Poll} {o : BusOp} (h : p.op = some o) :
    p.activeEntry = if o.kind = .startup ∨ o.discard = true then none else some o.index := by
  unfold Poll.activeEntry
  rw [h]

/-- A unit with no operation in flight after one that made entry `j` ACTIVE, or none: only `j` need have moved on. -/
theorem released_lawful {p q : Poll} (h : p.Lawful) (hop : q.op = none) (hbus : q.bus ≠ .busy) (hlength : q.runs.length = 12)
    (hidle : ∀ k < 12, (q.run k).state = .active → p.activeEntry ≠ some k ∧ (p.run k).state = .active)
    (hattempts : ∀ r ∈ q.runs, r.attempts ≤ 3) : q.Lawful := by
  refine ⟨hlength, fun k hk => ?_, fun o ho => by simp [hop] at ho, fun _ => hbus, hattempts⟩
  rw [activeEntry_of_none hop]
  refine ⟨fun hk' => ?_, fun hk' => by simp at hk'⟩
  obtain ⟨hne, hactive⟩ := hidle k hk hk'
  exact absurd ((h.active k hk).1 hactive) hne

/-- A marked operation ended: no entry was ACTIVE. -/
theorem unmarked_lawful {p q : Poll} (h : p.Lawful) (hnone : p.activeEntry = none) (hop : q.op = none) (hbus : q.bus ≠ .busy)
    (hruns : q.runs = p.runs) : q.Lawful := by
  refine released_lawful h hop hbus (hruns ▸ h.length) (fun k hk hactive => ?_) (hruns ▸ h.attempts)
  have hp : (p.run k).state = .active := by
    unfold Poll.run at hactive ⊢
    rwa [hruns] at hactive
  exact ⟨by simp [hnone], hp⟩

/-- The operation of entry `j` ended with a run that is not ACTIVE. -/
theorem ended_lawful {p q : Poll} {j : Nat} {r : PollRun} (h : p.Lawful) (hj : p.activeEntry = some j)
    (hr : r.state ≠ .active) (hle : r.attempts ≤ 3) (hop : q.op = none) (hbus : q.bus ≠ .busy)
    (hruns : q.runs = p.runs.set j r) : q.Lawful := by
  have hrun {k : Nat} (hk : k < 12) : q.run k = if k = j then r else p.run k := by
    unfold Poll.run
    rw [hruns]
    exact run_of_set r (h.length.symm ▸ hk)
  refine released_lawful h hop hbus (by simp [hruns, h.length]) (fun k hk hactive => ?_) (hruns ▸ attempts_of_set j h.attempts hle)
  rw [hrun hk] at hactive
  split_ifs at hactive with hkj
  · exact absurd hactive hr
  · exact ⟨by simpa [hj] using Ne.symm hkj, hactive⟩

/-- An operation begun on entry `j`, which becomes ACTIVE as no other is. -/
theorem granted_lawful {p q : Poll} {o : BusOp} (h : p.Lawful) (hother : ∀ k < 12, k ≠ o.index → (p.run k).state ≠ .active)
    (n : Nat) (hn : n ≤ 3) (hop : q.op = some o) (hmark : o.kind ≠ .startup ∧ o.discard = false) (hfits : o.Fits q)
    (hruns : q.runs = p.runs.set o.index ⟨.active, n, none⟩) : q.Lawful := by
  obtain ⟨hkind, hdiscard⟩ := hmark
  refine ⟨by simp [hruns, h.length], fun k hk => ?_, fun o' ho' => ?_, fun hnone => by simp [hop] at hnone,
    hruns ▸ attempts_of_set _ h.attempts hn⟩
  · have hrun : q.run k = if k = o.index then ⟨.active, n, none⟩ else p.run k := by
      unfold Poll.run
      rw [hruns]
      exact run_of_set _ (h.length.symm ▸ hk)
    rw [hrun, activeEntry_of_some hop]
    split_ifs with hko hcond hcond
    · exact absurd hcond (by simp [hkind, hdiscard])
    · simp [hko]
    · exact absurd hcond (by simp [hkind, hdiscard])
    · simpa [Ne.symm hko] using hother k hk hko
  · rw [hop] at ho'
    obtain rfl := Option.some.inj ho'
    exact hfits

theorem pollEntry_valid {t : Tables} (ht : t.good) {j : Nat} (hj : j < 12) : (t.pollEntry j).valid = true := by
  obtain ⟨-, -, -, -, ⟨hlength, hgood⟩, -⟩ := ht
  unfold Tables.pollEntry
  rw [List.getD_eq_getElem?_getD, List.getElem?_eq_getElem (hlength ▸ hj)]
  exact (hgood _ (List.getElem_mem _)).1

theorem retryLimit_le {e : PollEntry} (h : e.valid = true) : e.retryLimit ≤ 3 := by
  simp only [PollEntry.valid, Bool.and_eq_true, decide_eq_true_eq] at h
  exact h.2

theorem grant_lawful {t : Tables} {p : Poll} (ht : t.good) (h : p.Lawful) : (p.grant t).Lawful := by
  unfold Poll.grant
  split
  case h_2 => exact h
  case h_1 j hop hdue =>
    have hj : j < 12 := List.mem_range.1 (List.mem_of_find?_eq_some hdue)
    have hother : ∀ k < 12, k ≠ j → (p.run k).state ≠ .active := fun k hk _ hactive => by
      have := (h.active k hk).1 hactive
      simp [activeEntry_of_none hop] at this
    dsimp only
    split_ifs with hfault
    · exact granted_lawful (o := ⟨.recovery, j, t.pollEntry j, false⟩) h hother _ (run_attempts h j) rfl ⟨by simp, rfl⟩
        ⟨hj, pollEntry_valid ht hj, by simp, fun _ => hfault, by simp⟩ rfl
    · exact granted_lawful (o := ⟨.read, j, t.pollEntry j, false⟩) h hother _ (run_attempts h j) rfl ⟨by simp, rfl⟩
        ⟨hj, pollEntry_valid ht hj, fun _ => rfl, by simp, by simp⟩ rfl

/-- R81: no run is ACTIVE after a bus fault. -/
theorem faultRun_state (now : Nat) (e : PollEntry) (r : PollRun) : (faultRun now e r).state ≠ .active := by
  unfold faultRun
  split
  case h_4 hs => simp [hs]
  case h_5 hs => simp [hs]
  all_goals simp

theorem faultRun_attempts (now : Nat) (e : PollEntry) {r : PollRun} (h : r.attempts ≤ 3) : (faultRun now e r).attempts ≤ 3 := by
  unfold faultRun
  split
  case h_4 => exact h
  case h_5 => exact h
  all_goals exact Nat.zero_le 3

theorem run_of_range {p : Poll} {f : Nat → PollRun} (hruns : p.runs = (List.range 12).map f) {k : Nat} (hk : k < 12) :
    p.run k = f k := by
  unfold Poll.run
  rw [hruns, List.getD_eq_getElem?_getD]
  simp [hk]

theorem pollMove_lawful {s : State} {q : Poll} (hq : PollMove s q) (ht : s.tables.good) (h : s.poll.Lawful) : q.Lawful := by
  have hfits {o : BusOp} (ho : s.poll.op = some o) : o.Fits s.poll := h.op o ho
  cases hq with
  | grant => exact grant_lawful ht h
  | thrown o d ho hread hmark =>
    exact unmarked_lawful h (by simp [activeEntry_of_some ho, hmark]) rfl (by simp [Poll.freed]) rfl
  | ended o d r ho hread hmark hr hattempts =>
    refine ended_lawful h (j := o.index) (r := r) (by simp [activeEntry_of_some ho, hmark, hread]) hr ?_ rfl
      (by simp [Poll.setRun, Poll.freed]) rfl
    exact hattempts.elim (fun h0 => by omega) fun hle => hle.trans (retryLimit_le (hfits ho).valid)
  | due j hj _ =>
    refine ⟨by simp [Poll.setRun, h.length], fun k hk => ?_, fun o ho => ?_, h.bus,
      attempts_of_set j h.attempts (run_attempts h j)⟩
    · have hrun : (s.poll.setRun j ⟨.due, (s.poll.run j).attempts, none⟩).run k =
          if k = j then ⟨.due, (s.poll.run j).attempts, none⟩ else s.poll.run k := run_of_set _ (h.length.symm ▸ hk)
      have hentry : (s.poll.setRun j ⟨.due, (s.poll.run j).attempts, none⟩).activeEntry = s.poll.activeEntry := rfl
      rw [hrun, hentry]
      split_ifs with hkj
      · subst hkj
        exact ⟨fun hc => by simp at hc, fun hc => absurd ((h.active k hk).2 hc) hj⟩
      · exact h.active k hk
    · obtain ⟨h1, h2, h3, h4, h5⟩ := hfits ho
      exact ⟨h1, h2, h3, h4, h5⟩
  | fault _ =>
    refine released_lawful h rfl (by simp) (by simp) (fun k hk hactive => ?_) (fun r hr => ?_)
    · rw [run_of_range (f := fun j => faultRun s.now (s.tables.pollEntry j) (s.poll.run j)) rfl hk] at hactive
      exact absurd hactive (faultRun_state _ _ _)
    · obtain ⟨k, -, rfl⟩ := List.mem_map.1 hr
      exact faultRun_attempts _ _ (run_attempts h k)
  | recoveredMarked o ho hkind hmark =>
    exact unmarked_lawful h (by simp [activeEntry_of_some ho, hmark]) rfl (by simp) rfl
  | recovered o ho hkind hmark =>
    have hj := (hfits ho).index
    have hactive : s.poll.activeEntry = some o.index := by simp [activeEntry_of_some ho, hmark, hkind]
    refine granted_lawful (p := s.poll) (o := ⟨.read, o.index, s.tables.pollEntry o.index, false⟩) h (fun k hk hne hk' => ?_) 0
      (Nat.zero_le 3) rfl ⟨by simp, rfl⟩ ⟨hj, pollEntry_valid ht hj, fun _ => rfl, by simp, by simp⟩ rfl
    have hindex := (h.active k hk).1 hk'
    rw [hactive] at hindex
    exact hne (Option.some.inj hindex).symm
  | lowMarked o ho hkind hmark =>
    have hbus := (hfits ho).recovery hkind
    exact unmarked_lawful h (by simp [activeEntry_of_some ho, hmark]) rfl (by simp [hbus]) rfl
  | low o t ho hkind hmark =>
    have hbus := (hfits ho).recovery hkind
    exact ended_lawful h (j := o.index) (r := ⟨.failed, 0, some t⟩) (by simp [activeEntry_of_some ho, hmark, hkind]) (by simp)
      (Nat.zero_le 3) rfl (by simp [Poll.setRun, hbus]) rfl
  | restart j r _ hj hr =>
    have hstate : r.state ≠ .active ∧ r.attempts ≤ 3 := by rcases hr with rfl | rfl <;> simp
    refine ⟨by simp [Poll.setRun, h.length], fun k hk => ?_, fun o ho => ?_, fun hnone => h.bus (by simpa using hnone),
      attempts_of_set j h.attempts hstate.2⟩
    · generalize hq : ({ s.poll.setRun j r with op := s.poll.op.map _ } : Poll) = q
      have hrun : q.run k = if k = j then r else s.poll.run k := by
        rw [← hq]
        exact run_of_set _ (h.length.symm ▸ hk)
      have hactive := h.active k hk
      cases hop : s.poll.op with
      | none =>
        have hentry : q.activeEntry = none := activeEntry_of_none (by rw [← hq]; simp [hop])
        rw [activeEntry_of_none hop] at hactive
        rw [hrun, hentry]
        split_ifs
        · simp [hstate.1]
        · simpa using hactive
      | some o =>
        have hentry := activeEntry_of_some (p := q)
          (o := if o.index = j ∧ o.kind ≠ .startup then { o with discard := true } else o) (by rw [← hq]; simp [hop])
        rw [activeEntry_of_some hop] at hactive
        rw [hrun, hentry]
        by_cases hkj : k = j
        · subst hkj
          simp only [if_true, hstate.1, false_iff]
          split_ifs <;> simp_all
        · rw [if_neg hkj, hactive]
          by_cases hoj : o.index = j
          · by_cases hs : o.kind = .startup <;> simp [hoj, hs, Ne.symm hkj]
          · simp [hoj]
    · obtain ⟨o', ho', rfl⟩ := Option.map_eq_some_iff.1 ho
      obtain ⟨h1, h2, h3, h4, h5⟩ := hfits ho'
      split_ifs <;> exact ⟨h1, h2, h3, h4, h5⟩
  | startup o ho hkind =>
    obtain ⟨hbus, -⟩ := (hfits ho).startup hkind
    refine released_lawful h rfl (by simp [hbus]) (by simp) (fun k hk hactive => ?_) (fun r hr => ?_)
    · rw [run_of_range (f := fun j => if (s.tables.pollEntry j).inUse then ⟨.due, 0, none⟩ else s.poll.run j) rfl hk] at hactive
      split_ifs at hactive
      · exact ⟨by simp [activeEntry_of_some ho, hkind], hactive⟩
    · obtain ⟨k, -, rfl⟩ := List.mem_map.1 hr
      split_ifs
      · exact Nat.zero_le 3
      · exact run_attempts h k

/-- During an autoload the unit makes no move but the grant that grants nothing. -/
theorem pollMove_atReset {s : State} {q : Poll} (hq : PollMove s q) (hautoload : s.loader.autoload ≠ none)
    (h : s.poll = Poll.atReset) : q = Poll.atReset := by
  have hop {o : BusOp} (ho : s.poll.op = some o) : False := by
    rw [h] at ho
    simp [Poll.atReset] at ho
  cases hq with
  | grant =>
    rw [h]
    rfl
  | thrown o _ ho => exact (hop ho).elim
  | ended o _ _ ho => exact (hop ho).elim
  | due j _ htime =>
    rw [h, run_atReset] at htime
    exact absurd rfl htime
  | fault hwatch =>
    rw [h] at hwatch
    simp [Poll.atReset] at hwatch
  | recoveredMarked o ho => exact (hop ho).elim
  | recovered o ho => exact (hop ho).elim
  | lowMarked o ho => exact (hop ho).elim
  | low o _ ho => exact (hop ho).elim
  | restart _ _ gate => exact absurd gate.autoload hautoload
  | startup o ho => exact (hop ho).elim

/-- Only a reset starts an autoload (R161). -/
theorem Effect.autoload_started {i : Instr} {l : List Part} {s t : State} (he : Effect i l s t) (hl : Part.cuts ∉ l ∨ Part.points ∉ l)
    (h : t.loader.autoload ≠ none) : s.loader.autoload ≠ none := by
  by_cases hframe : Part.loader ∉ l
  · have hloader : t.loader = s.loader := he.changesOnly .loader hframe
    rwa [hloader] at h
  cases he with
  | beginStore m s _ _ => exact h
  | endStore good st m n s _ _ => rwa [endStore_loader] at h
  | commit st s _ _ => exact h
  | loader u s hu =>
    cases hu with
    | drove d => exact h
    | retry a a' ha => simp [ha]
    | cycle st u d _ _ => exact h
  | install a x s ha _ => simp [ha]
  | _ => simp [shedParts, resetParts] at hframe hl

theorem pollLawful_effect {i : Instr} {l : List Part} {s t : State} (he : Effect i l s t) (htables : s.tables.good)
    (h : PollLawful s) : PollLawful t := by
  rw [pollLawful_iff] at h ⊢
  obtain ⟨hlaw, hreset⟩ := h
  by_cases hframe : Part.poll ∉ l
  · have hpoll : t.poll = s.poll := he.changesOnly .poll hframe
    have hstarted : t.loader.autoload ≠ none → s.loader.autoload ≠ none := by
      refine he.autoload_started ?_
      cases he <;> simp_all [resetParts, shedParts]
    exact ⟨hpoll ▸ hlaw, fun ha => hpoll.trans (hreset (hstarted ha))⟩
  cases he with
  | powerOn addr inputs s _ => exact ⟨atReset_pollLawful, fun _ => rfl⟩
  | restart addr s _ =>
    have hpoll : (restartReset addr s).poll = Poll.atReset := by simp [restartReset]
    rw [hpoll]
    exact ⟨atReset_pollLawful, fun _ => rfl⟩
  | install a x s ha _ =>
    have hpoll := hreset (by simp [ha])
    have hinstalled : (startBlocks (installTables x s)).poll = { Poll.atReset with op := some ⟨.startup, 0, builtinPoll, false⟩ } := by
      rw [← hpoll]
      rfl
    rw [hinstalled]
    refine ⟨⟨rfl, fun k hk => ?_, fun o ho => ?_, fun hn => by simp at hn, atReset_pollLawful.attempts⟩, fun hn => ?_⟩
    · exact atReset_pollLawful.active k hk
    · obtain rfl := Option.some.inj ho
      exact ⟨by simp, rfl, by simp, by simp, fun _ => ⟨rfl, rfl⟩⟩
    · exact absurd rfl hn
  | poll q s hq => exact ⟨pollMove_lawful hq htables hlaw, fun ha => pollMove_atReset hq ha (hreset ha)⟩
  | _ => exact absurd (by simp [shedParts]) hframe

/-! The scan in progress (R57 to R60). -/

theorem nextConversion_slot {t : ScanTable} {now slot : Nat} {k : Conversion} (h : nextConversion t now slot = some k) :
    k.slot < t.count := by
  unfold nextConversion at h
  split_ifs at h with hslot
  obtain rfl := Option.some.inj h
  exact hslot

theorem scan_count_pos {t : ScanTable} (h : t.good) : 0 < t.count := by
  have hvalid := h.1
  simp only [ScanTable.valid, Bool.and_eq_true, decide_eq_true_eq] at hvalid
  obtain ⟨⟨⟨⟨hpos, -⟩, -⟩, -⟩, -⟩ := hvalid
  exact hpos

/-- R57: the channel of a slot in use. -/
theorem channelOf_le {t : ScanTable} (h : t.good) {slot : Nat} (hslot : slot < t.count) : t.channelOf slot ≤ 15 := by
  obtain ⟨hvalid, hlength, -⟩ := h
  simp only [ScanTable.valid, Bool.and_eq_true, decide_eq_true_eq, List.all_eq_true] at hvalid
  obtain ⟨⟨⟨⟨-, hcount⟩, hchannels⟩, -⟩, -⟩ := hvalid
  have hget : slot < t.channels.length := by omega
  have hmem : t.channels[slot] ∈ t.channels.take t.count := by
    rw [List.mem_take_iff_getElem]
    exact ⟨slot, by simp [hslot, hget], rfl⟩
  unfold ScanTable.channelOf
  rw [List.getD_eq_getElem?_getD, List.getElem?_eq_getElem hget]
  exact hchannels _ hmem

theorem conversionDone_conversion (slot code : Nat) (s : State) :
    (conversionDone slot code s).sampling.conversion = nextConversion s.tables.scan s.now slot := by
  simp [conversionDone]

theorem scanLawful_effect {i : Instr} {l : List Part} {s t : State} (he : Effect i l s t) (htables : s.tables.good)
    (h : ScanLawful s) : ScanLawful t := by
  have hscan : s.tables.scan.good := htables.2.1
  by_cases hframe : Part.sampling ∉ l ∧ Part.tables ∉ l
  · obtain ⟨hsampling, htab⟩ := hframe
    have hs : t.sampling = s.sampling := he.changesOnly .sampling hsampling
    have ht : t.tables = s.tables := he.changesOnly .tables htab
    unfold ScanLawful
    rw [hs, ht]
    exact h
  cases he with
  | powerOn addr inputs s _ => exact fun k hk => by simp [Machine.powerOn, State.reset, Sampling.atReset] at hk
  | restart addr s _ => exact fun k hk => by simp [restartReset, Sampling.atReset] at hk
  | install a x s _ hx =>
    intro k hk
    obtain rfl : ⟨0, (installTables x s).now + conversionTime⟩ = k := by simpa [startBlocks, startScan] using hk
    refine scan_count_pos ?_
    cases x with
    | none => exact hscan
    | some x => exact (hx x rfl).2.1
  | entry u s hu =>
    intro k hk
    rw [hu.scan]
    exact h k hk
  | scanList u s _ _ => exact fun k hk => by simp [takeScanList, discardChannels] at hk
  | condition j c s _ _ _ _ =>
    unfold ScanLawful
    rw [takeConditionWrite_tables, show (takeConditionWrite j c s).sampling = s.sampling by simp [takeConditionWrite, apply_ite]]
    exact h
  | sampling u s hu =>
    intro k hk
    cases hu with
    | quiet t => exact h k hk
    | scan now =>
      obtain rfl := Option.some.inj hk
      exact scan_count_pos hscan
    | settle pick =>
      unfold abandon at hk
      split at hk
      next k' hk' =>
        split_ifs at hk
        · exact nextConversion_slot hk
        · exact h k hk
      · exact h k hk
  | sample k' code s _ =>
    intro k hk
    rw [conversionDone_conversion] at hk
    rw [show (conversionDone k'.slot code s).tables = s.tables by simp]
    exact nextConversion_slot hk
  | _ => exact absurd (by simp [shedParts]) hframe

end Sys2Proof.Machine

/-! PROOF. O55: the state points, 30 to 45, hold their owners' states. -/

namespace Sys2Proof.Machine

/-- The owners' states, in the order of points 30 to 45 (section 5.2). -/
def State.owners (s : State) : List Int :=
  [s.ports.a.lastWindow, s.ports.b.lastWindow, s.ports.a.lineState.code, s.ports.b.lineState.code,
    bit s.ports.a.ufm, bit s.ports.b.ufm, bit s.ports.a.rfm, bit s.ports.b.rfm,
    s.supply.zone.code, s.supply.level, s.supply.pv.code, s.pumps.ab.state.code, s.pumps.ba.state.code,
    contactCode s.agent.contacts, inputSum 0 s.points.inputs, s.loader.source.code]

/-- Points 30 to 45 hold what a list says. -/
structure State.Shows (s : State) (l : List Int) : Prop where
  length : s.points.recs.length = 46
  reads : ∀ j < 16, s.reads (30 + j) (l.getD j 0)

theorem statePointsAgree_iff (s : State) : StatePointsAgree s ↔ s.Shows s.owners := by
  constructor
  · rintro ⟨hlength, h30, h31, h32, h33, h34, h35, h36, h37, h38, h39, h40, h41, h42, h43, h44, h45⟩
    refine ⟨hlength, fun j hj => ?_⟩
    interval_cases j <;> assumption
  · rintro ⟨hlength, h⟩
    exact ⟨hlength, h 0 (by simp), h 1 (by simp), h 2 (by simp), h 3 (by simp), h 4 (by simp), h 5 (by simp), h 6 (by simp),
      h 7 (by simp), h 8 (by simp), h 9 (by simp), h 10 (by simp), h 11 (by simp), h 12 (by simp), h 13 (by simp),
      h 14 (by simp), h 15 (by simp)⟩

/-! How the state points move. -/

theorem Shows.of_points {s t : State} {l : List Int} (h : s.Shows l) (hlength : t.points.recs.length = s.points.recs.length)
    (hpoint : ∀ k, 30 ≤ k → (t.point k).value = (s.point k).value ∧ (t.point k).validity = (s.point k).validity) : t.Shows l := by
  refine ⟨hlength.trans h.length, fun j hj => ?_⟩
  obtain ⟨hvalue, hvalidity⟩ := hpoint (30 + j) (by omega)
  exact ⟨hvalue.trans (h.reads j hj).1, hvalidity.trans (h.reads j hj).2⟩

theorem Shows.of_recs {s t : State} {l : List Int} (h : s.Shows l) (hrecs : t.points.recs = s.points.recs) : t.Shows l := by
  have hpoint (k : Nat) : t.point k = s.point k := by rw [State.point, hrecs]; rfl
  exact Shows.of_points h (congrArg List.length hrecs) fun k _ => by simp [hpoint]

/-- Measurements and span losses, points 0 to 29, are none of the state points. -/
theorem Shows.of_pointsOnly {s t : State} {l : List Int} {m : List Nat} (h : s.Shows l)
    (hlength : t.points.recs.length = s.points.recs.length) (hpoint : pointsOnly m s t) (hm : ∀ k ∈ m, k < 30) : t.Shows l :=
  Shows.of_points h hlength fun k hk => by
    rw [hpoint k fun hmem => absurd (hm k hmem) (by omega)]
    exact ⟨rfl, rfl⟩

theorem point_recs_set {s t : State} {k : Nat} {p : Point} (hrecs : t.points.recs = s.points.recs.set k p) (i : Nat)
    (hk : k < s.points.recs.length) : t.point i = if i = k then p else s.point i := by
  rw [State.point, hrecs, List.getD_eq_getElem?_getD]
  split_ifs with h
  · subst h
    simp [List.getElem?_set_self hk]
  · rw [List.getElem?_set_ne (Ne.symm h), ← List.getD_eq_getElem?_getD]
    rfl

/-- A state point written. -/
theorem Shows.set {s t : State} {l : List Int} {j : Nat} {v : Int} (h : s.Shows l) (hl : l.length = 16) (hj : j < 16)
    (hrecs : t.points.recs = s.points.recs.set (30 + j) ⟨v, .valid, 0⟩) : t.Shows (l.set j v) := by
  refine ⟨by simp [hrecs, h.length], fun k hk => ?_⟩
  rw [State.reads, point_recs_set hrecs _ (by rw [h.length]; omega)]
  by_cases hkj : k = j
  · subst hkj
    rw [if_pos rfl, List.getD_eq_getElem?_getD, List.getElem?_set_self (hl ▸ hk)]
    exact ⟨rfl, rfl⟩
  · rw [if_neg (by omega), List.getD_eq_getElem?_getD, List.getElem?_set_ne (Ne.symm hkj), ← List.getD_eq_getElem?_getD]
    exact h.reads k hk

/-- The same owners' states. -/
structure SameOwners (s t : State) : Prop where
  lines : SameLines s.ports t.ports
  zone : t.supply.zone = s.supply.zone
  level : t.supply.level = s.supply.level
  pv : t.supply.pv = s.supply.pv
  pumps : ∀ c, (t.pumps.get c).state = (s.pumps.get c).state
  contacts : contactCode t.agent.contacts = contactCode s.agent.contacts
  inputs : inputSum 0 t.points.inputs = inputSum 0 s.points.inputs
  source : t.loader.source = s.loader.source

theorem SameOwners.owners {s t : State} (h : SameOwners s t) : t.owners = s.owners := by
  obtain ⟨hlines, hzone, hlevel, hpv, hpumps, hcontacts, hinputs, hsource⟩ := h
  have ha := hlines .a
  have hb := hlines .b
  have hab := hpumps .ab
  have hba := hpumps .ba
  simp only [LinePort.lineView, Pair.get, Duo.get, Prod.mk.injEq] at ha hb hab hba
  obtain ⟨ha1, ha2, ha3, ha4, -⟩ := ha
  obtain ⟨hb1, hb2, hb3, hb4, -⟩ := hb
  unfold State.owners
  rw [ha1, ha2, ha3, ha4, hb1, hb2, hb3, hb4, hzone, hlevel, hpv, hab, hba, hcontacts, hinputs, hsource]

theorem length_owners (s : State) : s.owners.length = 16 := rfl

/-- Points 30 to 45 hold their owners' states. -/
def State.Agrees (s : State) : Prop := s.Shows s.owners

theorem Agrees.of_recs {s t : State} (h : s.Agrees) (hrecs : t.points.recs = s.points.recs) (howners : t.owners = s.owners) :
    t.Agrees := by
  rw [State.Agrees, howners]
  exact Shows.of_recs h hrecs

theorem Agrees.of_pointsOnly {s t : State} {m : List Nat} (h : s.Agrees) (howners : t.owners = s.owners)
    (hlength : t.points.recs.length = s.points.recs.length) (hpoint : pointsOnly m s t) (hm : ∀ k ∈ m, k < 30) : t.Agrees := by
  rw [State.Agrees, howners]
  exact Shows.of_pointsOnly h hlength hpoint hm

/-- One owner's new state written to its point. -/
theorem Agrees.set {s t : State} {j : Nat} {v : Int} (h : s.Agrees) (hj : j < 16)
    (hrecs : t.points.recs = s.points.recs.set (30 + j) ⟨v, .valid, 0⟩) (howners : t.owners = s.owners.set j v) : t.Agrees := by
  rw [State.Agrees, howners]
  exact Shows.set h (length_owners s) hj hrecs

theorem applyPump_agrees {s : State} (c : Channel) (r : PumpResult) (h : s.Agrees) : (applyPump c r s).Agrees := by
  by_cases hstate : r.pump.state = (s.pumps.get c).state
  · refine Agrees.of_recs h (by simp [applyPump, hstate]) ?_
    cases c <;> simp_all [State.owners, applyPump, Duo.set, Duo.get]
  · have hrecs : (applyPump c r s).points.recs = s.points.recs.set (pumpPoint c) ⟨r.pump.state.code, .valid, 0⟩ := by
      simp [applyPump, hstate, PointTable.write]
    cases c with
    | ab => exact Agrees.set (j := 11) h (by simp) hrecs (by simp [State.owners, applyPump, hstate, PointTable.write, Duo.set])
    | ba => exact Agrees.set (j := 12) h (by simp) hrecs (by simp [State.owners, applyPump, hstate, PointTable.write, Duo.set])

theorem retargetPumps_agrees {s : State} (h : s.Agrees) : (retargetPumps s).Agrees :=
  applyPump_agrees .ba _ (applyPump_agrees .ab _ h)

theorem resolveOutputs_agrees {s : State} (h : s.Agrees) : (resolveOutputs s).Agrees := Agrees.of_recs h rfl rfl

theorem reactTo_agrees (b : State) (c : Channel) {s : State} (h : s.Agrees) : (reactTo b c s).Agrees := by
  unfold reactTo
  split_ifs
  · exact applyPump_agrees c _ h
  · exact h

theorem reactBoth_agrees (b : State) {s : State} (h : s.Agrees) : (reactBoth b s).Agrees :=
  reactTo_agrees b .ba (reactTo_agrees b .ab h)

theorem recomputeShed_agrees {s : State} (h : s.Agrees) : (recomputeShed s).Agrees := by
  by_cases hlevel : s.shedLevel = s.supply.level
  · rwa [recomputeShed_of_eq hlevel]
  · rw [recomputeShed_of_ne hlevel]
    refine resolveOutputs_agrees (retargetPumps_agrees ?_)
    exact Agrees.set (j := 9) (v := s.shedLevel) h (by simp) rfl rfl

/-- The zone, then the PV state, each written where it changed. -/
theorem applySupply_agrees (v : Supply) (extra : List PortWord) {s : State} (hlevel : v.level = s.supply.level) (h : s.Agrees) :
    (applySupply v extra s).Agrees := by
  let s1 : State := { s with
    supply := { s.supply with zone := v.zone }
    points := if v.zone = s.supply.zone then s.points else s.points.write (s.deadline 38) 38 v.zone.code .valid }
  have hzone : s1.Agrees := by
    by_cases hz : v.zone = s.supply.zone
    · refine Agrees.of_recs h (by simp [s1, hz]) (by simp [s1, State.owners, hz])
    · exact Agrees.set (j := 8) (v := v.zone.code) h (by simp) (by simp [s1, hz, PointTable.write])
        (by simp [s1, State.owners, hz, PointTable.write])
  by_cases hpv : v.pv = s.supply.pv
  · refine Agrees.of_recs hzone (by simp [applySupply, s1, hpv]) ?_
    simp [applySupply, s1, State.owners, hpv, hlevel]
  · refine Agrees.set (j := 10) (v := v.pv.code) hzone (by simp) (by simp [applySupply, s1, hpv, PointTable.write]) ?_
    simp [applySupply, s1, State.owners, hpv, hlevel, PointTable.write]

theorem handOutputs_agrees {s : State} (h : s.Agrees) : (handOutputs s).Agrees := by
  rw [handOutputs_eq]
  have hshed := recomputeShed_agrees (s := s.withShedRequest (shedRequestOf (standingActions s.tables s.engine.runs)))
    (Agrees.of_recs h rfl rfl)
  refine resolveOutputs_agrees (Agrees.of_recs (reactBoth_agrees _ ?_) rfl rfl)
  exact Agrees.of_recs hshed rfl rfl

/-! The line's own events. -/

theorem reevaluate_agrees (x : Side) {s : State} (h : s.Agrees) : (reevaluate x s).Agrees := by
  by_cases hstate : (s.at x).lineStateNow s.tables.line.threshold = (s.at x).lineState
  · rwa [reevaluate_of_eq hstate]
  · rw [reevaluate_of_ne hstate]
    cases x with
    | a => exact Agrees.set (j := 2) h (by simp) rfl rfl
    | b => exact Agrees.set (j := 3) h (by simp) rfl rfl

theorem spanLoss_length (x : Side) (s : State) : (spanLoss x s).points.recs.length = s.points.recs.length := by
  obtain ⟨v, validity, h⟩ := spanLoss_eq_writePoint x s
  simp [h]

theorem spanLoss_agrees (x : Side) {s : State} (h : s.Agrees) : (spanLoss x s).Agrees := by
  refine Agrees.of_pointsOnly h ?_ (spanLoss_length x s) (spanLoss_pointsOnly x s) (by cases x <;> simp [lossPoint])
  obtain ⟨v, validity, hs⟩ := spanLoss_eq_writePoint x s
  rw [hs]
  rfl

theorem takeLaunch_agrees (x : Side) (v : Int) {s : State} (h : s.Agrees) : (takeLaunch x v s).Agrees :=
  spanLoss_agrees x (Agrees.of_recs h rfl rfl)

theorem header_agrees (x : Side) (m : Header) {s : State} (h : s.Agrees) :
    (writePoint (rfmPoint x) (bit m.rfm) .valid
      (writePoint (ufmPoint x) (bit m.ufm) .valid (s.setPort x ((s.at x).record m)))).Agrees := by
  let s1 : State := writePoint (ufmPoint x) (bit m.ufm) .valid (s.setPort x { s.at x with ufm := m.ufm })
  have hufm : s1.Agrees := by
    cases x with
    | a => exact Agrees.set (j := 4) h (by simp) rfl rfl
    | b => exact Agrees.set (j := 5) h (by simp) rfl rfl
  have hrecs : (writePoint (rfmPoint x) (bit m.rfm) .valid
      (writePoint (ufmPoint x) (bit m.ufm) .valid (s.setPort x ((s.at x).record m)))).points.recs =
        s1.points.recs.set (rfmPoint x) ⟨bit m.rfm, .valid, 0⟩ := rfl
  have howners : (writePoint (rfmPoint x) (bit m.rfm) .valid
      (writePoint (ufmPoint x) (bit m.ufm) .valid (s.setPort x ((s.at x).record m)))).owners =
        s1.owners.set (match x with | .a => 6 | .b => 7) (bit m.rfm) := by
    cases x <;>
      simp [s1, State.owners, writePoint, PointTable.write, State.setPort, State.at, Pair.set, Pair.get, LinePort.record]
  cases x with
  | a => exact Agrees.set (s := s1) (j := 6) (v := bit m.rfm) hufm (by simp) hrecs howners
  | b => exact Agrees.set (s := s1) (j := 7) (v := bit m.rfm) hufm (by simp) hrecs howners

theorem resync_lines {s : State} {x : Side} {p : LinePort} (h : (s.at x).Resync p) : SameLines s.ports (s.setPort x p).ports :=
  sameLines_set _ _ (by unfold LinePort.lineView; rw [h.lastWindow, h.lineState, h.ufm, h.rfm, h.rfmRun]; rfl)

theorem lineMove_agrees {s u : State} (hu : LineMove s u) (h : s.Agrees) : u.Agrees := by
  cases hu with
  | resync x p hp =>
    exact reevaluate_agrees x (Agrees.of_recs h rfl
      (SameOwners.owners ⟨resync_lines hp, rfl, rfl, rfl, fun _ => rfl, rfl, rfl, rfl⟩))
  | window x =>
    refine reevaluate_agrees x ?_
    cases x with
    | a => exact Agrees.set (j := 0) h (by simp) rfl rfl
    | b => exact Agrees.set (j := 1) h (by simp) rfl rfl
  | header x m _ =>
    dsimp only
    split_ifs
    · exact takeLaunch_agrees x _ (header_agrees x m h)
    · exact header_agrees x m h
  | settings => exact reevaluate_agrees .b (reevaluate_agrees .a h)

/-! The Point Table's own events. -/

theorem older_agrees {s : State} (h : s.Agrees) : ({ s with points := s.points.older } : State).Agrees := by
  refine Shows.of_points h (by simp [PointTable.older]) fun k _ => ?_
  simp only [State.point, PointTable.older, List.getD_eq_getElem?_getD, List.getElem?_map]
  cases s.points.recs[k]? <;> exact ⟨rfl, rfl⟩

theorem stale_pointsOnly (j : Nat) (s : State) : pointsOnly [j] s { s with points := s.points.stale j } := by
  intro k hk
  simp only [List.mem_singleton] at hk
  simp [State.point, PointTable.stale, List.getD_eq_getElem?_getD, Ne.symm hk]

theorem inputSum_congr {l m : List Input} (h : l.map Input.debounced = m.map Input.debounced) (k : Nat) :
    inputSum k l = inputSum k m := by
  induction l generalizing m k with
  | nil =>
    cases m with
    | nil => rfl
    | cons y m => simp at h
  | cons x l ih =>
    cases m with
    | nil => simp at h
    | cons y m =>
      simp only [List.map_cons, List.cons.injEq] at h
      simp only [inputSum, h.1, ih h.2 (k + 1)]

/-- An input replaced by one with the same debounced level. -/
theorem inputSum_set {p : PointTable} {j : Nat} {n : Input} (h : n.debounced = (p.input j).debounced) :
    inputSum 0 (p.inputs.set j n) = inputSum 0 p.inputs := by
  refine inputSum_congr ?_ 0
  rw [List.map_set, h]
  unfold PointTable.input
  by_cases hj : j < p.inputs.length
  · rw [List.getD_eq_getElem?_getD, List.getElem?_eq_getElem hj]
    refine List.ext_getElem (by simp) fun k hk _ => ?_
    rw [List.getElem_set]
    split_ifs with hjk
    · subst hjk
      simp
    · rfl
  · exact List.set_eq_of_length_le (by simpa using Nat.le_of_not_lt hj)

theorem pointMove_agrees {s : State} {p : PointTable} (hp : PointMove s p) (h : s.Agrees) :
    ({ s with points := p } : State).Agrees := by
  cases hp with
  | older => exact older_agrees h
  | stale j hj =>
    exact Agrees.of_pointsOnly h rfl (by simp [PointTable.stale]) (stale_pointsOnly j s) (by simp; omega)
  | launch l => exact Agrees.of_recs h rfl rfl
  | input j n hn =>
    exact Agrees.of_recs h rfl
      (SameOwners.owners ⟨SameLines.refl _, rfl, rfl, rfl, fun _ => rfl, rfl, inputSum_set hn, rfl⟩)

theorem debounce_agrees (j : Nat) {s : State} (h : s.Agrees) : (debounce j s).Agrees := by
  by_cases hraw : (s.points.input j).raw = (s.points.input j).debounced
  · rw [debounce_of_eq hraw]
    exact pointMove_agrees (.input j _ rfl) h
  · rw [debounce_of_ne hraw]
    exact Agrees.set (j := 14) h (by simp) rfl rfl

theorem setContacts_agrees (c : Pair (Option Nat)) {s : State} (h : s.Agrees) : (setContacts c s).Agrees := by
  by_cases hcode : contactCode c = contactCode s.agent.contacts
  · exact Agrees.of_recs h (by simp [setContacts, hcode]) (by simp [setContacts, State.owners, hcode])
  · exact Agrees.set (j := 13) (v := contactCode c) h (by simp) (by simp [setContacts, hcode, PointTable.write])
      (by simp [setContacts, State.owners, hcode, PointTable.write])

/-! Measurements (chapters 3 and 4). -/

theorem afterUpdate_pointsOnly (k : Nat) (s : State) : pointsOnly [28, 29] s (afterUpdate k s) := by
  unfold afterUpdate
  split_ifs
  · exact (spanLoss_pointsOnly .a s).mono (by simp [lossPoint])
  · exact (spanLoss_pointsOnly .b s).mono (by simp [lossPoint])
  · exact pointsOnly_refl _ s

theorem keepSample_pointsOnly (ch : Nat) (v : Int × Validity) (seeding : Bool) (s : State) :
    pointsOnly [ch, 28, 29] s (keepSample ch v seeding s) := by
  unfold keepSample
  dsimp only
  refine pointsOnly.trans (l := [ch]) ?_ (afterUpdate_pointsOnly ch _) (by simp) (by simp)
  exact writePoint_pointsOnly ch _ v.2 _

theorem brownOutCompare_points (ch : Nat) (v : Int) (s : State) : (brownOutCompare ch v s).points = s.points := by
  unfold brownOutCompare
  split_ifs <;> rfl

theorem conversionDone_pointsOnly (slot code : Nat) (s : State) :
    pointsOnly [s.tables.scan.channelOf slot, 28, 29] s (conversionDone slot code s) := by
  have hkeep (v : Int × Validity) (b : Bool) : pointsOnly [s.tables.scan.channelOf slot, 28, 29] s
      (keepSample (s.tables.scan.channelOf slot) v b (brownOutCompare (s.tables.scan.channelOf slot) v.1 s)) := by
    intro k hk
    rw [keepSample_pointsOnly _ v b _ k hk, State.point, brownOutCompare_points]
    rfl
  have hcode : pointsOnly [s.tables.scan.channelOf slot, 28, 29] s
      (handleCode (s.tables.scan.channelOf slot) code s) := by
    unfold handleCode
    dsimp only
    split
    · exact fun _ _ => rfl
    · exact hkeep _ true
    · exact hkeep _ false
  exact fun k hk => hcode k hk

theorem afterUpdate_tables (k : Nat) (s : State) : (afterUpdate k s).points.recs.length = s.points.recs.length ∧
    (afterUpdate k s).points.inputs = s.points.inputs := by
  have hloss (x : Side) : (spanLoss x s).points.recs.length = s.points.recs.length ∧
      (spanLoss x s).points.inputs = s.points.inputs := by
    obtain ⟨v, validity, h⟩ := spanLoss_eq_writePoint x s
    rw [h]
    exact ⟨writePoint_recs_length _ _ _ _, rfl⟩
  unfold afterUpdate
  split_ifs
  · exact hloss .a
  · exact hloss .b
  · exact ⟨rfl, rfl⟩

theorem conversionDone_tables (slot code : Nat) (s : State) :
    (conversionDone slot code s).points.recs.length = s.points.recs.length ∧
      (conversionDone slot code s).points.inputs = s.points.inputs := by
  have hkeep (ch : Nat) (v : Int × Validity) (b : Bool) (u : State) (hu : u.points = s.points) :
      (keepSample ch v b u).points.recs.length = s.points.recs.length ∧
        (keepSample ch v b u).points.inputs = s.points.inputs := by
    unfold keepSample
    dsimp only
    refine ⟨(afterUpdate_tables _ _).1.trans ?_, (afterUpdate_tables _ _).2.trans ?_⟩
    · rw [writePoint_recs_length, hu]
    · show u.points.inputs = s.points.inputs
      rw [hu]
  unfold conversionDone handleCode
  dsimp only
  split
  · exact ⟨rfl, rfl⟩
  · exact hkeep _ _ true _ (brownOutCompare_points _ _ s)
  · exact hkeep _ _ false _ (brownOutCompare_points _ _ s)

/-! Resets and the end of an autoload. -/

theorem powerOn_agrees (addr : BitVec 6) (inputs : Byte) (s : State) : (Machine.powerOn addr inputs s).Agrees := by
  refine ⟨rfl, fun j hj => ?_⟩
  interval_cases j <;> exact ⟨rfl, rfl⟩

theorem recsAtRestart_eq (l : List Point) {k : Nat} (hk : 30 ≤ k) (h43 : k ≠ 43) (h45 : k ≠ 45) :
    (recsAtRestart l).getD k unwritten = l.getD k unwritten := by
  unfold recsAtRestart
  rw [List.getD_eq_getElem?_getD, List.getElem?_set_ne (Ne.symm h45), List.getElem?_set_ne (Ne.symm h43),
    List.getElem?_append_right (by simpa using hk), List.getElem?_drop, List.getD_eq_getElem?_getD]
  simp only [List.length_replicate]
  rw [show 30 + (k - 30) = k by omega]

theorem length_recsAtRestart {l : List Point} (h : l.length = 46) : (recsAtRestart l).length = 46 := by
  simp [recsAtRestart, h]

theorem restartBase_agrees (addr : BitVec 6) {s : State} (h : s.Agrees) : (restartBase addr s).Agrees := by
  have howners : (restartBase addr s).owners = (s.owners.set 13 0).set 15 1 := rfl
  have hlength : (restartBase addr s).points.recs.length = 46 := length_recsAtRestart h.length
  refine ⟨hlength, fun j hj => ?_⟩
  have hkept : j ≠ 13 → j ≠ 15 → (restartBase addr s).reads (30 + j) ((restartBase addr s).owners.getD j 0) := by
    intro h13 h15
    have hpoint : (restartBase addr s).point (30 + j) = s.point (30 + j) :=
      recsAtRestart_eq _ (by omega) (by omega) (by omega)
    rw [State.reads, hpoint, howners, List.getD_eq_getElem?_getD, List.getElem?_set_ne (Ne.symm h15),
      List.getElem?_set_ne (Ne.symm h13), ← List.getD_eq_getElem?_getD]
    exact h.reads j hj
  have hwritten (k : Nat) (hk : k = 43 ∨ k = 45) :
      (restartBase addr s).point k = if k = 45 then fresh 1 else fresh 0 := by
    show (recsAtRestart s.points.recs).getD k unwritten = _
    rcases hk with rfl | rfl <;> simp [recsAtRestart, h.length]
  by_cases h13 : j = 13
  · subst h13
    rw [State.reads, hwritten 43 (.inl rfl)]
    exact ⟨rfl, rfl⟩
  by_cases h15 : j = 15
  · subst h15
    rw [State.reads, hwritten 45 (.inr rfl)]
    exact ⟨rfl, rfl⟩
  exact hkept h13 h15

theorem restartReset_agrees (addr : BitVec 6) {s : State} (h : s.Agrees) : (restartReset addr s).Agrees := by
  have hbase := restartBase_agrees addr h
  rw [restartReset_eq]
  generalize restartBase addr s = b at hbase ⊢
  unfold recomputeAtRestart
  refine resolveOutputs_agrees ?_
  split_ifs
  · exact hbase
  · exact Agrees.set (j := 9) (v := b.shedLevel) hbase (by simp) rfl rfl

theorem install_agrees (x : Option Tables) {s : State} (h : s.Agrees) : (startBlocks (installTables x s)).Agrees := by
  have hinstall : (installTables x s).Agrees := Agrees.set (j := 15) h (by simp) rfl rfl
  exact Agrees.of_recs hinstall rfl rfl

/-! The passes of the Condition Engine. -/

theorem takePass_agrees {s : State} (h : s.Agrees) : (takePass s).Agrees := by
  rw [takePass_eq]
  generalize visits s = vs
  have hruns : (s.withRuns (vs.map Visit.run)).Agrees := Agrees.of_recs h rfl rfl
  have hreports (u : State) (l : List Visit) (hu : u.Agrees) : (takePulses vs (takeReports s vs l u)).Agrees := by
    refine Agrees.of_recs hu (by simp) (SameOwners.owners ⟨?_, ?_, ?_, ?_, fun _ => ?_, ?_, ?_, ?_⟩)
    · rw [show (takePulses vs (takeReports s vs l u)).ports = (takeReports s vs l u).ports by simp]
      exact (alerts_takeReports s vs l u).lines
    all_goals simp
  have hsuppressions (u : State) (l : List Visit) (hu : u.Agrees) : (takeSuppressions s vs l u).Agrees := by
    refine Agrees.of_recs hu (by simp) (SameOwners.owners ⟨(alerts_takeSuppressions s vs l u).lines, ?_, ?_, ?_, fun _ => ?_, ?_, ?_, ?_⟩)
    all_goals simp
  exact hsuppressions _ _ (handOutputs_agrees (hreports _ _ hruns))

theorem takeReconfigure_agrees (j : Nat) {s : State} (h : s.Agrees) : (takeReconfigure j s).Agrees := by
  refine Agrees.of_recs h (by simp) (SameOwners.owners ⟨(alerts_takeReconfigure j s).lines, ?_, ?_, ?_, fun _ => ?_, ?_, ?_, ?_⟩)
  all_goals simp

theorem takeConditionWrite_agrees (j : Nat) (c : Condition) {s : State} (h : s.Agrees) : (takeConditionWrite j c s).Agrees := by
  unfold takeConditionWrite
  dsimp only
  refine handOutputs_agrees (Agrees.of_recs (s := if _ then _ else s) ?_ rfl rfl)
  split_ifs
  · exact takeReconfigure_agrees j h
  · exact h

/-! Every effect. -/

theorem transmit_contacts (x : Side) (s : State) : (transmit x s).agent.contacts = s.agent.contacts := rfl

theorem restartBody_contacts (m : Sender) (s : State) : (restartBody m s).state.agent.contacts = s.agent.contacts := by
  unfold restartBody
  split
  · rfl
  · rfl

theorem endStore_contacts (good : Bool) (s : State) : (endStore good s).agent.contacts = s.agent.contacts := by
  unfold endStore
  split <;> rfl

/-- An effect that writes no point changes no owner's state. -/
theorem effect_sameOwners {i : Instr} {l : List Part} {s t : State} (he : Effect i l s t) (hpoints : Part.points ∉ l) :
    SameOwners s t := by
  have hlines : SameLines s.ports t.ports := by
    rcases he.lines_cases with h | ⟨h, -⟩
    · exact h
    · exact absurd h hpoints
  have hinputs : inputSum 0 t.points.inputs = inputSum 0 s.points.inputs := by
    rw [show t.points = s.points from he.changesOnly .points hpoints]
  have hpumps (c : Channel) : t.pumps.get c = s.pumps.get c := by
    refine he.changesOnly (.pump c) fun hc => hpoints ?_
    cases he <;> simp_all [resetParts, shedParts]
  have hsupply : t.supply.zone = s.supply.zone ∧ t.supply.level = s.supply.level ∧ t.supply.pv = s.supply.pv := by
    by_cases hframe : Part.supply ∉ l
    · rw [show t.supply = s.supply from he.changesOnly .supply hframe]
      exact ⟨rfl, rfl, rfl⟩
    cases he with
    | checkTimer u s => exact ⟨rfl, rfl, rfl⟩
    | _ => simp [resetParts, shedParts] at hframe hpoints
  have hcontacts : t.agent.contacts = s.agent.contacts := by
    by_cases hframe : Part.agent ∉ l
    · rw [show t.agent = s.agent from he.changesOnly .agent hframe]
    cases he with
    | transmit x s => exact transmit_contacts x s
    | control c s _ => rfl
    | note a s ha => exact ha.contacts
    | outForcing f s => rfl
    | beginStore m s _ _ => rfl
    | beginRestart m s _ => exact restartBody_contacts m s
    | endStore good st m n s _ _ => exact endStore_contacts good _
    | _ => simp [resetParts, shedParts] at hframe hpoints
  have hsource : t.loader.source = s.loader.source := by
    by_cases hframe : Part.loader ∉ l
    · rw [show t.loader = s.loader from he.changesOnly .loader hframe]
    cases he with
    | beginStore m s _ _ => rfl
    | endStore good st m n s _ _ => rw [endStore_loader]
    | commit st s _ _ => rfl
    | loader u s hu => cases hu <;> rfl
    | _ => simp [resetParts, shedParts] at hframe hpoints
  obtain ⟨hzone, hlevel, hpv⟩ := hsupply
  exact ⟨hlines, hzone, hlevel, hpv, fun c => congrArg Pump.state (hpumps c), congrArg contactCode hcontacts, hinputs, hsource⟩

theorem agrees_effect {i : Instr} {l : List Part} {s t : State} (he : Effect i l s t) (htables : s.tables.good)
    (hscan : ScanLawful s) (hpoll : s.poll.Lawful) (h : s.Agrees) : t.Agrees := by
  by_cases hframe : Part.points ∉ l
  · exact Agrees.of_recs h (congrArg PointTable.recs (he.changesOnly .points hframe)) (effect_sameOwners he hframe).owners
  cases he with
  | powerOn addr inputs s _ => exact powerOn_agrees addr inputs s
  | restart addr s _ => exact restartReset_agrees addr h
  | line u s hu => exact reactBoth_agrees s (lineMove_agrees hu h)
  | contacts c s _ => exact setContacts_agrees c h
  | shedForcing f s _ =>
    exact recomputeShed_agrees (s := { s with agent := { s.agent with shedForce := f } }) (Agrees.of_recs h rfl rfl)
  | install a x s _ _ => exact install_agrees x h
  | condition j c s _ _ _ _ => exact takeConditionWrite_agrees j c h
  | sample k code s hk =>
    refine Agrees.of_pointsOnly h ?_ (conversionDone_tables _ _ s).1 (conversionDone_pointsOnly _ _ s) ?_
    · refine SameOwners.owners ⟨SameLines.of_eq (by simp), ?_, ?_, ?_, fun _ => ?_, ?_,
        congrArg (inputSum 0) (conversionDone_tables _ _ s).2, ?_⟩
      all_goals simp
    · have hchannel := channelOf_le htables.2.1 (hscan k hk)
      simp only [List.forall_mem_cons]
      exact ⟨by omega, by simp⟩
  | measure j v x s hj _ =>
    obtain ⟨o, ho, rfl⟩ := hj
    have hindex := (hpoll.op o ho).index
    exact Agrees.of_pointsOnly h rfl (by simp) (writePoint_pointsOnly _ _ _ _) (by simp [pollPoint]; omega)
  | lose j s hj =>
    have hindex : j < 12 := hj.elim id fun ⟨o, ho, hoj⟩ => hoj ▸ (hpoll.op o ho).index
    exact Agrees.of_pointsOnly h rfl (by simp [invalidate]) (invalidate_pointsOnly _ _) (by simp [pollPoint]; omega)
  | points p s hp => exact pointMove_agrees hp h
  | spanLoss x s => exact spanLoss_agrees x h
  | debounce j s => exact debounce_agrees j h
  | supply v extra s hv _ => exact recomputeShed_agrees (applySupply_agrees v extra (supplyMove_level hv).1 h)
  | brownOut s =>
    exact recomputeShed_agrees (s := { s with supply := { s.supply with brownHold := 4 } }) (Agrees.of_recs h rfl rfl)
  | handedLevel s =>
    refine applyPump_agrees .ba _ (applyPump_agrees .ab _ ?_)
    exact Agrees.of_recs h rfl rfl
  | pump c r s _ => exact applyPump_agrees c r h
  | pass s _ => exact takePass_agrees h
  | _ => exact absurd (by simp) hframe

end Sys2Proof.Machine

section

open Sys2Proof Sys2Proof.Machine

/-- Settles O55: each effect writes the point of every owner's state it changes. The laws of the tables, the scan and the
bus, kept beside it, say that no measurement is written to a state point. -/
theorem everyStepKeepsStatePointsTrue : Obligations.EveryStepKeepsStatePointsTrue := by
  intro s t h htables hscan hpoll hstep
  rw [statePointsAgree_iff] at h ⊢
  refine (step_preserves (P := fun u => u.Agrees ∧ u.tables.good ∧ ScanLawful u ∧ PollLawful u) (fun _ _ hs => ⟨⟨hs.1.length, hs.1.reads⟩, hs.2⟩)
    (fun _ _ _ _ he hs => ?_) ⟨h, htables.1, hscan, hpoll⟩ hstep).1
  obtain ⟨ha, ht, hk, hp⟩ := hs
  exact ⟨agrees_effect he ht hk ((pollLawful_iff _).1 hp).1 ha, tables_good_effect he ht, scanLawful_effect he ht hk,
    pollLawful_effect he ht hp⟩

end

/-! PROOF. O60: the polls, the scan, the filters and the point records. -/

namespace Sys2Proof.Machine

/-! The filters (R69). -/

theorem breakpoint_signed {c : Curve} (hc : c.good) (k : Nat) : isSigned16 (c.breakpoint k).2 := by
  obtain ⟨-, -, hpoints⟩ := hc
  unfold Curve.breakpoint
  rw [List.getD_eq_getElem?_getD]
  cases hk : c.points[k]? with
  | none => exact ⟨by simp, by simp⟩
  | some q => exact (hpoints q (List.mem_of_getElem? hk)).2

theorem curveConvert_signed {c : Curve} (hc : c.good) (code : Nat) : isSigned16 (curveConvert c.used code).1 := by
  obtain ⟨hlo, hhi⟩ := curveConvert_within hc code
  obtain ⟨h0, h0'⟩ := breakpoint_signed hc 0
  obtain ⟨h1, h1'⟩ := breakpoint_signed hc (c.count - 1)
  constructor <;> omega

theorem convert_signed {t : Tables} (ht : t.good) (cal : Calibration) (code : Nat) :
    isSigned16 (convert t.curves cal code).1 := by
  obtain ⟨-, -, -, ⟨-, hcurves⟩, -⟩ := ht
  unfold convert
  split
  · exact linear_signed _ _ _
  · refine curveConvert_signed ?_ code
    rw [List.getD_eq_getElem?_getD]
    cases hk : t.curves[cal.curve]? with
    | none => exact builtinCurve_good
    | some c => exact hcurves c (List.mem_of_getElem? hk)

/-- R69: the filter stays within the range of a point. -/
theorem filterStep_signed {avg v : Int} (k : Nat) (havg : isSigned16 avg) (hv : isSigned16 v) : isSigned16 (filterStep avg v k) := by
  obtain ⟨hup, hdown⟩ := filterStep_between avg v k
  obtain ⟨ha, ha'⟩ := havg
  obtain ⟨hv, hv'⟩ := hv
  rcases le_total avg v with h | h
  · obtain ⟨h1, h2⟩ := hup h
    constructor <;> omega
  · obtain ⟨h1, h2⟩ := hdown h
    constructor <;> omega

/-- What FiltersLawful asks of the Sampling Unit. -/
structure Sampling.Filters (u : Sampling) : Prop where
  settle : u.settle.length = 16
  length : u.accumulator.length = 16
  accumulator : ∀ v ∈ u.accumulator, isSigned16 v

theorem filtersLawful_iff (s : State) : FiltersLawful s ↔ s.sampling.Filters :=
  ⟨fun ⟨h1, h2, h3⟩ => ⟨h1, h2, h3⟩, fun ⟨h1, h2, h3⟩ => ⟨h1, h2, h3⟩⟩

theorem accumulator_signed {u : Sampling} (h : u.Filters) (ch : Nat) : isSigned16 (u.accumulator.getD ch 0) := by
  rw [List.getD_eq_getElem?_getD]
  cases hk : u.accumulator[ch]? with
  | none => exact ⟨by simp, by simp⟩
  | some v => exact h.accumulator v (List.mem_of_getElem? hk)

theorem atReset_filters : Sampling.atReset.Filters := by
  refine ⟨rfl, rfl, fun v hv => ?_⟩
  rw [List.eq_of_mem_replicate hv]
  exact ⟨by simp, by simp⟩

theorem samplingMove_filters {s : State} {u : Sampling} (hu : SamplingMove s u) (h : s.sampling.Filters) : u.Filters := by
  cases hu with
  | quiet t => exact ⟨h.settle, h.length, h.accumulator⟩
  | scan now => exact ⟨h.settle, h.length, h.accumulator⟩
  | settle pick =>
    have hdiscard : (discardChannels pick s.sampling).Filters := ⟨by simp [discardChannels], h.length, h.accumulator⟩
    unfold abandon
    split
    · split_ifs
      · exact ⟨hdiscard.settle, hdiscard.length, hdiscard.accumulator⟩
      · exact hdiscard
    · exact hdiscard

/-- The value a kept conversion gives the filter and the point. -/
def keptValue (ch : Nat) (v : Int) (seeding : Bool) (s : State) : Int :=
  if seeding then v
  else filterStep (s.sampling.accumulator.getD ch 0) v (s.tables.cals.getD ch ⟨.linear, 1024, 0, 0, 2⟩).shift

theorem keptValue_signed (ch : Nat) {v : Int} (seeding : Bool) {s : State} (hv : isSigned16 v) (h : s.sampling.Filters) :
    isSigned16 (keptValue ch v seeding s) := by
  unfold keptValue
  split_ifs
  · exact hv
  · exact filterStep_signed _ (accumulator_signed h ch) hv

theorem keepSample_sampling (ch : Nat) (v : Int × Validity) (seeding : Bool) (s : State) :
    (keepSample ch v seeding s).sampling =
      { s.sampling with
        settle := s.sampling.settle.set ch .filtering
        accumulator := s.sampling.accumulator.set ch (keptValue ch v.1 seeding s) } := by
  simp [keepSample, keptValue]

theorem keepSample_filters {ch : Nat} {v : Int × Validity} (seeding : Bool) {s : State} (hv : isSigned16 v.1)
    (h : s.sampling.Filters) : (keepSample ch v seeding s).sampling.Filters := by
  rw [keepSample_sampling]
  refine ⟨by simp [h.settle], by simp [h.length], fun x hx => ?_⟩
  exact (List.mem_or_eq_of_mem_set hx).elim (h.accumulator x) fun hxv => hxv ▸ keptValue_signed ch seeding hv h

theorem brownOutCompare_sampling (ch : Nat) (v : Int) (s : State) : (brownOutCompare ch v s).sampling = s.sampling := by
  unfold brownOutCompare
  split_ifs <;> rfl

theorem conversionDone_filters {slot code : Nat} {s : State} (ht : s.tables.good) (h : s.sampling.Filters) :
    (conversionDone slot code s).sampling.Filters := by
  have hv := convert_signed ht (s.tables.cals.getD (s.tables.scan.channelOf slot) ⟨.linear, 1024, 0, 0, 2⟩) code
  have hkeep (v : Int) (b : Bool) := keepSample_filters (ch := s.tables.scan.channelOf slot) b hv
    (s := brownOutCompare (s.tables.scan.channelOf slot) v s) (by rwa [brownOutCompare_sampling])
  have hcode : (handleCode (s.tables.scan.channelOf slot) code s).sampling.Filters := by
    unfold handleCode
    dsimp only
    split
    · exact ⟨by simp [h.settle], h.length, h.accumulator⟩
    · exact hkeep _ true
    · exact hkeep _ false
  exact ⟨hcode.settle, hcode.length, hcode.accumulator⟩

theorem filters_effect {i : Instr} {l : List Part} {s t : State} (he : Effect i l s t) (ht : s.tables.good)
    (h : s.sampling.Filters) : t.sampling.Filters := by
  by_cases hframe : Part.sampling ∉ l
  · have hs : t.sampling = s.sampling := he.changesOnly .sampling hframe
    rwa [hs]
  cases he with
  | powerOn addr inputs s _ => exact atReset_filters
  | restart addr s _ =>
    rw [show (restartReset addr s).sampling = Sampling.atReset by simp [restartReset]]
    exact atReset_filters
  | install a x s _ _ => exact ⟨h.settle, h.length, h.accumulator⟩
  | scanList u s _ _ => exact ⟨by simp [takeScanList, discardChannels], h.length, h.accumulator⟩
  | sampling u s hu => exact samplingMove_filters hu h
  | sample k code s _ => exact conversionDone_filters ht h
  | _ => exact absurd (by simp [shedParts]) hframe

/-! The point records (R85 to R88). -/

/-- What RecordsLawful asks of the Point Table. -/
structure PointTable.Lawful (p : PointTable) : Prop where
  recs : p.recs.length = 46
  deadlines : p.deadlines.length = 28
  inputs : p.inputs.length = 8
  values : ∀ r ∈ p.recs, isSigned16 r.value ∧ r.age ≤ 255
  held : ∀ k < 28, p.deadlines.getD k none ≠ none → (p.recs.getD k unwritten).validity ≠ .invalid

theorem recordsLawful_iff (s : State) : RecordsLawful s ↔ s.points.Lawful :=
  ⟨fun ⟨h1, h2, h3, h4, h5⟩ => ⟨h1, h2, h3, h4, fun k hk => h5 k (List.mem_range.2 hk)⟩,
    fun ⟨h1, h2, h3, h4, h5⟩ => ⟨h1, h2, h3, h4, fun k hk => h5 k (List.mem_range.1 hk)⟩⟩

theorem unwritten_signed : isSigned16 unwritten.value ∧ unwritten.age ≤ 255 := ⟨⟨by simp [unwritten], by simp [unwritten]⟩, by simp [unwritten]⟩

theorem record_signed {p : PointTable} (h : p.Lawful) (k : Nat) :
    isSigned16 (p.recs.getD k unwritten).value ∧ (p.recs.getD k unwritten).age ≤ 255 := by
  rw [List.getD_eq_getElem?_getD]
  cases hk : p.recs[k]? with
  | none => exact unwritten_signed
  | some r => exact h.values r (List.mem_of_getElem? hk)

/-- A record and its deadline replaced, the deadline held only by a record that is not INVALID. -/
theorem replaced_lawful {p q : PointTable} {j : Nat} {r : Point} {d : Option Nat} (h : p.Lawful)
    (hrecs : q.recs = p.recs.set j r) (hdeadlines : q.deadlines = p.deadlines.set j d) (hinputs : q.inputs = p.inputs)
    (hr : isSigned16 r.value ∧ r.age ≤ 255) (hd : d ≠ none → r.validity ≠ .invalid) : q.Lawful := by
  refine ⟨by simp [hrecs, h.recs], by simp [hdeadlines, h.deadlines], hinputs ▸ h.inputs, fun x hx => ?_, fun k hk => ?_⟩
  · rw [hrecs] at hx
    exact (List.mem_or_eq_of_mem_set hx).elim (h.values x) fun hxr => hxr ▸ hr
  · rw [hrecs, hdeadlines, List.getD_eq_getElem?_getD, List.getD_eq_getElem?_getD]
    by_cases hjk : j = k
    · subst hjk
      rw [List.getElem?_set_self (h.deadlines ▸ hk), List.getElem?_set_self (by rw [h.recs]; omega)]
      exact hd
    · rw [List.getElem?_set_ne hjk, List.getElem?_set_ne hjk, ← List.getD_eq_getElem?_getD, ← List.getD_eq_getElem?_getD]
      exact h.held k hk

theorem write_lawful {p : PointTable} (dl j : Nat) {v : Int} (x : Validity) (h : p.Lawful) (hv : isSigned16 v) :
    (p.write dl j v x).Lawful := by
  refine replaced_lawful h rfl rfl rfl ⟨hv, Nat.zero_le _⟩ fun hd => ?_
  rintro rfl
  exact hd (if_pos rfl)

theorem nat_signed {n : Nat} (h : n ≤ 1000) : isSigned16 (n : Int) := by
  constructor <;> omega

theorem invalidate_lawful (j : Nat) {s : State} (h : s.points.Lawful) : (invalidate j s).points.Lawful :=
  write_lawful _ j _ h (record_signed h j).1

theorem stale_lawful (j : Nat) {p : PointTable} (h : p.Lawful) : (p.stale j).Lawful :=
  replaced_lawful h rfl rfl rfl (record_signed h j) fun hd => absurd rfl hd

theorem older_lawful {p : PointTable} (h : p.Lawful) : p.older.Lawful := by
  refine ⟨by simp [PointTable.older, h.recs], h.deadlines, h.inputs, fun r hr => ?_, fun k hk hd => ?_⟩
  · obtain ⟨r', hr', rfl⟩ := List.mem_map.1 hr
    exact ⟨(h.values r' hr').1, min_le_left _ _⟩
  · have hold := h.held k hk hd
    simp only [PointTable.older, List.getD_eq_getElem?_getD, List.getElem?_map] at hold ⊢
    cases hr : p.recs[k]? with
    | none => simp [hr] at hold ⊢; exact hold
    | some r => simpa [hr] using hold

/-- Launch records, inputs and the age timer are no part of the laws but for the number of inputs. -/
theorem lawful_of_recs {p q : PointTable} (h : p.Lawful) (hrecs : q.recs = p.recs) (hdeadlines : q.deadlines = p.deadlines)
    (hinputs : q.inputs.length = p.inputs.length) : q.Lawful :=
  ⟨hrecs ▸ h.recs, hdeadlines ▸ h.deadlines, hinputs.trans h.inputs, hrecs ▸ h.values, by
    rw [hrecs, hdeadlines]
    exact h.held⟩

theorem pointMove_lawful {s : State} {p : PointTable} (hp : PointMove s p) (h : s.points.Lawful) : p.Lawful := by
  cases hp with
  | older => exact older_lawful h
  | stale j hj => exact stale_lawful j h
  | launch l => exact lawful_of_recs h rfl rfl rfl
  | input j n _ => exact lawful_of_recs h rfl rfl (by simp)

theorem spanLoss_lawful (x : Side) {s : State} (h : s.points.Lawful) : (spanLoss x s).points.Lawful := by
  unfold spanLoss
  split
  next v hv =>
    refine write_lawful _ _ _ h ?_
    unfold spanLossOf at hv
    split at hv
    · split_ifs at hv
      obtain rfl := Option.some.inj hv
      exact saturate_within _ _ _ (by decide)
    · simp at hv
  · exact invalidate_lawful _ h

theorem takeLaunch_lawful (x : Side) (v : Int) {s : State} (h : s.points.Lawful) : (takeLaunch x v s).points.Lawful :=
  spanLoss_lawful x (s := { s with points := { s.points with launch := s.points.launch.set x (some ⟨v, s.now, false⟩) } })
    (lawful_of_recs h rfl rfl rfl)

theorem afterUpdate_lawful (k : Nat) {s : State} (h : s.points.Lawful) : (afterUpdate k s).points.Lawful := by
  unfold afterUpdate
  split_ifs
  · exact spanLoss_lawful .a h
  · exact spanLoss_lawful .b h
  · exact h

theorem keepSample_lawful {ch : Nat} {v : Int × Validity} (seeding : Bool) {s : State} (hv : isSigned16 v.1)
    (hfilters : s.sampling.Filters) (h : s.points.Lawful) : (keepSample ch v seeding s).points.Lawful := by
  unfold keepSample
  exact afterUpdate_lawful ch (write_lawful _ ch v.2 h (keptValue_signed ch seeding hv hfilters))

theorem conversionDone_lawful {slot code : Nat} {s : State} (ht : s.tables.good) (hfilters : s.sampling.Filters)
    (h : s.points.Lawful) : (conversionDone slot code s).points.Lawful := by
  have hv := convert_signed ht (s.tables.cals.getD (s.tables.scan.channelOf slot) ⟨.linear, 1024, 0, 0, 2⟩) code
  have hkeep (v : Int) (b : Bool) := keepSample_lawful (ch := s.tables.scan.channelOf slot) b hv
    (s := brownOutCompare (s.tables.scan.channelOf slot) v s) (by rwa [brownOutCompare_sampling])
    (by rwa [brownOutCompare_points])
  show (handleCode (s.tables.scan.channelOf slot) code s).points.Lawful
  unfold handleCode
  dsimp only
  split
  · exact h
  · exact hkeep _ true
  · exact hkeep _ false

/-! The state points (R92, R93). -/

theorem applyPump_lawful (c : Channel) (r : PumpResult) {s : State} (h : s.points.Lawful) : (applyPump c r s).points.Lawful := by
  unfold applyPump
  dsimp only
  split_ifs
  · exact h
  · exact write_lawful _ _ _ h (nat_signed (by cases r.pump.state <;> simp [PumpState.code]))

theorem retargetPumps_lawful {s : State} (h : s.points.Lawful) : (retargetPumps s).points.Lawful :=
  applyPump_lawful .ba _ (applyPump_lawful .ab _ h)

theorem reactTo_lawful (b : State) (c : Channel) {s : State} (h : s.points.Lawful) : (reactTo b c s).points.Lawful := by
  unfold reactTo
  split_ifs
  · exact applyPump_lawful c _ h
  · exact h

theorem reactBoth_lawful (b : State) {s : State} (h : s.points.Lawful) : (reactBoth b s).points.Lawful :=
  reactTo_lawful b .ba (reactTo_lawful b .ab h)

theorem recomputeShed_lawful {s : State} (hlevel : s.shedLevel ≤ 4) (h : s.points.Lawful) : (recomputeShed s).points.Lawful := by
  by_cases heq : s.shedLevel = s.supply.level
  · rwa [recomputeShed_of_eq heq]
  · rw [recomputeShed_of_ne heq]
    exact retargetPumps_lawful (s := writePoint 39 s.shedLevel .valid (s.withLevel s.shedLevel))
      (write_lawful _ 39 .valid h (nat_signed (by omega)))

/-- The level a recomputation leaves is the one it writes. -/
theorem recomputeShed_lawful_of_level {s : State} (hlevel : (recomputeShed s).supply.level ≤ 4) (h : s.points.Lawful) :
    (recomputeShed s).points.Lawful := recomputeShed_lawful (recomputeShed_level s ▸ hlevel) h

theorem handOutputs_lawful {s : State} (hlevel : (handOutputs s).supply.level ≤ 4) (h : s.points.Lawful) :
    (handOutputs s).points.Lawful := by
  rw [handOutputs_supply] at hlevel
  rw [handOutputs_eq]
  have hshed := recomputeShed_lawful (s := s.withShedRequest (shedRequestOf (standingActions s.tables s.engine.runs))) hlevel h
  exact reactBoth_lawful (s := State.withReduce _ _) _ hshed

theorem takePass_lawful {s : State} (hlevel : (takePass s).supply.level ≤ 4) (h : s.points.Lawful) :
    (takePass s).points.Lawful := by
  rw [takePass_eq] at hlevel ⊢
  generalize visits s = vs at hlevel ⊢
  have hpoints : (takePulses vs (takeReports s vs vs (s.withRuns (vs.map Visit.run)))).points = s.points := by
    simp only [takePulses_frame, takeReports_frame, State.withRuns]
  simp only [takeSuppressions_frame] at hlevel ⊢
  exact handOutputs_lawful hlevel (by rwa [hpoints])

theorem takeConditionWrite_lawful {j : Nat} {c : Condition} {s : State} (hlevel : (takeConditionWrite j c s).supply.level ≤ 4)
    (h : s.points.Lawful) : (takeConditionWrite j c s).points.Lawful := by
  unfold takeConditionWrite at hlevel ⊢
  refine handOutputs_lawful hlevel ?_
  dsimp only
  split_ifs
  · rwa [show (takeReconfigure j s).points = s.points by simp]
  · exact h

theorem applySupply_lawful (v : Supply) (extra : List PortWord) {s : State} (h : s.points.Lawful) :
    (applySupply v extra s).points.Lawful := by
  have hpv : isSigned16 (v.pv.code : Int) := nat_signed (by cases v.pv <;> simp [PvState.code])
  have hzone : isSigned16 (v.zone.code : Int) := nat_signed (by cases v.zone <;> simp [Zone.code])
  unfold applySupply
  dsimp only
  split_ifs
  · exact h
  · exact write_lawful _ _ _ h hzone
  · exact write_lawful _ _ _ h hpv
  · exact write_lawful _ _ _ (write_lawful _ _ _ h hzone) hpv

theorem reevaluate_lawful (x : Side) {s : State} (h : s.points.Lawful) : (reevaluate x s).points.Lawful := by
  unfold reevaluate
  dsimp only
  split_ifs
  · exact h
  · exact write_lawful _ _ _ h (nat_signed (by
      cases (s.at x).lineStateNow s.tables.line.threshold <;> simp [LineState.code]))

theorem bit_signed (b : Bool) : isSigned16 (bit b : Int) := nat_signed (by cases b <;> simp [bit])

theorem lineMove_lawful {s u : State} (hu : LineMove s u) (hwindows : ∀ x, (s.ports.get x).Counted) (h : s.points.Lawful) :
    u.points.Lawful := by
  cases hu with
  | resync x p _ => exact reevaluate_lawful x (s := s.setPort x p) h
  | window x =>
    exact reevaluate_lawful x (s := writePoint (windowPoint x) _ .valid _) (write_lawful _ _ .valid h (nat_signed (hwindows x).1))
  | header x m _ =>
    have hmarks : (writePoint (rfmPoint x) (bit m.rfm) .valid
        (writePoint (ufmPoint x) (bit m.ufm) .valid (s.setPort x ((s.at x).record m)))).points.Lawful :=
      write_lawful _ _ .valid (write_lawful _ _ .valid h (bit_signed m.ufm)) (bit_signed m.rfm)
    dsimp only
    split_ifs
    · exact takeLaunch_lawful x m.launch hmarks
    · exact hmarks
  | settings => exact reevaluate_lawful .b (reevaluate_lawful .a h)

theorem inputSum_le (k : Nat) (l : List Input) : inputSum k l ≤ 2 ^ (k + l.length) - 2 ^ k := by
  induction l generalizing k with
  | nil => simp [inputSum]
  | cons n l ih =>
    have hrest := ih (k + 1)
    have hpow : 2 ^ (k + 1) ≤ 2 ^ (k + 1 + l.length) := Nat.pow_le_pow_right (by simp) (by omega)
    have hbit : bit n.debounced * 2 ^ k ≤ 2 ^ k := by cases n.debounced <;> simp [bit]
    have hdouble : 2 ^ (k + 1) = 2 ^ k + 2 ^ k := by ring
    simp only [inputSum, List.length_cons]
    rw [show k + (l.length + 1) = k + 1 + l.length by omega]
    omega

theorem debounce_lawful (j : Nat) {s : State} (h : s.points.Lawful) : (debounce j s).points.Lawful := by
  have hinput (n : Input) : (s.setInput j n).points.Lawful := lawful_of_recs h rfl rfl (by simp [State.setInput])
  by_cases hraw : (s.points.input j).raw = (s.points.input j).debounced
  · rw [debounce_of_eq hraw]
    exact hinput _
  · rw [debounce_of_ne hraw]
    refine write_lawful _ 44 .valid (hinput _) (nat_signed ((inputSum_le 0 _).trans ?_))
    rw [(hinput _).inputs]
    decide

theorem setContacts_lawful (c : Pair (Option Nat)) {s : State} (h : s.points.Lawful) : (setContacts c s).points.Lawful := by
  unfold setContacts
  dsimp only
  split_ifs
  · exact h
  · exact write_lawful _ _ _ h (nat_signed (by unfold contactCode; split <;> simp))

/-! Resets. -/

theorem powerOn_lawful (t : Nat) (levels : Byte) : (PointTable.powerOn t levels).Lawful := by
  refine ⟨rfl, rfl, rfl, ?_, fun k hk hd => ?_⟩
  · show ∀ r ∈ List.replicate 30 unwritten ++ derivedAtPowerOn, isSigned16 r.value ∧ r.age ≤ 255
    decide
  · refine absurd ?_ hd
    show (List.replicate 28 none).getD k none = none
    rw [List.getD_eq_getElem?_getD]
    exact List.getElem?_getD_replicate_default_eq none 28 k

theorem atRestart_lawful {p : PointTable} (h : p.Lawful) : p.atRestart.Lawful := by
  refine ⟨length_recsAtRestart h.recs, rfl, h.inputs, fun r hr => ?_, fun k hk hd => ?_⟩
  · have hfresh (n : Nat) (hn : n ≤ 1) : isSigned16 (fresh n).value ∧ (fresh n).age ≤ 255 :=
      ⟨nat_signed (by omega), Nat.zero_le _⟩
    rcases List.mem_or_eq_of_mem_set hr with hr | rfl
    · rcases List.mem_or_eq_of_mem_set hr with hr | rfl
      · rcases List.mem_append.1 hr with hr | hr
        · exact List.eq_of_mem_replicate hr ▸ unwritten_signed
        · exact h.values r (List.mem_of_mem_drop hr)
      · exact hfresh 0 (by simp)
    · exact hfresh 1 (by simp)
  · refine absurd ?_ hd
    show (List.replicate 28 none).getD k none = none
    rw [List.getD_eq_getElem?_getD]
    exact List.getElem?_getD_replicate_default_eq none 28 k

theorem restartReset_lawful (addr : BitVec 6) {s : State} (hlevel : (restartReset addr s).supply.level ≤ 4)
    (h : s.points.Lawful) : (restartReset addr s).points.Lawful := by
  have hbase : (restartBase addr s).points.Lawful := atRestart_lawful h
  rw [restartReset_eq] at hlevel ⊢
  generalize restartBase addr s = b at hlevel hbase ⊢
  rw [recomputeAtRestart_supply] at hlevel
  unfold recomputeAtRestart
  split_ifs
  · exact hbase
  · exact write_lawful _ 39 .valid hbase (nat_signed (by have : b.shedLevel ≤ 4 := hlevel; omega))

theorem records_effect {i : Instr} {l : List Part} {s t : State} (he : Effect i l s t) (htables : s.tables.good)
    (hfilters : s.sampling.Filters) (hwindows : ∀ x, (s.ports.get x).Counted) (hlevel : t.supply.level ≤ 4)
    (h : s.points.Lawful) : t.points.Lawful := by
  by_cases hframe : Part.points ∉ l
  · have hpoints : t.points = s.points := he.changesOnly .points hframe
    rwa [hpoints]
  cases he with
  | powerOn addr inputs s _ => exact powerOn_lawful s.now inputs
  | restart addr s _ => exact restartReset_lawful addr hlevel h
  | line u s hu => exact reactBoth_lawful s (lineMove_lawful hu hwindows h)
  | contacts c s _ => exact setContacts_lawful c h
  | shedForcing f s _ =>
    exact recomputeShed_lawful_of_level (s := { s with agent := { s.agent with shedForce := f } }) hlevel h
  | install a x s _ _ =>
    exact write_lawful _ 45 .valid h (nat_signed (by cases x <;> simp [Source.code]))
  | condition j c s _ _ _ _ => exact takeConditionWrite_lawful hlevel h
  | sample k code s _ => exact conversionDone_lawful htables hfilters h
  | measure j v x s _ hv => exact write_lawful _ _ x h hv
  | lose j s _ => exact invalidate_lawful _ h
  | points p s hp => exact pointMove_lawful hp h
  | spanLoss x s => exact spanLoss_lawful x h
  | debounce j s => exact debounce_lawful j h
  | supply v extra s _ _ => exact recomputeShed_lawful_of_level hlevel (applySupply_lawful v extra h)
  | brownOut s =>
    exact recomputeShed_lawful_of_level (s := { s with supply := { s.supply with brownHold := 4 } }) hlevel h
  | handedLevel s => exact applyPump_lawful .ba _ (applyPump_lawful .ab _ h)
  | pump c r s _ => exact applyPump_lawful c r h
  | pass s _ => exact takePass_lawful hlevel h
  | _ => exact absurd (by simp) hframe

end Sys2Proof.Machine

section

open Sys2Proof Sys2Proof.Machine

/-- Settles O60: each effect keeps the laws of the Sensor Poll Unit, of the scan, of the filters and of the records, given the
tables; the values written to state points 30, 31 and 39 need the windows' and the shed level's laws beside them. -/
theorem everyStepKeepsPollsAndMeasurementsInRange : Obligations.EveryStepKeepsPollsAndMeasurementsInRange := by
  unfold Obligations.EveryStepKeepsPollsAndMeasurementsInRange
  refine ⟨fun s t h htables hstep => ?_, fun s t h htables hstep => ?_, fun s t h htables hstep => ?_,
    fun s t h hfilters htables hwindows hshed hstep => ?_⟩
  · exact (step_preserves (P := fun u => PollLawful u ∧ u.tables.good) (fun _ _ hs => hs)
      (fun _ _ _ _ he hs => ⟨pollLawful_effect he hs.2 hs.1, tables_good_effect he hs.2⟩) ⟨h, htables.1⟩ hstep).1
  · exact (step_preserves (P := fun u => ScanLawful u ∧ u.tables.good) (fun _ _ hs => hs)
      (fun _ _ _ _ he hs => ⟨scanLawful_effect he hs.2 hs.1, tables_good_effect he hs.2⟩) ⟨h, htables.1⟩ hstep).1
  · rw [filtersLawful_iff] at h ⊢
    exact (step_preserves (P := fun u => u.sampling.Filters ∧ u.tables.good) (fun _ _ hs => hs)
      (fun _ _ _ _ he hs => ⟨filters_effect he hs.2 hs.1, tables_good_effect he hs.2⟩) ⟨h, htables.1⟩ hstep).1
  · rw [recordsLawful_iff] at h ⊢
    rw [filtersLawful_iff] at hfilters
    rw [windowsLawful_iff] at hwindows
    refine (step_preserves (P := fun u => u.points.Lawful ∧ u.sampling.Filters ∧ TablesLawful u ∧ ShedLawful u ∧
      ∀ x, (u.ports.get x).Counted) (fun _ _ hs => hs) (fun _ _ _ _ he hs => ?_) ⟨h, hfilters, htables, hshed, hwindows⟩ hstep).1
    obtain ⟨hp, hf, ht, hl, hw⟩ := hs
    have hlevel := shedLawful_effect he ht hl
    exact ⟨records_effect he ht.1 hf hw hlevel.2.1 hp, filters_effect he ht.1 hf, tablesLawful_effect he ht, hlevel,
      he.ports_keep counted_move hw⟩

end

/-! PROOF. O59: the Standing Alarm List and the engine's outputs follow the conditions. -/

namespace Sys2Proof.Machine

/-! The list on its own (R120). -/

/-- What ListLawful asks of a list; that it holds at most 64 entries follows. -/
structure ListOk (l : List Standing) : Prop where
  nodup : (l.map Standing.index).Nodup
  index : ∀ e ∈ l, e.index < 64
  cleared : ∀ e ∈ l, e.status = .cleared → e.latching = true ∧ e.acknowledged = false

theorem length_le_of_listOk {l : List Standing} (h : ListOk l) : l.length ≤ 64 := by
  have hsub : l.map Standing.index ⊆ List.range 64 := fun k hk => by
    obtain ⟨e, he, rfl⟩ := List.mem_map.1 hk
    exact List.mem_range.2 (h.index e he)
  simpa using (List.subperm_of_subset h.nodup hsub).length_le

theorem listLawful_iff (s : State) : ListLawful s ↔ ListOk s.alarms :=
  ⟨fun ⟨h1, h2, _, h4⟩ => ⟨h1, h2, h4⟩, fun h => ⟨h.nodup, h.index, length_le_of_listOk h, h.cleared⟩⟩

/-- Whether a list holds a RAISED entry of a condition. -/
def raisedIn (k : Nat) (l : List Standing) : Bool := l.any (fun e => e.index == k && e.status == .raised)

theorem raisedIn_iff {k : Nat} {l : List Standing} : raisedIn k l = true ↔ ∃ e ∈ l, e.index = k ∧ e.status = .raised := by
  simp [raisedIn]

theorem raisedIn_append (k : Nat) (l m : List Standing) : raisedIn k (l ++ m) = (raisedIn k l || raisedIn k m) :=
  List.any_append

/-- Two lists with the same RAISED entries of a condition. -/
theorem raisedIn_congr {k : Nat} {l m : List Standing}
    (h : (∃ e ∈ l, e.index = k ∧ e.status = .raised) ↔ ∃ e ∈ m, e.index = k ∧ e.status = .raised) : raisedIn k l = raisedIn k m := by
  rw [Bool.eq_iff_iff, raisedIn_iff, raisedIn_iff]
  exact h

theorem without_sublist (i : Nat) (l : List Standing) : (without i l).Sublist l := List.filter_sublist

theorem mem_without {i : Nat} {l : List Standing} {e : Standing} : e ∈ without i l ↔ e ∈ l ∧ e.index ≠ i := by
  simp [without]

theorem raisedIn_without (k i : Nat) (l : List Standing) : raisedIn k (without i l) = if k = i then false else raisedIn k l := by
  split_ifs with h
  · rw [Bool.eq_false_iff]
    intro hr
    obtain ⟨e, he, hk, -⟩ := raisedIn_iff.1 hr
    exact (mem_without.1 he).2 (hk.trans h)
  · refine raisedIn_congr ⟨fun ⟨e, he, hk⟩ => ⟨e, (mem_without.1 he).1, hk⟩, fun ⟨e, he, hk, hs⟩ => ⟨e, ?_, hk, hs⟩⟩
    exact mem_without.2 ⟨he, hk ▸ h⟩

theorem listOk_sublist {l m : List Standing} (h : ListOk l) (hm : m.Sublist l) : ListOk m :=
  ⟨(hm.map Standing.index).nodup h.nodup, fun e he => h.index e (hm.subset he), fun e he => h.cleared e (hm.subset he)⟩

theorem listOk_without (i : Nat) {l : List Standing} (h : ListOk l) : ListOk (without i l) := listOk_sublist h (without_sublist i l)

/-- R121: a new RAISED entry at the tail, any old one of its condition gone. -/
theorem listOk_raise {l : List Standing} {e : Standing} (h : ListOk l) (he : e.index < 64) (hs : e.status = .raised) :
    ListOk (without e.index l ++ [e]) := by
  have hw := listOk_without e.index h
  refine ⟨?_, ?_, ?_⟩
  · rw [List.map_append, List.nodup_append]
    refine ⟨hw.nodup, List.nodup_singleton _, fun x hx y hy => ?_⟩
    obtain ⟨a, ha, rfl⟩ := List.mem_map.1 hx
    obtain rfl : y = e.index := by simpa using hy
    exact (mem_without.1 ha).2
  · exact List.forall_mem_append.2 ⟨hw.index, by simpa using he⟩
  · exact List.forall_mem_append.2 ⟨hw.cleared, by simp [hs]⟩

theorem raisedIn_raise {l : List Standing} {e : Standing} (hs : e.status = .raised) (k : Nat) :
    raisedIn k (without e.index l ++ [e]) = if k = e.index then true else raisedIn k l := by
  rw [raisedIn_append, raisedIn_without]
  have hnew : raisedIn k [e] = decide (k = e.index) := by simp [raisedIn, hs, eq_comm, Bool.beq_eq_decide_eq]
  rw [hnew]
  split_ifs <;> simp [*]

/-- Entries changed one by one, each keeping its condition. -/
theorem listOk_map {l : List Standing} (f : Standing → Standing) (h : ListOk l) (hindex : ∀ e, (f e).index = e.index)
    (hcleared : ∀ e ∈ l, (f e).status = .cleared → (f e).latching = true ∧ (f e).acknowledged = false) : ListOk (l.map f) := by
  have hmap : (l.map f).map Standing.index = l.map Standing.index := by
    rw [List.map_map]
    exact List.map_congr_left fun e _ => hindex e
  refine ⟨hmap ▸ h.nodup, fun e he => ?_, fun e he => ?_⟩
  · obtain ⟨a, ha, rfl⟩ := List.mem_map.1 he
    exact hindex a ▸ h.index a ha
  · obtain ⟨a, ha, rfl⟩ := List.mem_map.1 he
    exact hcleared a ha

theorem raisedIn_map {l : List Standing} (f : Standing → Standing) {k : Nat} (hindex : ∀ e, (f e).index = e.index)
    (hstatus : ∀ e ∈ l, e.index = k → (f e).status = e.status) : raisedIn k (l.map f) = raisedIn k l := by
  refine raisedIn_congr ⟨?_, ?_⟩
  · rintro ⟨e, he, hk, hs⟩
    obtain ⟨a, ha, rfl⟩ := List.mem_map.1 he
    rw [hindex] at hk
    exact ⟨a, ha, hk, hstatus a ha hk ▸ hs⟩
  · rintro ⟨e, he, hk, hs⟩
    exact ⟨f e, List.mem_map_of_mem he, (hindex e).trans hk, (hstatus e he hk).trans hs⟩

theorem entryOf_some {i : Nat} {l : List Standing} {e : Standing} (h : entryOf i l = some e) : e ∈ l ∧ e.index = i := by
  refine ⟨List.mem_of_find?_eq_some h, ?_⟩
  simpa using List.find?_some h

theorem entryOf_none {i : Nat} {l : List Standing} (h : entryOf i l = none) : ∀ e ∈ l, e.index ≠ i := fun e he => by
  simpa using List.find?_eq_none.1 h e he

theorem without_of_none {i : Nat} {l : List Standing} (h : entryOf i l = none) : without i l = l :=
  List.filter_eq_self.2 fun e he => by simpa using entryOf_none h e he

theorem eq_of_index {l : List Standing} (h : (l.map Standing.index).Nodup) {a b : Standing} (ha : a ∈ l) (hb : b ∈ l)
    (hab : a.index = b.index) : a = b := List.inj_on_of_nodup_map h ha hb hab

/-- R122: the entry cleared is the one of its condition, by R120. -/
theorem listOk_clear {l : List Standing} {e : Standing} (h : ListOk l) (he : e ∈ l) : ListOk (clearEntry e l) := by
  unfold clearEntry
  split_ifs with hlatch
  · refine listOk_map _ h (fun x => ?_) fun x hx hs => ?_
    · split_ifs <;> rfl
    · split_ifs at hs ⊢ with hxe
      · obtain rfl := eq_of_index h.nodup hx he hxe
        simpa using hlatch
      · exact h.cleared x hx hs
  · exact listOk_without e.index h

theorem raisedIn_clear {l : List Standing} (e : Standing) (k : Nat) :
    raisedIn k (clearEntry e l) = if k = e.index then false else raisedIn k l := by
  unfold clearEntry
  split_ifs with hlatch hk hk
  · rw [Bool.eq_false_iff]
    intro hr
    obtain ⟨x, hx, hxk, hs⟩ := raisedIn_iff.1 hr
    obtain ⟨a, ha, rfl⟩ := List.mem_map.1 hx
    split_ifs at hxk hs with hae
    exact hae (hxk.trans hk)
  · refine raisedIn_map _ (fun x => ?_) fun x _ hx => ?_
    · split_ifs <;> rfl
    · rw [if_neg fun hxe => hk (hx.symm.trans hxe)]
  · rw [raisedIn_without, if_pos hk]
  · rw [raisedIn_without, if_neg hk]

/-- R125: what an acknowledgement leaves of an entry. -/
theorem ackEntry_cases {e b : Standing} (h : ackEntry e = some b) : e.status = .raised ∧ b = { e with acknowledged := true } := by
  unfold ackEntry at h
  split at h
  next hs => exact ⟨hs, (Option.some.inj h).symm⟩
  · simp at h

theorem mem_acknowledge {w : Option Nat} {l : List Standing} {b : Standing} (h : b ∈ acknowledge w l) :
    b ∈ l ∨ ∃ e ∈ l, e.status = .raised ∧ b = { e with acknowledged := true } := by
  obtain ⟨e, he, hb⟩ := List.mem_filterMap.1 h
  split_ifs at hb
  · exact .inr ⟨e, he, ackEntry_cases hb⟩
  · exact .inl (Option.some.inj hb ▸ he)

theorem listOk_acknowledge (w : Option Nat) {l : List Standing} (h : ListOk l) : ListOk (acknowledge w l) := by
  refine ⟨(acknowledge_indices w l).nodup h.nodup, fun b hb => ?_, fun b hb hs => ?_⟩
  · rcases mem_acknowledge hb with hb | ⟨e, he, -, rfl⟩
    · exact h.index b hb
    · exact h.index e he
  · rcases mem_acknowledge hb with hb | ⟨e, he, hr, rfl⟩
    · exact h.cleared b hb hs
    · exact absurd (hr.symm.trans hs) (by simp)

theorem raisedIn_acknowledge (w : Option Nat) (l : List Standing) (k : Nat) : raisedIn k (acknowledge w l) = raisedIn k l := by
  refine raisedIn_congr ⟨?_, ?_⟩
  · rintro ⟨b, hb, hk, hs⟩
    rcases mem_acknowledge hb with hb | ⟨e, he, hr, rfl⟩
    · exact ⟨b, hb, hk, hs⟩
    · exact ⟨e, he, hk, hr⟩
  · rintro ⟨e, he, hk, hs⟩
    by_cases hw : w = none ∨ w = some e.index
    · exact ⟨{ e with acknowledged := true }, List.mem_filterMap.2 ⟨e, he, by rw [if_pos hw]; simp [ackEntry, hs]⟩, hk, hs⟩
    · exact ⟨e, List.mem_filterMap.2 ⟨e, he, by rw [if_neg hw]⟩, hk, hs⟩

/-! The reports (R121 to R124). -/

theorem takeRaise_alarms (r : Raise) (s : State) : (takeRaise r s).alarms = without r.index s.alarms ++ [standingOf r s] := by
  unfold takeRaise
  dsimp only
  split_ifs <;> rfl

theorem takeClear_of_none {i : Nat} {s : State} (v : Int) (h : entryOf i s.alarms = none) : takeClear i v s = s := by
  unfold takeClear
  rw [h]

theorem takeClear_of_some {i : Nat} {s : State} {e : Standing} (v : Int) (h : entryOf i s.alarms = some e) :
    (takeClear i v s).alarms = clearEntry e s.alarms := by
  unfold takeClear
  rw [h]
  dsimp only
  split_ifs <;> rfl

theorem takeReconfigure_alarms (i : Nat) (s : State) : (takeReconfigure i s).alarms = without i s.alarms := by
  unfold takeReconfigure
  cases h : entryOf i s.alarms with
  | none => exact (without_of_none h).symm
  | some e =>
    dsimp only
    split_ifs <;> rfl

/-- R124: an entry's suppressed state replaced, and what is withheld of it. -/
def Standing.suppress (i : Nat) (sup : Bool) (x : Standing) : Standing :=
  if x.index = i then { x with suppressed := sup, withheld := x.withheld && sup } else x

theorem suppress_index (i : Nat) (sup : Bool) (x : Standing) : (x.suppress i sup).index = x.index := by
  unfold Standing.suppress
  split_ifs <;> rfl

theorem suppress_rest (i : Nat) (sup : Bool) (x : Standing) : (x.suppress i sup).status = x.status ∧
    (x.suppress i sup).latching = x.latching ∧ (x.suppress i sup).acknowledged = x.acknowledged := by
  unfold Standing.suppress
  split_ifs <;> exact ⟨rfl, rfl, rfl⟩

theorem takeSuppression_alarms (i : Nat) (sup : Bool) (s : State) :
    (takeSuppression i sup s).alarms = s.alarms ∨ (takeSuppression i sup s).alarms = s.alarms.map (Standing.suppress i sup) := by
  unfold takeSuppression
  cases h : entryOf i s.alarms with
  | none => exact .inl rfl
  | some e =>
    dsimp only
    split_ifs
    · exact .inr rfl
    · exact .inr rfl
    · exact .inl rfl

theorem takeSuppression_keeps (i : Nat) (sup : Bool) (s : State) :
    (ListOk s.alarms → ListOk (takeSuppression i sup s).alarms) ∧
      ∀ k, raisedIn k (takeSuppression i sup s).alarms = raisedIn k s.alarms := by
  rcases takeSuppression_alarms i sup s with h | h
  · rw [h]
    exact ⟨id, fun _ => rfl⟩
  · rw [h]
    refine ⟨fun hl => listOk_map _ hl (suppress_index i sup) fun e he hs => ?_,
      fun k => raisedIn_map _ (suppress_index i sup) fun e _ _ => (suppress_rest i sup e).1⟩
    obtain ⟨hstatus, hlatching, hack⟩ := suppress_rest i sup e
    rw [hlatching, hack]
    exact hl.cleared e he (hstatus ▸ hs)

theorem takeSuppressions_keeps (base : State) (all l : List Visit) (s : State) :
    (ListOk s.alarms → ListOk (takeSuppressions base all l s).alarms) ∧
      ∀ k, raisedIn k (takeSuppressions base all l s).alarms = raisedIn k s.alarms := by
  induction l generalizing s with
  | nil => exact ⟨id, fun _ => rfl⟩
  | cons v l ih =>
    obtain ⟨hok, hraised⟩ := ih (if v.run.stands then takeSuppression v.index (present base all v.entry.suppressor) s else s)
    have hhead : (ListOk s.alarms → ListOk (if v.run.stands then
        takeSuppression v.index (present base all v.entry.suppressor) s else s).alarms) ∧
        ∀ k, raisedIn k (if v.run.stands then
          takeSuppression v.index (present base all v.entry.suppressor) s else s).alarms = raisedIn k s.alarms := by
      split_ifs
      · exact takeSuppression_keeps _ _ s
      · exact ⟨id, fun _ => rfl⟩
    exact ⟨fun h => hok (hhead.1 h), fun k => (hraised k).trans (hhead.2 k)⟩

/-- Whether a condition stands after a transition, from whether it stood before. -/
def Turn.after (before : Bool) : Turn → Bool
  | .raises => true
  | .clears => false
  | .none => before

/-- R121, R122: what the report of a visit does to the list. -/
theorem takeVisit_spec (sup : Bool) (v : Visit) {s : State} (hv : v.index < 64) (h : ListOk s.alarms) :
    ListOk (takeVisit sup v s).alarms ∧ ∀ k, raisedIn k (takeVisit sup v s).alarms =
      if k = v.index then v.turn.after (raisedIn k s.alarms) else raisedIn k s.alarms := by
  unfold takeVisit
  cases v.turn with
  | raises =>
    dsimp only
    rw [takeRaise_alarms]
    exact ⟨listOk_raise (e := standingOf ⟨v.index, v.entry, v.point.value, sup⟩ s) h hv rfl,
      raisedIn_raise (e := standingOf ⟨v.index, v.entry, v.point.value, sup⟩ s) rfl⟩
  | clears =>
    dsimp only
    cases he : entryOf v.index s.alarms with
    | none =>
      rw [takeClear_of_none _ he]
      refine ⟨h, fun k => ?_⟩
      split_ifs with hk
      · show raisedIn k s.alarms = false
        rw [Bool.eq_false_iff]
        intro hr
        obtain ⟨e, hmem, hek, -⟩ := raisedIn_iff.1 hr
        exact entryOf_none he e hmem (hek.trans hk)
      · rfl
    | some e =>
      rw [takeClear_of_some _ he]
      obtain ⟨hmem, hindex⟩ := entryOf_some he
      exact ⟨listOk_clear h hmem, fun k => hindex ▸ raisedIn_clear e k⟩
  | none =>
    refine ⟨h, fun k => ?_⟩
    split_ifs <;> rfl

theorem takeReports_listOk (base : State) (all : List Visit) {l : List Visit} {s : State} (hbound : ∀ v ∈ l, v.index < 64)
    (h : ListOk s.alarms) : ListOk (takeReports base all l s).alarms := by
  induction l generalizing s with
  | nil => exact h
  | cons v l ih =>
    exact ih (fun w hw => hbound w (List.mem_cons_of_mem v hw)) (takeVisit_spec _ v (hbound v List.mem_cons_self) h).1

/-- R108, step 3: after the reports of a pass the list holds a RAISED entry for exactly the conditions that stand. -/
theorem takeReports_raised (base : State) (all : List Visit) (stand : Nat → Bool) {l : List Visit} {s : State}
    (hnodup : (l.map Visit.index).Nodup) (hbound : ∀ v ∈ l, v.index < 64) (h : ListOk s.alarms)
    (hturn : ∀ v ∈ l, stand v.index = v.turn.after (raisedIn v.index s.alarms)) (k : Nat) :
    raisedIn k (takeReports base all l s).alarms = if k ∈ l.map Visit.index then stand k else raisedIn k s.alarms := by
  induction l generalizing s with
  | nil => simp [takeReports]
  | cons v l ih =>
    rw [List.map_cons, List.nodup_cons] at hnodup
    obtain ⟨hv, hrest⟩ := hnodup
    obtain ⟨hok, hraised⟩ := takeVisit_spec (present base all v.entry.suppressor) v (hbound v List.mem_cons_self) h
    have htail := ih (s := takeVisit (present base all v.entry.suppressor) v s) hrest
      (fun w hw => hbound w (List.mem_cons_of_mem v hw)) hok fun w hw => by
        rw [hturn w (List.mem_cons_of_mem v hw), hraised w.index,
          if_neg fun hwv : w.index = v.index => hv (hwv ▸ List.mem_map_of_mem hw)]
    refine htail.trans ?_
    rw [hraised k, List.map_cons]
    by_cases hk : k = v.index
    · subst hk
      rw [if_neg hv, if_pos rfl, if_pos List.mem_cons_self, hturn v List.mem_cons_self]
    · simp [hk]

/-! The engine (R101, R102). -/

theorem lawful_clear {c : Condition} (h : c.enable = true) : (⟨.clear, 0⟩ : CondRun).lawful c := by simp [CondRun.lawful, h]

theorem lawful_raised {c : Condition} (h : c.enable = true) : (⟨.raised, 0⟩ : CondRun).lawful c := by simp [CondRun.lawful, h]

theorem lawful_setPending {c : Condition} {n : Nat} (h : c.enable = true) (hn : 1 ≤ n ∧ n < c.qualifySet) :
    (⟨.setPending, n⟩ : CondRun).lawful c := by simp [CondRun.lawful, h, hn]

theorem lawful_clearPending {c : Condition} {n : Nat} (h : c.enable = true) (hn : 1 ≤ n ∧ n < c.qualifyClear) :
    (⟨.clearPending, n⟩ : CondRun).lawful c := by simp [CondRun.lawful, h, hn]

theorem enabled_of_lawful {c : Condition} {r : CondRun} (h : r.lawful c) (hs : r.state ≠ .idle) : c.enable = true := by
  rw [Ne, h.1] at hs
  simpa using hs

/-- R102: what a pass leaves of a run, and what it reports of it. -/
theorem passRow_spec {c : Condition} {r : CondRun} (p : Point) (h : r.lawful c) :
    (passRow c r p).1.lawful c ∧ (passRow c r p).1.stands = (passRow c r p).2.after r.stands := by
  obtain ⟨state, count⟩ := r
  unfold passRow
  by_cases hheld : held c p = true
  · rw [if_pos hheld]
    exact ⟨h, rfl⟩
  rw [if_neg hheld]
  cases state with
  | idle => exact ⟨h, rfl⟩
  | clear =>
    have hon := enabled_of_lawful h (by simp)
    dsimp only
    split_ifs
    · exact ⟨lawful_raised hon, rfl⟩
    · exact ⟨lawful_setPending hon (by omega), rfl⟩
    · exact ⟨lawful_clear hon, rfl⟩
  | setPending =>
    have hon := enabled_of_lawful h (by simp)
    dsimp only
    split_ifs
    · exact ⟨lawful_raised hon, rfl⟩
    · exact ⟨lawful_setPending hon (by omega), rfl⟩
    · exact ⟨lawful_clear hon, rfl⟩
  | raised =>
    have hon := enabled_of_lawful h (by simp)
    dsimp only
    split_ifs
    · exact ⟨lawful_clear hon, rfl⟩
    · exact ⟨lawful_clearPending hon (by omega), rfl⟩
    · exact ⟨lawful_raised hon, rfl⟩
  | clearPending =>
    have hon := enabled_of_lawful h (by simp)
    dsimp only
    split_ifs
    · exact ⟨lawful_clear hon, rfl⟩
    · exact ⟨lawful_clearPending hon (by omega), rfl⟩
    · exact ⟨lawful_raised hon, rfl⟩

theorem startRun_lawful (c : Condition) : (startRun c).lawful c := by
  unfold startRun CondRun.lawful
  cases c.enable <;> simp

theorem startRun_stands (c : Condition) : (startRun c).stands = false := by
  unfold startRun CondRun.stands
  cases c.enable <;> rfl

/-- R112 to R114: the outputs are those of the standing conditions. -/
structure Engine.Hands (e : Engine) (t : Tables) : Prop where
  shedRequest : e.shedRequest = shedRequestOf (standingActions t e.runs)
  reduce : ∀ c, e.reduce.get c = reduceOf c (standingActions t e.runs)
  outRequest : e.outRequest = outRequestOf (standingActions t e.runs)

/-- What EngineLawful asks outside an autoload. -/
structure State.Follows (s : State) : Prop where
  conds : s.tables.conds.length = 64
  runs : s.engine.runs.length = 64
  lawful : ∀ k < 64, (s.engine.run k).lawful (s.tables.condition k)
  listed : ∀ k < 64, raisedIn k s.alarms = (s.engine.run k).stands
  hands : s.engine.Hands s.tables

/-- The engine, the list and the tables as a reset leaves them (R117, R119, R120). -/
def State.EngineAtReset (s : State) : Prop := s.engine = Engine.atReset ∧ s.alarms = [] ∧ s.tables = builtinTables

theorem engineLawful_iff (s : State) : EngineLawful s ↔ s.Follows ∧ (s.loader.autoload ≠ none → s.EngineAtReset) := by
  constructor
  · rintro ⟨h1, h2, h3, h4, h5, h6, h7, h8, h9⟩
    refine ⟨⟨h1, h2, fun k hk => h3 k (List.mem_range.2 hk), fun k hk => h4 k (List.mem_range.2 hk), h5, fun c => ?_, h8⟩, h9⟩
    cases c
    exacts [h6, h7]
  · rintro ⟨⟨h1, h2, h3, h4, h5⟩, h9⟩
    exact ⟨h1, h2, fun k hk => h3 k (List.mem_range.1 hk), fun k hk => h4 k (List.mem_range.1 hk), h5.shedRequest,
      h5.reduce .ab, h5.reduce .ba, h5.outRequest, h9⟩

theorem standingActions_congr {t u : Tables} (h : u.conds = t.conds) (runs : List CondRun) :
    standingActions u runs = standingActions t runs := by
  unfold standingActions entriesOfEngine
  rw [h]

/-- No run stands just after a start. -/
theorem standingActions_start (t : Tables) : standingActions t (t.conds.map startRun) = [] := by
  unfold standingActions entriesOfEngine
  rw [List.map_eq_nil_iff, List.filter_eq_nil_iff]
  intro e he
  rw [List.zip_map_right, List.mem_map] at he
  obtain ⟨a, -, rfl⟩ := he
  simp [startRun_stands]

theorem run_start {t : Tables} (e : Engine) (h : e.runs = t.conds.map startRun) {k : Nat} (hk : k < t.conds.length) :
    e.run k = startRun (t.condition k) := by
  unfold Engine.run Tables.condition
  rw [h, List.getD_eq_getElem?_getD, List.getD_eq_getElem?_getD, List.getElem?_map, List.getElem?_eq_getElem hk]
  rfl

/-- R117, R118: the conditions started, with an empty list and no outputs. -/
theorem follows_start {s : State} (hlength : s.tables.conds.length = 64) (hruns : s.engine.runs = s.tables.conds.map startRun)
    (halarms : s.alarms = []) (houts : s.engine.shedRequest = 0 ∧ s.engine.reduce = ⟨false, false⟩ ∧ s.engine.outRequest = 0) :
    s.Follows := by
  obtain ⟨hshed, hreduce, hout⟩ := houts
  have hrun {k : Nat} (hk : k < 64) := run_start s.engine hruns (hlength.symm ▸ hk)
  refine ⟨hlength, by rw [hruns, List.length_map, hlength], fun k hk => ?_, fun k hk => ?_, ?_, fun c => ?_, ?_⟩
  · rw [hrun hk]
    exact startRun_lawful _
  · rw [hrun hk, startRun_stands, halarms]
    rfl
  · rw [hruns, standingActions_start, hshed]
    rfl
  · rw [hruns, standingActions_start, hreduce]
    cases c <;> rfl
  · rw [hruns, standingActions_start, hout]
    rfl

theorem follows_atReset {s : State} (h : s.EngineAtReset) : s.Follows := by
  obtain ⟨hengine, halarms, htables⟩ := h
  refine follows_start ?_ ?_ halarms ?_
  · rw [htables]
    exact builtinConds_good.1
  · rw [hengine, htables]
    rfl
  · rw [hengine]
    exact ⟨rfl, rfl, rfl⟩

/-- After the outputs are handed they are those of the standing conditions. -/
theorem handOutputs_hands (s : State) : (handOutputs s).engine.Hands (handOutputs s).tables := by
  have htables : (handOutputs s).tables = s.tables := (handOutputs_frame s).2.2.2.2.2.2.1
  rw [handOutputs_engine, htables]
  exact ⟨rfl, fun c => by cases c <;> rfl, rfl⟩

/-- The engine's runs and the list followed, before the outputs are handed. -/
theorem follows_handOutputs {s : State} (hconds : s.tables.conds.length = 64) (hruns : s.engine.runs.length = 64)
    (hlawful : ∀ k < 64, (s.engine.run k).lawful (s.tables.condition k))
    (hlisted : ∀ k < 64, raisedIn k s.alarms = (s.engine.run k).stands) : (handOutputs s).Follows := by
  have htables : (handOutputs s).tables = s.tables := (handOutputs_frame s).2.2.2.2.2.2.1
  have halarms : (handOutputs s).alarms = s.alarms := (handOutputs_frame s).2.2.2.2.2.2.2.2.2.2.1
  have hrun (k : Nat) : (handOutputs s).engine.run k = s.engine.run k := by rw [handOutputs_engine]; rfl
  refine ⟨htables ▸ hconds, by rw [handOutputs_engine]; exact hruns, fun k hk => ?_, fun k hk => ?_, handOutputs_hands s⟩
  · rw [hrun, htables]
    exact hlawful k hk
  · rw [hrun, halarms]
    exact hlisted k hk

theorem visits_index (s : State) : (visits s).map Visit.index = List.range 64 := by
  unfold visits
  rw [List.map_map]
  exact (List.map_congr_left fun _ _ => rfl).trans (List.map_id _)

theorem visits_run (s : State) {k : Nat} (hk : k < 64) :
    ((visits s).map Visit.run).getD k ⟨.idle, 0⟩ = (visit s k).run := by
  unfold visits
  rw [List.map_map, List.getD_eq_getElem?_getD, List.getElem?_map, List.getElem?_range hk]
  rfl

theorem mem_visits {s : State} {v : Visit} (hv : v ∈ visits s) : ∃ k < 64, v = visit s k := by
  obtain ⟨k, hk, rfl⟩ := List.mem_map.1 hv
  exact ⟨k, List.mem_range.1 hk, rfl⟩

theorem visits_bound {s : State} {v : Visit} (hv : v ∈ visits s) : v.index < 64 := by
  obtain ⟨k, hk, rfl⟩ := mem_visits hv
  exact hk

theorem passReports_listOk {s : State} (h : ListOk s.alarms) :
    ListOk (takeReports s (visits s) (visits s) (s.withRuns ((visits s).map Visit.run))).alarms :=
  takeReports_listOk s (visits s) (fun _ hv => visits_bound hv) h

theorem passReports_raised {s : State} (hlist : ListOk s.alarms) (h : s.Follows) {k : Nat} (hk : k < 64) :
    raisedIn k (takeReports s (visits s) (visits s) (s.withRuns ((visits s).map Visit.run))).alarms =
      (visit s k).run.stands := by
  have hraised := takeReports_raised s (visits s) (fun k => (visit s k).run.stands) (l := visits s)
    (s := s.withRuns ((visits s).map Visit.run)) (visits_index s ▸ List.nodup_range) (fun _ hv => visits_bound hv) hlist
    (fun v hv => by
      obtain ⟨j, hj, rfl⟩ := mem_visits hv
      show (visit s j).run.stands = (visit s j).turn.after (raisedIn j s.alarms)
      rw [h.listed j hj]
      exact (passRow_spec (s.point (s.tables.condition j).point) (h.lawful j hj)).2) k
  rw [hraised, visits_index, if_pos (List.mem_range.2 hk)]

/-- R108: a pass, from the list after its reports. -/
theorem takePass_alarms (s : State) :
    (ListOk (takeReports s (visits s) (visits s) (s.withRuns ((visits s).map Visit.run))).alarms → ListOk (takePass s).alarms) ∧
      ∀ k, raisedIn k (takePass s).alarms =
        raisedIn k (takeReports s (visits s) (visits s) (s.withRuns ((visits s).map Visit.run))).alarms := by
  rw [takePass_eq]
  generalize visits s = vs
  have halarms (u : State) : (handOutputs (takePulses vs u)).alarms = u.alarms := by
    simp only [handOutputs_frame, takePulses_frame]
  obtain ⟨hok, hraised⟩ := takeSuppressions_keeps s vs vs
    (handOutputs (takePulses vs (takeReports s vs vs (s.withRuns (vs.map Visit.run)))))
  rw [halarms] at hok hraised
  exact ⟨hok, hraised⟩

theorem takePass_listOk {s : State} (h : ListOk s.alarms) : ListOk (takePass s).alarms :=
  (takePass_alarms s).1 (passReports_listOk h)

/-- What a pass leaves of the tables and the engine. -/
theorem takePass_engine (s : State) : (takePass s).tables = s.tables ∧ (takePass s).engine.runs = (visits s).map Visit.run ∧
    (takePass s).engine.Hands (takePass s).tables := by
  rw [takePass_eq]
  generalize visits s = vs
  have hbase : ∀ u : State, u = takePulses vs (takeReports s vs vs (s.withRuns (vs.map Visit.run))) →
      u.tables = s.tables ∧ u.engine.runs = vs.map Visit.run := by
    rintro u rfl
    simp only [takePulses_frame, takeReports_frame, State.withRuns, and_self]
  obtain ⟨htables, hruns⟩ := hbase _ rfl
  dsimp only
  generalize takePulses vs (takeReports s vs vs (s.withRuns (vs.map Visit.run))) = u at htables hruns
  have hengine : (takeSuppressions s vs vs (handOutputs u)).engine = (handOutputs u).engine := by
    simp only [takeSuppressions_frame]
  have htab : (takeSuppressions s vs vs (handOutputs u)).tables = (handOutputs u).tables := by
    simp only [takeSuppressions_frame]
  rw [hengine, htab]
  refine ⟨?_, ?_, handOutputs_hands u⟩
  · rw [(handOutputs_frame u).2.2.2.2.2.2.1, htables]
  · rw [handOutputs_engine]
    exact hruns

theorem takePass_follows {s : State} (hlist : ListOk s.alarms) (h : s.Follows) : (takePass s).Follows := by
  obtain ⟨htables, hruns, hhands⟩ := takePass_engine s
  have hrun {k : Nat} (hk : k < 64) : (takePass s).engine.run k = (visit s k).run := by
    unfold Engine.run
    rw [hruns]
    exact visits_run s hk
  refine ⟨by rw [htables]; exact h.conds, by rw [hruns]; simp [visits], fun k hk => ?_, fun k hk => ?_, hhands⟩
  · rw [hrun hk, htables]
    exact (passRow_spec (s.point (s.tables.condition k).point) (h.lawful k hk)).1
  · rw [hrun hk, (takePass_alarms s).2 k]
    exact passReports_raised hlist h hk

/-! A Condition Table write (R100, R117). -/

/-- R100, R123: a write leaves the list without an entry of its condition, whether it had one to report or not. -/
theorem takeConditionWrite_alarms (j : Nat) (c : Condition) (s : State) :
    (ListOk s.alarms → ListOk (takeConditionWrite j c s).alarms) ∧
      ∀ k, k ≠ j → raisedIn k (takeConditionWrite j c s).alarms = raisedIn k s.alarms := by
  have halarms : (takeConditionWrite j c s).alarms = s.alarms ∨ (takeConditionWrite j c s).alarms = without j s.alarms := by
    unfold takeConditionWrite
    dsimp only
    rw [(handOutputs_frame _).2.2.2.2.2.2.2.2.2.2.1]
    split_ifs
    · exact .inr (takeReconfigure_alarms j s)
    · exact .inl rfl
  rcases halarms with h | h <;> rw [h]
  · exact ⟨id, fun _ _ => rfl⟩
  · exact ⟨listOk_without j, fun k hk => by rw [raisedIn_without, if_neg hk]⟩

theorem takeConditionWrite_unlisted {j : Nat} (c : Condition) {s : State} (h : raisedIn j s.alarms = (s.engine.run j).stands) :
    raisedIn j (takeConditionWrite j c s).alarms = false := by
  unfold takeConditionWrite
  dsimp only
  rw [(handOutputs_frame _).2.2.2.2.2.2.2.2.2.2.1]
  by_cases hstands : (s.engine.run j).stands = true
  · rw [if_pos (by simp [hstands])]
    exact (congrArg (raisedIn j) (takeReconfigure_alarms j s)).trans (by rw [raisedIn_without, if_pos rfl])
  · dsimp only
    split_ifs
    · exact (congrArg (raisedIn j) (takeReconfigure_alarms j s)).trans (by rw [raisedIn_without, if_pos rfl])
    · rw [h]
      simpa using hstands

theorem takeConditionWrite_follows {j : Nat} {c : Condition} {s : State} (hj : j < 64) (h : s.Follows) :
    (takeConditionWrite j c s).Follows := by
  have hunlisted := takeConditionWrite_unlisted c (h.listed j hj)
  have hothers := (takeConditionWrite_alarms j c s).2
  have hframe (u : State) (hu : u.engine = s.engine ∧ u.tables = s.tables) :
      (handOutputs { u with
        tables := { u.tables with conds := u.tables.conds.set j c }
        engine := { u.engine with runs := u.engine.runs.set j (startRun c) } }) =
        takeConditionWrite j c s → (takeConditionWrite j c s).Follows := by
    intro heq
    have halarms : (takeConditionWrite j c s).alarms = u.alarms := by
      rw [← heq, (handOutputs_frame _).2.2.2.2.2.2.2.2.2.2.1]
    obtain ⟨hengine, htables⟩ := hu
    have hrun {k : Nat} (hk : k < 64) : (s.engine.runs.set j (startRun c)).getD k ⟨.idle, 0⟩ =
        if k = j then startRun c else s.engine.run k := by
      rw [List.getD_eq_getElem?_getD]
      split_ifs with hkj
      · subst hkj
        rw [List.getElem?_set_self (h.runs.symm ▸ hk)]
        rfl
      · rw [List.getElem?_set_ne (Ne.symm hkj), ← List.getD_eq_getElem?_getD]
        rfl
    have hcond {k : Nat} (hk : k < 64) : (s.tables.conds.set j c).getD k builtinUnused =
        if k = j then c else s.tables.condition k := by
      rw [List.getD_eq_getElem?_getD]
      split_ifs with hkj
      · subst hkj
        rw [List.getElem?_set_self (h.conds.symm ▸ hk)]
        rfl
      · rw [List.getElem?_set_ne (Ne.symm hkj), ← List.getD_eq_getElem?_getD]
        rfl
    rw [← heq]
    refine follows_handOutputs ?_ ?_ (fun k hk => ?_) fun k hk => ?_
    · simp [htables, h.conds]
    · simp [hengine, h.runs]
    · show CondRun.lawful ((u.tables.conds.set j c).getD k builtinUnused) ((u.engine.runs.set j (startRun c)).getD k ⟨.idle, 0⟩)
      rw [htables, hengine, hrun hk, hcond hk]
      split_ifs
      · exact startRun_lawful c
      · exact h.lawful k hk
    · show raisedIn k u.alarms = ((u.engine.runs.set j (startRun c)).getD k ⟨.idle, 0⟩).stands
      rw [hengine, hrun hk, ← halarms]
      split_ifs with hkj
      · rw [hkj, hunlisted, startRun_stands]
      · rw [hothers k hkj]
        exact h.listed k hk
  refine hframe _ ?_ rfl
  split_ifs
  · exact ⟨by simp, by simp⟩
  · exact ⟨rfl, rfl⟩

/-! Every effect. -/

theorem listOk_effect {i : Instr} {l : List Part} {s t : State} (he : Effect i l s t) (h : ListOk s.alarms) : ListOk t.alarms := by
  by_cases hframe : Part.alarms ∉ l
  · have halarms : t.alarms = s.alarms := he.changesOnly .alarms hframe
    rwa [halarms]
  have hnil : ListOk [] := ⟨List.nodup_nil, by simp, by simp⟩
  cases he with
  | powerOn addr inputs s _ => exact hnil
  | restart addr s _ =>
    rw [show (restartReset addr s).alarms = [] by simp [restartReset]]
    exact hnil
  | condition j c s _ _ _ _ => exact (takeConditionWrite_alarms j c s).1 h
  | acknowledge w s => exact listOk_acknowledge w h
  | pass s _ => exact takePass_listOk h
  | _ => exact absurd (by simp [shedParts]) hframe

/-- The parts the Condition Engine's laws speak of, but for the timer of its passes. -/
theorem follows_congr {s t : State} (h : s.Follows) (hconds : t.tables.conds = s.tables.conds)
    (hengine : ∃ u, t.engine = { s.engine with passAt := u }) (hraised : ∀ k, raisedIn k t.alarms = raisedIn k s.alarms) :
    t.Follows := by
  obtain ⟨u, hu⟩ := hengine
  have hactions := standingActions_congr hconds s.engine.runs
  have hrun (k : Nat) : t.engine.run k = s.engine.run k := by rw [hu]; rfl
  have hcond (k : Nat) : t.tables.condition k = s.tables.condition k := by rw [Tables.condition, hconds]; rfl
  refine ⟨by rw [hconds]; exact h.conds, by rw [hu]; exact h.runs, fun k hk => ?_, fun k hk => ?_, ?_⟩
  · rw [hrun, hcond]
    exact h.lawful k hk
  · rw [hrun, hraised]
    exact h.listed k hk
  · obtain ⟨h1, h2, h3⟩ := h.hands
    rw [hu]
    exact ⟨by rw [hactions]; exact h1, fun c => by rw [hactions]; exact h2 c, by rw [hactions]; exact h3⟩

theorem engineLawful_effect {i : Instr} {l : List Part} {s t : State} (he : Effect i l s t) (hlist : ListOk s.alarms)
    (h : EngineLawful s) : EngineLawful t := by
  rw [engineLawful_iff] at h ⊢
  obtain ⟨hfollows, hreset⟩ := h
  by_cases hframe : Part.engine ∉ l ∧ Part.alarms ∉ l ∧ Part.tables ∉ l
  · obtain ⟨hengine, halarms, htables⟩ := hframe
    have he1 : t.engine = s.engine := he.changesOnly .engine hengine
    have he2 : t.alarms = s.alarms := he.changesOnly .alarms halarms
    have he3 : t.tables = s.tables := he.changesOnly .tables htables
    refine ⟨follows_congr hfollows (by rw [he3]) ⟨s.engine.passAt, he1⟩ fun k => by rw [he2], fun ha => ?_⟩
    have hstarted : Part.cuts ∉ l ∨ Part.points ∉ l := by cases he <;> simp_all [resetParts, shedParts]
    obtain ⟨h1, h2, h3⟩ := hreset (he.autoload_started hstarted ha)
    exact ⟨he1.trans h1, he2.trans h2, he3.trans h3⟩
  have hpass (hp : s.engine.passAt ≠ none) (ha : s.loader.autoload ≠ none) : False := by
    rw [(hreset ha).1] at hp
    exact hp rfl
  cases he with
  | powerOn addr inputs s _ =>
    have hr : (Machine.powerOn addr inputs s).EngineAtReset := ⟨rfl, rfl, rfl⟩
    exact ⟨follows_atReset hr, fun _ => hr⟩
  | restart addr s _ =>
    have hr : (restartReset addr s).EngineAtReset :=
      ⟨by simp [restartReset], by simp [restartReset], by simp [restartReset]⟩
    exact ⟨follows_atReset hr, fun _ => hr⟩
  | install a x s ha hx =>
    obtain ⟨h1, h2, h3⟩ := hreset (by simp [ha])
    refine ⟨follows_start ?_ rfl h2 ?_, fun hn => absurd rfl hn⟩
    · cases x with
      | none => exact hfollows.conds
      | some x =>
        obtain ⟨-, -, -, -, -, ⟨hlength, -⟩, -⟩ := hx x rfl
        exact hlength
    · show s.engine.shedRequest = 0 ∧ s.engine.reduce = ⟨false, false⟩ ∧ s.engine.outRequest = 0
      rw [h1]
      exact ⟨rfl, rfl, rfl⟩
  | entry u s hu =>
    exact ⟨follows_congr hfollows hu.conds ⟨s.engine.passAt, rfl⟩ fun _ => rfl, fun ha => absurd hu.gate.autoload ha⟩
  | scanList u s hw _ =>
    exact ⟨follows_congr hfollows rfl ⟨s.engine.passAt, rfl⟩ fun _ => rfl, fun ha => absurd hw.autoload ha⟩
  | condition j c s hw hj _ _ =>
    refine ⟨takeConditionWrite_follows hj hfollows, fun ha => absurd hw.autoload ?_⟩
    rwa [show (takeConditionWrite j c s).loader = s.loader by simp [takeConditionWrite, apply_ite]] at ha
  | acknowledge w s =>
    refine ⟨follows_congr hfollows rfl ⟨s.engine.passAt, rfl⟩ (raisedIn_acknowledge w s.alarms), fun ha => ?_⟩
    obtain ⟨h1, h2, h3⟩ := hreset ha
    exact ⟨h1, by show Machine.acknowledge w s.alarms = []; rw [h2]; rfl, h3⟩
  | passTimer u s hp =>
    exact ⟨follows_congr hfollows rfl ⟨u, rfl⟩ fun _ => rfl, fun ha => (hpass hp ha).elim⟩
  | pass s hp =>
    refine ⟨takePass_follows hlist hfollows, fun ha => (hpass hp ?_).elim⟩
    have hloader := takePass_changesOnly s .loader (by simp [shedParts])
    rwa [show (takePass s).loader = s.loader from hloader] at ha
  | _ => exact absurd (by simp [shedParts]) hframe

end Sys2Proof.Machine

section

open Sys2Proof Sys2Proof.Machine

/-- Settles O59: a pass's reports make the list hold RAISED entries for exactly the conditions that stand; every other effect
leaves both sides alone, empties both, or removes a condition from both. -/
theorem everyStepKeepsTheListFollowingConditions : Obligations.EveryStepKeepsTheListFollowingConditions := by
  unfold Obligations.EveryStepKeepsTheListFollowingConditions
  refine ⟨fun s t h hstep => ?_, fun s t hlist h hstep => ?_⟩
  · rw [listLawful_iff] at h ⊢
    exact step_preserves (P := fun u => ListOk u.alarms) (fun _ _ hs => hs) (fun _ _ _ _ he hs => listOk_effect he hs) h hstep
  · rw [listLawful_iff] at hlist
    exact (step_preserves (P := fun u => ListOk u.alarms ∧ EngineLawful u) (fun _ _ hs => hs)
      (fun _ _ _ _ he hs => ⟨listOk_effect he hs.1, engineLawful_effect he hs.1 hs.2⟩) ⟨hlist, h⟩ hstep).2

end

/-! PROOF. O1, O4, O7, O13 and O53: the queue, the resets, the window, the contacts and the laws of the state after reset. -/

namespace Sys2Proof.Machine

/-! The resets. -/

/-- The state after reset is the one power-on reset takes it to at address 1 with low inputs. -/
theorem powerOn_reset : Machine.powerOn 1 0 State.reset = State.reset := rfl

theorem reset_engineAtReset : State.reset.EngineAtReset := ⟨rfl, rfl, rfl⟩

theorem powerOn_eeprom {s : State} (addr : BitVec 6) (inputs : Byte) (h : s.loader.store = none) :
    (Machine.powerOn addr inputs s).eeprom = s.eeprom := by
  simp [Machine.powerOn, cutStore, h]

/-- R94: the inputs as the pins are read. -/
theorem powerOn_input (t : Nat) (levels : Byte) {k : Nat} (hk : k < 8) :
    (PointTable.powerOn t levels).input k = ⟨levels.getLsbD k, false, some (t + 50000)⟩ := by
  unfold PointTable.input PointTable.powerOn
  rw [List.getD_eq_getElem?_getD, List.getElem?_map, List.getElem?_range hk]
  rfl

/-- R97: the measurements are unwritten. -/
theorem unwritten_of_replicate (l : List Point) {k : Nat} (hk : k < 30) : (List.replicate 30 unwritten ++ l).getD k unwritten = unwritten := by
  rw [List.getD_eq_getElem?_getD, List.getElem?_append_left (by simpa using hk)]
  exact List.getElem?_getD_replicate_default_eq unwritten 30 k

/-! The window (R9). -/

theorem goodFrame_iff {f : List Byte} (hlength : f.length = 384) (hsync : f.take 3 = [0x7A, 0xC3, 0x5E]) :
    goodFrame f = crcGood f ∧ badCrcFrame f = !crcGood f := by
  have h : (f.length == frameLength) = true ∧ syncGood f = true := by
    simp [hlength, frameLength, syncGood, hsync, syncPattern]
  simp [goodFrame, badCrcFrame, h.1, h.2]

/-! What Pump Control makes of a line port's event (R136). -/

theorem farSide_launching (p : Side) : farSide (launching p) = p := by cases p <;> rfl

theorem farSide_eq_iff (c : Channel) (p : Side) : farSide c = p ↔ c = launching p := by cases c <;> cases p <;> decide

theorem reactTo_of_not {b u : State} {c : Channel} (h : appeared (sources b c) (sources u c) = false) : reactTo b c u = u := by
  unfold reactTo
  rw [h]
  rfl

theorem reactTo_of_appeared {b u : State} {c : Channel} (h : appeared (sources b c) (sources u c) = true) :
    reactTo b c u = applyPump c ((u.pumps.get c).appearance u.now) u := by
  unfold reactTo
  rw [h]
  rfl

/-- No source appears for either channel. -/
theorem reactBoth_of_not {b u : State} (h : ∀ c, appeared (sources b c) (sources u c) = false) : reactBoth b u = u := by
  rw [reactBoth, reactTo_of_not (h .ab), reactTo_of_not (h .ba)]

/-- A source appears for one channel and for no other. -/
theorem reactBoth_of_appeared {b u : State} {c : Channel} (hc : appeared (sources b c) (sources u c) = true)
    (hd : ∀ d ≠ c, appeared (sources b d) (sources u d) = false) :
    reactBoth b u = applyPump c ((u.pumps.get c).appearance u.now) u := by
  unfold reactBoth
  cases c with
  | ab =>
    rw [reactTo_of_appeared hc, reactTo_of_not]
    rw [sources_applyPump]
    exact hd .ba (by simp)
  | ba => rw [reactTo_of_not (hd .ab (by simp)), reactTo_of_appeared hc]

theorem not_appeared_self (x : Sources) : appeared x x = false := by simp [appeared]

/-- A change of one port, of the engine's trigger set none, is seen by the channel that launches toward it. -/
theorem appeared_iff {s u : State} {p : Side} (hengine : u.engine.reduce = s.engine.reduce)
    (hother : u.ports.get (otherSide p) = s.ports.get (otherSide p)) (c : Channel) :
    appeared (sources s c) (sources u c) = true ↔ c = launching p ∧
      ((s.ports.get p).rfmRun ≠ 3 ∧ (u.ports.get p).rfmRun = 3 ∨ (s.ports.get p).lineState ≠ .lost ∧ (u.ports.get p).lineState = .lost) := by
  by_cases hc : c = launching p
  · subst hc
    simp [appeared, sources, farSide_launching, hengine]
  · have hfar : farSide c = otherSide p := by
      have hne : farSide c ≠ p := fun h => hc ((farSide_eq_iff c p).1 h)
      revert hne
      cases farSide c <;> cases p <;> simp [otherSide]
    have hsame : sources u c = sources s c := by
      unfold sources
      rw [hengine, hfar, hother]
    rw [hsame, not_appeared_self]
    simp [hc]

/-- A line port's event at which neither its run count nor its line state brings a source. -/
theorem reactBoth_of_quiet {s u : State} {p : Side} (hengine : u.engine.reduce = s.engine.reduce)
    (hother : u.ports.get (otherSide p) = s.ports.get (otherSide p))
    (hrun : (u.ports.get p).rfmRun = 3 → (s.ports.get p).rfmRun = 3)
    (hline : (u.ports.get p).lineState = .lost → (s.ports.get p).lineState = .lost) : reactBoth s u = u := by
  refine reactBoth_of_not fun c => Bool.eq_false_iff.2 fun h => ?_
  obtain ⟨-, ⟨hne, heq⟩ | ⟨hne, heq⟩⟩ := (appeared_iff hengine hother c).1 h
  · exact hne (hrun heq)
  · exact hne (hline heq)

/-- A line port's event that brings a source. -/
theorem reactBoth_of_source {s u : State} {p : Side} (hengine : u.engine.reduce = s.engine.reduce)
    (hother : u.ports.get (otherSide p) = s.ports.get (otherSide p))
    (h : (s.ports.get p).rfmRun ≠ 3 ∧ (u.ports.get p).rfmRun = 3 ∨ (s.ports.get p).lineState ≠ .lost ∧ (u.ports.get p).lineState = .lost) :
    reactBoth s u = applyPump (launching p) ((u.pumps.get (launching p)).appearance u.now) u := by
  refine reactBoth_of_appeared ((appeared_iff hengine hother _).2 ⟨rfl, h⟩) fun d hd => Bool.eq_false_iff.2 fun hd' => ?_
  exact hd ((appeared_iff hengine hother d).1 hd').1

theorem get_set_other (a : Pair LinePort) (x : Side) (p : LinePort) : (a.set x p).get (otherSide x) = a.get (otherSide x) := by
  simp

theorem lineStateNow_lost (threshold : Nat) (q : LinePort) : q.lineStateNow threshold = .lost ↔ q.sync ≠ .sync := by
  unfold LinePort.lineStateNow
  split_ifs <;> simp [*]

theorem reevaluate_port (x : Side) (s : State) :
    (reevaluate x s).ports.get x = (s.at x).reassessed s.tables.line.threshold ∧
      (reevaluate x s).ports.get (otherSide x) = s.ports.get (otherSide x) := by
  rw [reevaluate_ports]
  exact ⟨Pair.get_set_same _ _ _, Pair.get_set_other _ _ _⟩

/-! The contact monitor (R34, R35). -/

theorem contactCode_eq (c : Pair (Option Nat)) : contactCode c =
    if c.a.isSome then (if c.b.isSome then 0 else 1) else (if c.b.isSome then 2 else 3) := by
  obtain ⟨a, b⟩ := c
  cases a <;> cases b <;> rfl

theorem dequeue_cons {h : Handed} {l : List Handed} {s : State} (hs : s.inbox = h :: l) : dequeue h s = { s with inbox := l } := by
  unfold dequeue
  rw [hs]
  exact if_pos rfl

end Sys2Proof.Machine

section

open Sys2Proof Sys2Proof.Machine

/-- Settles O53: the state after reset is a power-on reset's, and each law holds of that one. -/
theorem resetStateObeysEveryLaw : Obligations.ResetStateObeysEveryLaw := by
  refine ⟨by decide, by decide, ⟨by decide, by decide, by simp [State.reset], by simp [State.reset], by simp [State.reset, Agent.powerOn]⟩, trivial,
    fun p => by cases p <;> decide, by decide, ?_, powerOn_reset ▸ powerOn_pumpsLawful 1 0 State.reset,
    (portLawful_iff _).2 (powerOn_portLawful 0), powerOn_reset ▸ powerOn_supplyLawful 1 0 State.reset, by decide,
    ⟨builtinTables_good, rfl, rfl, rfl⟩, powerOn_reset ▸ powerOn_shedLawful 1 0 State.reset,
    (listLawful_iff _).2 ⟨List.nodup_nil, by simp [State.reset], by simp [State.reset]⟩,
    (engineLawful_iff _).2 ⟨follows_atReset reset_engineAtReset, fun _ => reset_engineAtReset⟩,
    (pollLawful_iff _).2 ⟨atReset_pollLawful, fun _ => rfl⟩, fun k hk => by simp [State.reset, Sampling.atReset] at hk,
    (filtersLawful_iff _).2 atReset_filters, (recordsLawful_iff _).2 (powerOn_lawful 0 0), ?_⟩
  · rw [statePointsAgree_iff, ← powerOn_reset]
    exact powerOn_agrees 1 0 State.reset
  · exact storeLawful_of_none rfl rfl ⟨rfl, by simp [State.reset]⟩

/-- Settles O1. -/
theorem stepRunsFrontCommand : Obligations.StepRunsFrontCommand := by
  intro c l s h
  rw [step, h]

/-- Settles O4. -/
theorem powerOnAndPinResetSetEveryBlock : Obligations.PowerOnAndPinResetSetEveryBlock := by
  intro addr inputs s
  refine ⟨Machine.powerOn addr inputs s, rfl, rfl, rfl, rfl, rfl, rfl, ?_, fun p => by cases p <;> rfl, rfl, rfl, rfl, rfl, rfl,
    fun k hk => unwritten_of_replicate _ hk, fun k hk hk' => by interval_cases k <;> rfl, rfl, rfl, rfl,
    fun k hk => powerOn_input _ _ hk, rfl, rfl, fun c => by cases c <;> rfl, rfl, rfl, rfl, rfl, powerOn_eeprom addr inputs⟩
  exact ownAddress_toNat addr

/-- Settles O7: an errored frame is counted, and the window's count becomes the completed one before the line state is taken
afresh; no source of a pump channel appears at either event. -/
theorem erroredFramesAreCountedByTheWindow : Obligations.ErroredFramesAreCountedByTheWindow := by
  refine ⟨fun p f s hlength hsync => ?_, fun p s hloss => ?_⟩
  · obtain ⟨hgood, hbad⟩ := goodFrame_iff hlength hsync
    refine ⟨fun hcrc hs => ?_, fun hcrc hs => ?_, fun hcrc hs => ?_⟩
    · simp [exec, execErroredFrame, hbad, hcrc, hs, LinePort.errored, countUp, windowCap, frameLength]
    · simp [exec, execErroredFrame, hbad, hcrc, hs]
    · simp [exec, execGoodFrameArrival, hgood, hcrc, hs]
  · let u := writePoint (windowPoint p) (s.at p).window .valid
      ({ s with now := max s.now (s.at p).windowAt }.setPort p (s.at p).endWindow)
    have hu : u.at p = (s.at p).endWindow := at_setPort p _ _
    have hport := reevaluate_port p u
    have hquiet : reactBoth s (reevaluate p u) = reevaluate p u := by
      refine reactBoth_of_quiet (p := p) (by simp [u]) (hport.2.trans (get_set_other _ _ _)) (fun h => ?_) fun h => ?_
      · rw [hport.1, hu] at h
        exact h
      · rw [hport.1, hu] at h
        exact hloss.2 ((lineStateNow_lost _ (s.at p).endWindow).1 h)
    show Host.Outcome.next (reactBoth s (reevaluate p u)) = _
    rw [hquiet]
    refine congrArg Host.Outcome.next ?_
    unfold reevaluate
    rw [hu]
    rfl

/-- Settles O13. -/
theorem contactIsRestartedAndRepliesAreQueued : Obligations.ContactIsRestartedAndRepliesAreQueued := by
  refine ⟨fun h l x s hs => ?_, fun m code st result s => ?_⟩
  · dsimp only
    simp only [← contactCode_eq]
    refine ⟨fun hsource => ?_, fun h62 h63 => ?_⟩
    · rw [takeManaged, hsource, headOf_headAddress, dequeue_cons hs]
      dsimp only
      have hwindow : s.window = 60000000 * s.tables.mgmt.window := by simp [State.window, seconds]; ring
      unfold contactRestart setContacts
      rw [show ({ s with inbox := l } : State).window = 60000000 * s.tables.mgmt.window from hwindow]
      rfl
    · have hnone : headOf h.sender.source = none := headOf_eq_none h62 h63
      rw [takeManaged, hnone, dequeue_cons hs]
  · have hport : replyPort m = if m.source = 62 then .a else if m.source = 63 then .b else m.port := by
      unfold replyPort headOf
      split_ifs <;> rfl
    dsimp only
    rw [← hport]
    unfold sendReply offer LinePort.offer State.setPort
    rfl

end

/-! PROOF. O6 and O8: the receivers' alignment and the header of a good frame. -/

namespace Sys2Proof.Machine

theorem isSync_iff (b0 b1 b2 : Byte) : isSync b0 b1 b2 = true ↔ b0 = 0x7A ∧ b1 = 0xC3 ∧ b2 = 0x5E := by
  simp [isSync, syncPattern]

theorem isSync_false {b0 b1 b2 : Byte} (h : ¬(b0 = 0x7A ∧ b1 = 0xC3 ∧ b2 = 0x5E)) : isSync b0 b1 b2 = false :=
  Bool.eq_false_iff.2 fun hs => h ((isSync_iff b0 b1 b2).1 hs)

/-- R7: a missed sync that does not end SYNC. -/
theorem miss_of_lt {q : LinePort} (h : q.missed + 1 < 3) :
    q.miss = { q with window := min 1000 (q.window + 1), missed := q.missed + 1, pos := q.pos + 384 } := by
  unfold LinePort.miss
  exact if_neg (by omega)

/-- R7: the third missed sync in a row. -/
theorem miss_of_third {q : LinePort} (h : q.missed + 1 = 3) :
    q.miss = { q with sync := .hunt, missed := 0, window := min 1000 (q.window + 1), pos := q.pos + 3 } := by
  unfold LinePort.miss
  exact if_pos (by omega)

theorem takeMiss_of_sync {p : Side} {s : State} (h : (s.at p).miss.sync = .sync) :
    takeMiss p s = s.setPort p (s.at p).miss := by
  unfold takeMiss
  dsimp only
  rw [at_setPort, if_pos h]

theorem takeMiss_of_loss {p : Side} {s : State} (h : (s.at p).miss.sync ≠ .sync) :
    takeMiss p s = reactBoth s (reevaluate p (s.setPort p (s.at p).miss)) := by
  unfold takeMiss
  dsimp only
  rw [at_setPort, if_neg h]

/-- R9: the line state of a port just replaced, where it changes. -/
theorem reevaluate_setPort {p : Side} {s : State} {q : LinePort} (h : q.lineStateNow s.tables.line.threshold ≠ q.lineState) :
    reevaluate p (s.setPort p q) = writePoint (linePoint p) (q.lineStateNow s.tables.line.threshold).code .valid
      (s.setPort p { q with lineState := q.lineStateNow s.tables.line.threshold }) := by
  rw [reevaluate_of_ne (by rw [at_setPort]; exact h), at_setPort]
  unfold State.setPort
  dsimp only
  rw [Pair.set_set]
  rfl

/-! The header of a good frame (R11). -/

/-- The state after a header is recorded and its launch value taken, before Pump Control reacts. -/
def recorded (p : Side) (h : Header) (s : State) : State :=
  let marked := writePoint (rfmPoint p) (bit h.rfm) .valid
    (writePoint (ufmPoint p) (bit h.ufm) .valid (s.setPort p ((s.at p).record h)))
  if h.launchValid then takeLaunch p h.launch marked else marked

theorem takeHeader_eq (p : Side) (h : Header) (s : State) : takeHeader p h s = reactBoth s (recorded p h s) := rfl

theorem takeLaunch_changesOnly (p : Side) (v : Int) (s : State) : changesOnly [.points] s (takeLaunch p v s) := by
  refine changesOnly.comp (t := { s with points := { s.points with launch := s.points.launch.set p (some ⟨v, s.now, false⟩) } }) ?_
    (spanLoss_changesOnly p _)
  intro q hq
  cases q <;> simp_all [Part.same]

theorem takeLaunch_pointsOnly (p : Side) (v : Int) (s : State) : pointsOnly [lossPoint p] s (takeLaunch p v s) :=
  fun k hk => spanLoss_pointsOnly p { s with points := { s.points with launch := _ } } k hk

theorem spanLoss_launch (p : Side) (s : State) : (spanLoss p s).points.launch = s.points.launch := by
  obtain ⟨v, x, h⟩ := spanLoss_eq_writePoint p s
  rw [h]
  rfl

/-- R89, R90: the span loss a launch value gives. -/
theorem takeLaunch_point (p : Side) (v : Int) {s : State} (hlength : s.points.recs.length = 46) :
    (takeLaunch p v s).point (lossPoint p) =
      if (s.point (inputPoint p)).validity = .invalid then ⟨(s.point (lossPoint p)).value, .invalid, 0⟩
      else ⟨saturate (-32768) 32767 (v - (s.point (inputPoint p)).value), .valid, 0⟩ := by
  have hbound : lossPoint p < s.points.recs.length := by rw [hlength]; cases p <;> simp [lossPoint]
  have hlaunch : ({ s with points := { s.points with launch := s.points.launch.set p (some ⟨v, s.now, false⟩) } } :
      State).points.launch.get p = some ⟨v, s.now, false⟩ := Pair.get_set_same _ _ _
  unfold takeLaunch
  by_cases hinput : (s.point (inputPoint p)).validity = .invalid
  · rw [if_pos hinput, spanLoss_of_none (by rw [hlaunch]; exact spanLossOf_lost (.inr (.inr hinput)))]
    exact point_writePoint_same _ _ _ _ hbound
  · rw [if_neg hinput, spanLoss_of_some (by rw [hlaunch]; exact spanLossOf_fresh rfl hinput)]
    exact point_writePoint_same _ _ _ _ hbound

variable {p : Side} {h : Header} {s : State}

theorem recorded_changesOnly : changesOnly [.line p, .points] s (recorded p h s) := by
  have hport : changesOnly [.line p, .points] s (s.setPort p ((s.at p).record h)) :=
    (setPort_changesOnly p _ s).mono (by simp)
  have hmarks := (hport.comp ((writePoint_changesOnly (ufmPoint p) (bit h.ufm) .valid _).mono (by simp))).comp
    ((writePoint_changesOnly (rfmPoint p) (bit h.rfm) .valid _).mono (by simp))
  unfold recorded
  dsimp only
  split_ifs
  · exact hmarks.comp ((takeLaunch_changesOnly p h.launch _).mono (by simp))
  · exact hmarks

theorem recorded_pointsOnly : pointsOnly [ufmPoint p, rfmPoint p, lossPoint p] s (recorded p h s) := by
  have hport : pointsOnly [ufmPoint p, rfmPoint p, lossPoint p] s (s.setPort p ((s.at p).record h)) := fun _ _ => rfl
  have hmarks := (hport.comp ((writePoint_pointsOnly (ufmPoint p) (bit h.ufm) .valid _).mono (by simp))).comp
    ((writePoint_pointsOnly (rfmPoint p) (bit h.rfm) .valid _).mono (by simp))
  unfold recorded
  dsimp only
  split_ifs
  · exact hmarks.comp ((takeLaunch_pointsOnly p h.launch _).mono (by simp))
  · exact hmarks

theorem recorded_at : (recorded p h s).at p = (s.at p).record h := by
  unfold recorded
  dsimp only
  split_ifs
  · rw [State.at, (takeLaunch_frame p h.launch _).2.2.2.2.2.1]
    exact at_setPort p _ s
  · exact at_setPort p _ s

theorem recorded_marks (hlength : s.points.recs.length = 46) :
    (recorded p h s).point (ufmPoint p) = ⟨bit h.ufm, .valid, 0⟩ ∧ (recorded p h s).point (rfmPoint p) = ⟨bit h.rfm, .valid, 0⟩ := by
  let s1 := s.setPort p ((s.at p).record h)
  let s2 := writePoint (ufmPoint p) (bit h.ufm) .valid s1
  have hlength2 : s2.points.recs.length = 46 := (writePoint_recs_length _ _ _ s1).trans hlength
  have hufm : (writePoint (rfmPoint p) (bit h.rfm) .valid s2).point (ufmPoint p) = ⟨bit h.ufm, .valid, 0⟩ := by
    rw [point_writePoint_other _ _ _ _ _ (by cases p <;> simp [ufmPoint, rfmPoint])]
    exact point_writePoint_same _ _ _ s1 (by show _ < s.points.recs.length; rw [hlength]; cases p <;> simp [ufmPoint])
  have hrfm : (writePoint (rfmPoint p) (bit h.rfm) .valid s2).point (rfmPoint p) = ⟨bit h.rfm, .valid, 0⟩ :=
    point_writePoint_same _ _ _ s2 (by rw [hlength2]; cases p <;> simp [rfmPoint])
  unfold recorded
  dsimp only
  split_ifs
  · rw [takeLaunch_pointsOnly p h.launch _ _ (by cases p <;> simp [ufmPoint, lossPoint]),
      takeLaunch_pointsOnly p h.launch _ _ (by cases p <;> simp [rfmPoint, lossPoint])]
    exact ⟨hufm, hrfm⟩
  · exact ⟨hufm, hrfm⟩

/-- The marks are written to none of the points a span loss is made of. -/
theorem marked_point (k : Nat) (hk : k = inputPoint p ∨ k = lossPoint p) :
    (writePoint (rfmPoint p) (bit h.rfm) .valid
      (writePoint (ufmPoint p) (bit h.ufm) .valid (s.setPort p ((s.at p).record h)))).point k = s.point k := by
  rw [point_writePoint_other _ _ _ _ _ (by rcases hk with rfl | rfl <;> cases p <;> simp [inputPoint, lossPoint, rfmPoint]),
    point_writePoint_other _ _ _ _ _ (by rcases hk with rfl | rfl <;> cases p <;> simp [inputPoint, lossPoint, ufmPoint])]
  rfl

theorem recorded_launch (hlength : s.points.recs.length = 46) :
    (h.launchValid = false → (recorded p h s).points.launch = s.points.launch ∧
      (recorded p h s).point (lossPoint p) = s.point (lossPoint p)) ∧
    (h.launchValid = true → (recorded p h s).points.launch = s.points.launch.set p (some ⟨h.launch, s.now, false⟩) ∧
      (recorded p h s).point (lossPoint p) =
        if (s.point (inputPoint p)).validity = .invalid then ⟨(s.point (lossPoint p)).value, .invalid, 0⟩
        else ⟨saturate (-32768) 32767 (h.launch - (s.point (inputPoint p)).value), .valid, 0⟩) := by
  unfold recorded
  refine ⟨fun hv => ?_, fun hv => ?_⟩
  · rw [hv]
    exact ⟨rfl, marked_point _ (.inr rfl)⟩
  · rw [hv]
    refine ⟨spanLoss_launch p _, ?_⟩
    show (takeLaunch p h.launch _).point (lossPoint p) = _
    rw [takeLaunch_point p h.launch (by simpa [State.setPort] using hlength), marked_point _ (.inl rfl), marked_point _ (.inr rfl)]

/-- R136: a header brings a source exactly when the run count comes to 3. -/
theorem takeHeader_cases (p : Side) (h : Header) (s : State) :
    takeHeader p h s = if ((s.at p).record h).rfmRun = 3 ∧ (s.at p).rfmRun ≠ 3 then
      applyPump (launching p) (((recorded p h s).pumps.get (launching p)).appearance (recorded p h s).now) (recorded p h s)
    else recorded p h s := by
  have hengine : (recorded p h s).engine.reduce = s.engine.reduce :=
    congrArg Engine.reduce (recorded_changesOnly .engine (by simp))
  have hother : (recorded p h s).ports.get (otherSide p) = s.ports.get (otherSide p) :=
    recorded_changesOnly (.line (otherSide p)) (by cases p <;> simp [otherSide])
  have hat : (recorded p h s).ports.get p = (s.at p).record h := recorded_at
  rw [takeHeader_eq]
  split_ifs with hrun
  · exact reactBoth_of_source hengine hother (.inl ⟨hrun.2, by rw [hat]; exact hrun.1⟩)
  · refine reactBoth_of_quiet hengine hother (fun h3 => ?_) fun hl => ?_
    · by_contra hne
      rw [hat] at h3
      exact hrun ⟨h3, hne⟩
    · rw [hat] at hl
      exact hl

end Sys2Proof.Machine

section

open Sys2Proof Sys2Proof.Machine

/-- Settles O6. -/
theorem receiverFindsAndLosesAlignment : Obligations.ReceiverFindsAndLosesAlignment := by
  intro p pos b0 b1 b2 s
  dsimp only
  refine ⟨fun hs hpos => ?_, fun hs hm => ?_, fun hs hline => ?_, fun hs hm hlt => ?_, fun hs hm h3 hline => ?_, fun hs hm => ?_⟩
  · exact congrArg Host.Outcome.next (if_pos ⟨hs, hpos⟩)
  · refine congrArg Host.Outcome.next ((if_pos hs).trans ?_)
    rw [isSync_false hm]
    rfl
  · refine congrArg Host.Outcome.next ((if_pos hs).trans ?_)
    let q : LinePort := { s.at p with sync := .sync, missed := 0, pos := (s.at p).pos + 384 }
    have hne : q.lineStateNow s.tables.line.threshold ≠ q.lineState := by
      rw [show q.lineState = .lost from hline]
      exact fun h => (lineStateNow_lost _ _).1 h rfl
    have hquiet (r : LinePort) (v : Int) (hr : r.rfmRun = (s.at p).rfmRun) :
        reactBoth s (writePoint (linePoint p) v .valid (s.setPort p r)) = writePoint (linePoint p) v .valid (s.setPort p r) := by
      refine reactBoth_of_quiet (p := p) rfl (get_set_other _ _ _) (fun h => ?_) fun _ => hline
      have hr3 : r.rfmRun = 3 := (congrArg LinePort.rfmRun (at_setPort p r s)).symm.trans h
      exact hr.symm.trans hr3
    show reactBoth s (reevaluate p (s.setPort p q)) = _
    rw [reevaluate_setPort hne]
    exact hquiet { q with lineState := q.lineStateNow s.tables.line.threshold } _ rfl
  · refine (if_neg (by simp [isSync_false hm])).trans (congrArg Host.Outcome.next ((if_pos hs).trans ?_))
    rw [takeMiss_of_sync (by rw [miss_of_lt hlt]; exact hs), miss_of_lt hlt]
  · refine ⟨takeMiss p s, ?_, ?_, ?_⟩
    · exact (if_neg (by simp [isSync_false hm])).trans (congrArg Host.Outcome.next (if_pos hs))
    · exact (if_neg (by simp [isSync_false hm])).trans (congrArg Host.Outcome.next (if_pos ⟨hs, h3⟩))
    · have hmiss := miss_of_third h3
      have hnow : (s.at p).miss.lineStateNow s.tables.line.threshold = .lost := by
        rw [lineStateNow_lost, hmiss]
        simp
      have hne : (s.at p).miss.lineStateNow s.tables.line.threshold ≠ (s.at p).miss.lineState := by
        rw [hnow, hmiss]
        exact Ne.symm hline
      have hsource (q : LinePort) (hq : q.lineState = .lost) :
          reactBoth s (writePoint (linePoint p) 2 .valid (s.setPort p q)) =
            applyPump (launching p) ((s.pumps.get (launching p)).appearance s.now)
              (writePoint (linePoint p) 2 .valid (s.setPort p q)) :=
        reactBoth_of_source (p := p) rfl (get_set_other _ _ _)
          (.inr ⟨hline, (congrArg LinePort.lineState (at_setPort p q s)).trans hq⟩)
      rw [takeMiss_of_loss (by rw [hmiss]; simp), reevaluate_setPort hne, hnow, hmiss]
      exact hsource _ rfl
  · refine ⟨(if_neg (by simp [isSync_false hm])).trans (congrArg Host.Outcome.next (if_neg hs)),
      (if_neg (by simp [isSync_false hm])).trans (congrArg Host.Outcome.next (if_neg fun h => hs h.1))⟩

/-- Settles O8. -/
theorem goodFrameHeaderIsRecorded : Obligations.GoodFrameHeaderIsRecorded := by
  intro p f s hgood hs hlength
  dsimp only
  let h := frameHeader f
  have hcases := takeHeader_cases p h s
  have hrun : ((s.at p).record h).rfmRun = if h.rfm then min 3 ((s.at p).rfmRun + 1) else 0 := rfl
  refine ⟨takeHeader p h s, ?_, fun hrfm h3 => ?_, ?_⟩
  · exact (if_pos hgood).trans (congrArg Host.Outcome.next (if_pos hs))
  · exact (if_pos (by simp [hgood, hrfm])).trans (congrArg Host.Outcome.next (if_pos ⟨hs, h3⟩))
  · rw [← hrun]
    have hbase : changesOnly [.line p, .points] s (recorded p h s) := recorded_changesOnly
    have hpoints : pointsOnly [ufmPoint p, rfmPoint p, lossPoint p] s (recorded p h s) := recorded_pointsOnly
    obtain ⟨hufm, hrfm⟩ := recorded_marks (p := p) (h := h) hlength
    obtain ⟨hdark, hlaunch⟩ := recorded_launch (p := p) (h := h) hlength
    have hpump : (recorded p h s).pumps.get (launching p) = s.pumps.get (launching p) := hbase (.pump (launching p)) (by simp)
    have hnow : (recorded p h s).now = s.now := hbase .now (by simp)
    by_cases hsource : ((s.at p).record h).rfmRun = 3 ∧ (s.at p).rfmRun ≠ 3
    · rw [hcases, if_pos hsource, if_pos hsource]
      have hother (k : Nat) (hk : k = ufmPoint p ∨ k = rfmPoint p ∨ k = lossPoint p) (r : PumpResult) (u : State) :
          (applyPump (launching p) r u).point k = u.point k :=
        applyPump_pointsOnly _ _ _ k (by
          rcases hk with rfl | rfl | rfl <;> cases p <;> simp [ufmPoint, rfmPoint, lossPoint, pumpPoint, launching])
      have hlaunches (r : PumpResult) (u : State) : (applyPump (launching p) r u).points.launch = u.points.launch := by
        unfold applyPump
        dsimp only
        split_ifs <;> rfl
      rw [hother _ (.inl rfl), hother _ (.inr (.inl rfl)), hother _ (.inr (.inr rfl)), hlaunches]
      refine ⟨?_, recorded_at, ?_, hufm, hrfm, hdark, hlaunch, ?_⟩
      · exact hbase.trans (applyPump_changesOnly _ _ _) (by simp) (by simp)
      · exact hpoints.trans (applyPump_pointsOnly _ _ _) (by simp) (by simp)
      · rw [applyPump_pump, if_pos rfl, hpump, hnow]
    · rw [hcases, if_neg hsource, if_neg hsource]
      exact ⟨hbase.mono (by simp), recorded_at, hpoints.mono (by simp), hufm, hrfm, hdark, hlaunch, hpump⟩

end

/-! PROOF. O3: a step with no command waiting. -/

namespace Sys2Proof.Machine

/-! A handed message, once taken, has left the inbox and nothing else has (R27). -/

theorem takeManaged_inbox (h : Handed) (s : State) : (takeManaged h s).inbox = (dequeue h s).inbox := by
  unfold takeManaged
  split <;> simp

theorem giveAnswer_inbox (m : Sender) (code : Byte) (a : Answer) : (giveAnswer m code a).inbox = a.state.inbox := by
  unfold giveAnswer
  split <;> simp

/-- What a command whose own part leaves the inbox leaves of it. -/
theorem command_inbox (code : Byte) (fixed : Nat) (controlled : Bool) (m : Sender) (payload : List Byte) {body : State → Answer}
    (hbody : ∀ u, (body u).state.inbox = u.inbox) (s : State) :
    (command code fixed controlled m payload body s).inbox = (dequeue ⟨.command, m, payload⟩ s).inbox := by
  unfold command
  dsimp only
  split
  · rfl
  · split
    · split
      · simp [takeManaged_inbox]
      · rw [giveAnswer_inbox, hbody, takeManaged_inbox]
    all_goals exact takeManaged_inbox _ s

theorem commandOrBroadcast_inbox (code : Byte) (fixed : Nat) (m : Sender) (payload : List Byte) (argsGood broadcastGood : Bool)
    {effect : State → State} (heffect : ∀ u, (effect u).inbox = u.inbox) (s : State) :
    (commandOrBroadcast code fixed m payload argsGood broadcastGood effect s).inbox =
      (dequeue ⟨.command, m, payload⟩ s).inbox := by
  have hmine := command_inbox code fixed true m payload
    (body := fun s1 => if argsGood then Answer.done (effect s1) else Answer.refuse .badValue s1)
    (fun u => by split_ifs <;> simp [Answer.done, Answer.refuse, heffect]) s
  unfold commandOrBroadcast
  split
  · dsimp only
    split_ifs
    · rfl
    · rw [heffect, takeManaged_inbox]
    · exact takeManaged_inbox _ s
  all_goals exact hmine

theorem writeBody_inbox {id : Nat} {owner : Nat → List Byte → State → Option State}
    (howner : ∀ i e u v, owner i e u = some v → v.inbox = u.inbox) (args : List Byte) (u : State) :
    (writeBody id args owner u).state.inbox = u.inbox := by
  unfold writeBody
  dsimp only
  split_ifs
  iterate 5 rfl
  split
  next v hv => exact howner _ _ _ _ hv
  · rfl

theorem writeEntry_inbox {id : Nat} {owner : Nat → List Byte → State → Option State}
    (howner : ∀ i e u v, owner i e u = some v → v.inbox = u.inbox) (m : Sender) (args : List Byte) (s : State) :
    (writeEntry id m args owner s).inbox = (dequeue ⟨.command, m, [writeCode, byteOf id] ++ args⟩ s).inbox :=
  command_inbox _ _ _ _ _ (writeBody_inbox howner args) s

/-- An owner that takes what its reader makes of the entry, leaving the inbox. -/
theorem owner_inbox {α : Type} {read : Option α} {take : α → State} {u v : State} (htake : ∀ x, (take x).inbox = u.inbox)
    (h : read.map take = some v) : v.inbox = u.inbox := by
  obtain ⟨x, -, rfl⟩ := Option.map_eq_some_iff.1 h
  exact htake x

theorem restartBody_inbox (m : Sender) (u : State) : (restartBody m u).state.inbox = u.inbox := by
  unfold restartBody
  split_ifs <;> rfl

theorem forcePumps_inbox (ch : Nat) (md : Mode) (u : State) : (forcePumps ch md u).inbox = u.inbox := by
  unfold forcePumps
  split_ifs <;> simp [setPumpForcing]

/-- R27: the message has left the inbox. -/
def Taken (h : Handed) (s : State) (r : Result) : Prop := ∃ t, r = .next t ∧ t.inbox = (dequeue h s).inbox

theorem taken_writeRow (m : Sender) (c : Byte) (args : List Byte) (s : State) :
    Taken ⟨.command, m, writeCode :: c :: args⟩ s (exec (writeRow m c.toNat (c :: args) args) s) := by
  have entry {id : Nat} {owner : Nat → List Byte → State → Option State} (hid : c.toNat = id)
      (howner : ∀ i e u v, owner i e u = some v → v.inbox = u.inbox) :
      Taken ⟨.command, m, writeCode :: c :: args⟩ s (.next (writeEntry id m args owner s)) := by
    refine ⟨_, rfl, ?_⟩
    rw [writeEntry_inbox howner, ← hid]
    simp [byteOf]
  unfold writeRow
  split
  next h => exact entry h fun _ _ _ _ => owner_inbox fun _ => rfl
  next h => exact entry h fun _ _ _ _ => owner_inbox fun _ => rfl
  next h => exact entry h fun _ _ _ _ => owner_inbox fun _ => rfl
  next h => exact entry h fun _ _ _ _ => owner_inbox fun _ => rfl
  next h => exact entry h fun _ _ u _ => owner_inbox fun _ => by simp [takePollWrite]
  next h => exact entry h fun i _ u _ => owner_inbox fun x => takeConditionWrite_changesOnly i x u .inbox (by simp [shedParts])
  next h => exact entry h fun _ _ _ _ => owner_inbox fun _ => by simp
  next h => exact entry h fun _ _ _ _ => owner_inbox fun _ => by simp
  next h => exact entry h fun _ _ _ _ => owner_inbox fun _ => by simp [adoptPump]
  next h => exact entry h fun _ _ _ _ => owner_inbox fun _ => by simp [takeLineSettings]
  next h => exact entry h fun _ _ _ _ => owner_inbox fun _ => by simp
  next h => exact entry h fun _ _ _ _ => owner_inbox fun _ => rfl
  next hsmall h1 h2 h3 h4 h5 h6 h7 h8 h9 h10 h11 h12 =>
    have hother : otherTable (c :: args) = true := by
      unfold otherTable
      simp only [Bool.or_eq_true, beq_iff_eq, decide_eq_true_eq]
      simp only [imp_false] at *
      bv_omega
    exact ⟨_, if_pos hother, command_inbox _ _ _ _ _ (fun _ => rfl) s⟩

theorem taken_unknown (m : Sender) {payload : List Byte} (h : namesNoCommand payload = true) (hm : m.cls = .mine) (s : State) :
    Taken ⟨.command, m, payload⟩ s (exec (.unknownCommand m payload) s) := by
  refine ⟨_, if_pos (by simp [h, hm]), ?_⟩
  split_ifs
  · rfl
  · rw [sendReply_inbox, takeManaged_inbox]

theorem taken_ignored (m : Sender) {payload : List Byte} (hm : m.cls ≠ .mine) {s : State} (h : broadcastExecutes m payload s = false) :
    Taken ⟨.command, m, payload⟩ s (exec (.ignoredCommand m payload) s) := by
  refine ⟨_, if_neg hm, ?_⟩
  rw [h]
  simp only [Bool.false_eq_true, if_false]
  split_ifs
  · rfl
  · exact takeManaged_inbox _ s

/-- A COMMAND that is none of the three broadcasts is ignored. -/
theorem broadcastExecutes_of_code (m : Sender) {c : Byte} (args : List Byte) (s : State) (h8 : c.toNat ≠ 0x08) (hA : c.toNat ≠ 0x0A)
    (hB : c.toNat ≠ 0x0B) : broadcastExecutes m (c :: args) s = false := by
  unfold broadcastExecutes
  simp [byteAt_cons_zero, h8, hA, hB]

theorem taken_broadcastRow (m : Sender) (c : Byte) (args : List Byte) (hm : m.cls = .all) (s : State) :
    Taken ⟨.command, m, c :: args⟩ s (exec (broadcastRow m c.toNat (c :: args) args) s) := by
  have broadcast {n : Byte} {effect : State → State} {fixed : Nat} {good broadcastGood : Bool} (hn : c.toNat = n.toNat)
      (heffect : ∀ u, (effect u).inbox = u.inbox) :
      Taken ⟨.command, m, c :: args⟩ s (.next (commandOrBroadcast n fixed m (n :: args) good broadcastGood effect s)) := by
    rw [BitVec.eq_of_toNat_eq hn]
    exact ⟨_, rfl, commandOrBroadcast_inbox _ _ _ _ _ _ heffect s⟩
  unfold broadcastRow
  split
  next h => exact broadcast h fun _ => rfl
  next h => exact broadcast h fun u => by simp
  next h => exact broadcast h fun u => forcePumps_inbox _ _ u
  next h8 hA hB => exact taken_ignored m (by simp [hm]) (broadcastExecutes_of_code m args s h8 hA hB)

theorem taken_mineRow (m : Sender) (c : Byte) (args : List Byte) (hm : m.cls = .mine) (s : State) :
    Taken ⟨.command, m, c :: args⟩ s (exec (mineRow m c.toNat (c :: args) args) s) := by
  have code {n : Byte} {body : State → Answer} {fixed : Nat} {controlled : Bool} (hn : c.toNat = n.toNat)
      (hbody : ∀ u, (body u).state.inbox = u.inbox) :
      Taken ⟨.command, m, c :: args⟩ s (.next (command n fixed controlled m (n :: args) body s)) := by
    rw [BitVec.eq_of_toNat_eq hn]
    exact ⟨_, rfl, command_inbox _ _ _ _ _ hbody s⟩
  have broadcast {n : Byte} {effect : State → State} {fixed : Nat} {good broadcastGood : Bool} (hn : c.toNat = n.toNat)
      (heffect : ∀ u, (effect u).inbox = u.inbox) :
      Taken ⟨.command, m, c :: args⟩ s (.next (commandOrBroadcast n fixed m (n :: args) good broadcastGood effect s)) := by
    rw [BitVec.eq_of_toNat_eq hn]
    exact ⟨_, rfl, commandOrBroadcast_inbox _ _ _ _ _ _ heffect s⟩
  unfold mineRow
  split
  next h => exact code h fun _ => rfl
  next h => exact code h fun u => by unfold claimBody; split; rfl; split_ifs <;> rfl
  next h => exact code h fun u => by unfold releaseBody; dsimp only; split_ifs <;> rfl
  next h => exact code h fun u => by unfold readEntryBody; dsimp only; split_ifs <;> rfl
  next h =>
    rw [show c = writeCode from BitVec.eq_of_toNat_eq h]
    cases args with
    | nil => exact ⟨_, rfl, command_inbox _ _ _ _ _ (fun _ => rfl) s⟩
    | cons t args => exact taken_writeRow m t args s
  next h => exact code h fun u => by unfold readPointsBody; dsimp only; split_ifs <;> rfl
  next h => exact code h fun u => rfl
  next h => exact broadcast h fun _ => rfl
  next h => exact code h fun u => by split_ifs <;> rfl
  next h => exact broadcast h fun u => by simp
  next h => exact broadcast h fun u => forcePumps_inbox _ _ u
  next h => exact code h fun u => by unfold pulseBody; dsimp only; split_ifs <;> rfl
  next h => exact code h fun u => by simp [Answer.done]
  next h => exact code h fun u => by simp [Answer.done]
  next h => exact code h fun u => rfl
  next h => exact code h fun u => by unfold storeBody; split_ifs <;> rfl
  next h => exact code h (restartBody_inbox m)
  next =>
    have hunassigned : namesNoCommand (c :: args) = true := by
      unfold namesNoCommand
      simp only [Bool.or_eq_true, beq_iff_eq, decide_eq_true_eq]
      simp only [imp_false] at *
      bv_omega
    exact taken_unknown m hunassigned hm s

/-- R27: every handed message is taken out of the inbox by the command it is. -/
theorem taken_handed (h : Handed) (s : State) : Taken h s (exec (handedCommand h) s) := by
  obtain ⟨kind, m, payload⟩ := h
  cases kind with
  | beat =>
    refine ⟨_, rfl, ?_⟩
    unfold setTime
    split_ifs <;> exact takeManaged_inbox _ s
  | command =>
    unfold handedCommand commandRow
    dsimp only
    split
    next hm => exact taken_unknown m rfl hm s
    next c args hm => exact taken_mineRow m c args hm s
    next c args hm => exact taken_broadcastRow m c args hm s
    next hm => exact taken_ignored m (by simp [hm]) (by simp [broadcastExecutes, byteAt])
    next hm => exact taken_ignored m (by simp [hm]) (by simp [broadcastExecutes, hm])
    next hm => exact taken_ignored m (by simp [hm]) (by simp [broadcastExecutes, hm])

/-! A target taken at a RESTART (R133; log entry 40). -/

theorem placeAll_append (now : Nat) (a b : List PortWord) (q : ControlPort) :
    q.placeAll now (a ++ b) = (q.placeAll now a).placeAll now b := by
  induction a generalizing q with
  | nil => rfl
  | cons w a ih => exact ih _

theorem takeHandedLevel_port (s : State) :
    (takeHandedLevel s).port = ControlPort.placeAll s.now
      (((s.pumps.get .ab).catchUp s.now).words.map (PumpWord.on .ab) ++ ((s.pumps.get .ba).catchUp s.now).words.map (PumpWord.on .ba))
      s.port := by
  rw [placeAll_append]
  rfl

theorem takeHandedLevel_supply (s : State) : (takeHandedLevel s).supply = { s.supply with handed := false } := rfl

theorem takeHandedLevel_pointsOnly (s : State) : pointsOnly [41, 42] s (takeHandedLevel s) := by
  have hab := applyPump_pointsOnly .ab ((s.pumps.get .ab).catchUp s.now) { s with supply := { s.supply with handed := false } }
  have hba := applyPump_pointsOnly .ba ((s.pumps.get .ba).catchUp s.now)
    (applyPump .ab ((s.pumps.get .ab).catchUp s.now) { s with supply := { s.supply with handed := false } })
  exact hab.trans hba (by simp [pumpPoint]) (by simp [pumpPoint])

/-- R133: what a channel does about a target it does not run at. -/
theorem catchUp_cases (now : Nat) (p : Pump) :
    p.catchUp now =
      if p.current = p.target then ⟨p, []⟩
      else if p.state = .run then ⟨{ p with state := .ramp, startAt := none, rampAt := some (now + 10000) }, []⟩
      else if p.state = .probe then ⟨{ p with current := p.target }, [⟨.setpoint, p.target, .pump⟩]⟩
      else ⟨p, []⟩ := by
  unfold Pump.catchUp
  split_ifs with heq hrun hprobe
  · rfl
  · rw [Pump.follow, hrun]
    exact congrArg (fun q => PumpResult.mk q []) (if_neg heq)
  · rw [Pump.follow, hprobe]
  · unfold Pump.follow
    split
    · contradiction
    · contradiction
    all_goals rfl

end Sys2Proof.Machine

section

open Sys2Proof Sys2Proof.Machine

/-- Settles O3. -/
theorem idleStepTakesHandedWorkInOrder : Obligations.IdleStepTakesHandedWorkInOrder := by
  intro s hpending
  dsimp only
  have hstep : step s = idle s := by rw [step, hpending]
  rw [hstep]
  refine ⟨fun hh => ?_, fun h l hh hinbox => ?_, fun v l hh hinbox hbrown => ?_, fun hh hinbox hbrown => ?_⟩
  · refine ⟨takeHandedLevel s, if_pos hh, takeHandedLevel_supply s, fun c => ?_, ?_, takeHandedLevel_changesOnly s, takeHandedLevel_pointsOnly s⟩
    · rw [takeHandedLevel_pump, catchUp_cases]
      refine ⟨fun ⟨hrun, hne⟩ => ?_, fun ⟨hprobe, hne⟩ => ?_, fun hrun hprobe => ?_⟩
      · simp [hrun, hne]
      · simp [hprobe, hne]
      · split_ifs <;> simp_all
    · rw [takeHandedLevel_port]
      congr 1
      have hwords (c : Channel) : ((s.pumps.get c).catchUp s.now).words.map (PumpWord.on c) =
          if (s.pumps.get c).state = .probe ∧ (s.pumps.get c).current ≠ (s.pumps.get c).target then
            [⟨driver c, .setpoint, (s.pumps.get c).target, .pump⟩] else [] := by
        rw [catchUp_cases]
        split_ifs <;> simp_all [PumpWord.on]
      rw [hwords, hwords]
  · have hidle : idle s = exec (handedCommand h) s := by
      unfold idle
      rw [hh, hinbox]
      rfl
    obtain ⟨t, ht, hleft⟩ := taken_handed h s
    refine ⟨hidle, t, hidle.trans ht, ?_, (exec_pending ht).trans hpending⟩
    rw [hleft, dequeue_cons hinbox]
  · have hidle : idle s = exec (.brownOutEvent v) s := by
      unfold idle
      rw [hh, hinbox, hbrown]
      rfl
    have ht : exec (.brownOutEvent v) s = .next (takeBrownOut { s with brownOuts := l }) := by
      refine congrArg (fun u => Host.Outcome.next (takeBrownOut u)) ?_
      rw [hbrown]
      exact if_pos rfl
    exact ⟨hidle, _, hidle.trans ht, takeBrownOut_changesOnly _ .brownOuts (by simp [shedParts]), (exec_pending ht).trans hpending⟩
  · unfold idle
    rw [hh, hinbox, hbrown]
    simp only [Bool.false_eq_true, if_false]
    split_ifs <;> rfl

end

/-! PROOF. O5: the RESTART reset. -/

namespace Sys2Proof.Machine

/-- R155: at a RESTART no forcing and no condition asks for a level. -/
theorem restartBase_shedLevel (addr : BitVec 6) (s : State) :
    (restartBase addr s).shedLevel = max (max s.supply.voltageLevel s.supply.zoneLevel) s.supply.brownHold := by
  show max (max s.supply.voltageLevel s.supply.zoneLevel) (max 0 s.supply.brownHold) = _
  rw [Nat.zero_max]

theorem restartBase_point_low (addr : BitVec 6) (s : State) {k : Nat} (hk : k < 30) :
    (restartBase addr s).point k = ⟨0, .invalid, 0⟩ := by
  show (recsAtRestart s.points.recs).getD k unwritten = unwritten
  unfold recsAtRestart
  rw [List.getD_eq_getElem?_getD, List.getElem?_set_ne (by omega), List.getElem?_set_ne (by omega),
    List.getElem?_append_left (by simpa using hk)]
  exact List.getElem?_getD_replicate_default_eq unwritten 30 k

theorem restartBase_point_owned (addr : BitVec 6) {s : State} (hlength : s.points.recs.length = 46) :
    (restartBase addr s).point 43 = ⟨0, .valid, 0⟩ ∧ (restartBase addr s).point 45 = ⟨1, .valid, 0⟩ := by
  constructor
  · show (recsAtRestart s.points.recs).getD 43 unwritten = _
    simp [recsAtRestart, hlength]
    rfl
  · show (recsAtRestart s.points.recs).getD 45 unwritten = _
    simp [recsAtRestart, hlength]
    rfl

/-- R155: the level after a recomputation at a RESTART is in point 39 where it changed. -/
theorem recomputeAtRestart_level_point {s : State} (hlength : s.points.recs.length = 46) :
    (recomputeAtRestart s).point 39 = if s.shedLevel = s.supply.level then s.point 39 else ⟨s.shedLevel, .valid, 0⟩ := by
  unfold recomputeAtRestart
  split_ifs
  · rfl
  · exact point_writePoint_same 39 _ _ _ (by simp [hlength])

/-- A recomputation at a RESTART writes records of the Point Table alone, and of it only point 39. -/
theorem recomputeAtRestart_points (s : State) :
    (recomputeAtRestart s).points.launch = s.points.launch ∧ (recomputeAtRestart s).points.inputs = s.points.inputs ∧
      (recomputeAtRestart s).points.ageAt = s.points.ageAt ∧ (s.points.deadlines.length ≤ 39 → (recomputeAtRestart s).points.deadlines = s.points.deadlines) := by
  unfold recomputeAtRestart
  split_ifs
  · exact ⟨rfl, rfl, rfl, fun _ => rfl⟩
  · exact ⟨rfl, rfl, rfl, fun hlength => List.set_eq_of_length_le hlength⟩

theorem recomputeAtRestart_outputs (s : State) :
    (recomputeAtRestart s).outputs = { s.outputs with levels := (recomputeAtRestart s).outputs.levels } ∧
      OutputsResolved (recomputeAtRestart s) := by
  unfold recomputeAtRestart
  refine ⟨?_, outputsResolved_resolve _⟩
  split_ifs <;> rfl

end Sys2Proof.Machine

section

open Sys2Proof Sys2Proof.Machine

/-- Settles O5. -/
theorem restartResetKeepsTrafficAndPumps : Obligations.RestartResetKeepsTrafficAndPumps := by
  intro addr s hlength
  refine ⟨fun h => ?_, fun r hr hdue => ?_⟩
  · show execRestartReset addr s = _
    unfold execRestartReset
    split
    next r hr => rw [h r hr]; rfl
    next => rfl
  · refine ⟨recomputeAtRestart (restartBase addr s), ?_, ?_⟩
    · show execRestartReset addr s = _
      unfold execRestartReset
      rw [hr]
      dsimp only
      rw [hdue]
      rfl
    · obtain ⟨hnow, hpending, hinbox, hbrown, hown, hports, htables, hagent, hsampling, hpoll, hengine, halarms, hport, hloader, heeprom,
        hcuts⟩ := recomputeAtRestart_frame (restartBase addr s)
      obtain ⟨hlaunch, hinputs, hage, hdeadlines⟩ := recomputeAtRestart_points (restartBase addr s)
      obtain ⟨houtputs, hresolved⟩ := recomputeAtRestart_outputs (restartBase addr s)
      have hsupply := recomputeAtRestart_supply (restartBase addr s)
      have hlevel := restartBase_shedLevel addr s
      have hpoint (k : Nat) (hk : k ≠ 39) := recomputeAtRestart_point (restartBase addr s) k hk
      have h39 : (restartBase addr s).point 39 = s.point 39 := recsAtRestart_eq _ (by decide) (by decide) (by decide)
      obtain ⟨h43, h45⟩ := restartBase_point_owned addr hlength
      refine ⟨hnow, hpending, heeprom, hcuts, hinbox, hbrown, ?_, fun p => ?_, htables, hagent, hsampling, hpoll, hengine, halarms,
        fun k hk => ?_, fun k hk h30 hk39 hk43 hk45 => ?_, ?_, ?_, ?_, ?_, hlaunch, hinputs, hage, ?_, fun c => ?_, hport, ?_, ?_, ?_, ?_,
        hresolved, hloader⟩
      · rw [hown]
        exact ownAddress_toNat addr
      · rw [State.at, hports]
        cases p <;> rfl
      · rw [hpoint k (by omega), restartBase_point_low addr s hk]
      · rw [hpoint k hk39]
        exact recsAtRestart_eq _ h30 hk43 hk45
      · rw [recomputeAtRestart_level_point (length_recsAtRestart hlength), hsupply, h39]
        rfl
      · rw [hpoint 43 (by decide), h43]
      · rw [hpoint 45 (by decide), h45]
      · exact hdeadlines (by simp [restartBase, PointTable.atRestart])
      · rw [hsupply, hlevel]
        rfl
      · rw [recomputeAtRestart_pump, hsupply]
        rfl
      all_goals (rw [houtputs]; rfl)

end

/-! PROOF. O9 to O12: the Relay Engine. -/

namespace Sys2Proof.Machine

/-! The messages of a frame (R3). -/

theorem bytes_length (m : Message) : m.bytes.length = m.size := by
  simp [Message.bytes, Message.size]
  omega

theorem flatMap_bytes_length (l : List Message) : (l.flatMap Message.bytes).length = bufferTotal l := by
  simp [List.length_flatMap, bufferTotal, bytes_length]

/-- R3: a message in form is read whole, whatever follows it. -/
theorem nextMessage_bytes {m : Message} (h : m.inForm) (rest : List Byte) : nextMessage (m.bytes ++ rest) = some (m, rest) := by
  obtain ⟨hdst, hsrc, hhop, hlen⟩ := h
  have hcount : byteAt (m.bytes ++ rest) 5 = m.payload.length := by
    show (byteOf m.payload.length).toNat = _
    exact toNat_byteOf (by omega)
  have htotal : (m.bytes ++ rest).length = 6 + m.payload.length + rest.length := by
    rw [List.length_append, bytes_length, Message.size]
  unfold nextMessage
  have hfields : byteAt (m.bytes ++ rest) 1 = m.dst.toNat ∧ byteAt (m.bytes ++ rest) 2 = m.src.toNat ∧
      byteAt (m.bytes ++ rest) 3 = m.hop.toNat := ⟨rfl, rfl, rfl⟩
  rw [hcount, htotal, if_neg (by omega), if_neg (by omega), if_neg (by omega), if_neg (by omega)]
  have hpayload : (m.bytes ++ rest).drop 6 = m.payload ++ rest := rfl
  rw [← List.drop_drop, hpayload, List.take_left, List.drop_left]
  rfl

/-- R3: the messages of an area, and whether a malformed one ends it. -/
theorem parseMessages_append {ms : List Message} (hms : ∀ m ∈ ms, m.inForm) {tail : List Byte} (n : Nat)
    (hn : (ms.flatMap Message.bytes ++ tail).length ≤ n) (htail : tail = [] ∨ nextMessage tail = none) :
    parseMessages n (ms.flatMap Message.bytes ++ tail) = (ms, decide (tail ≠ [])) := by
  induction ms generalizing n with
  | nil =>
    cases tail with
    | nil => cases n <;> rfl
    | cons b tail =>
      obtain h | h := htail
      · cases h
      · cases n with
        | zero => rfl
        | succ n => 
          show parseMessages (n + 1) (b :: tail) = _
          unfold parseMessages
          rw [h]
          rfl
  | cons m ms ih =>
    have hm := hms m (by simp)
    rw [List.flatMap_cons, List.append_assoc] at hn ⊢
    rw [List.length_append, bytes_length, Message.size] at hn
    obtain ⟨n, rfl⟩ : ∃ k, n = k + 1 := ⟨n - 1, by omega⟩
    rw [show m.bytes ++ (ms.flatMap Message.bytes ++ tail) =
      m.type :: ([m.dst, m.src, m.hop, m.tag, byteOf m.payload.length] ++ m.payload ++ (ms.flatMap Message.bytes ++ tail)) from rfl]
    unfold parseMessages
    rw [show m.type :: ([m.dst, m.src, m.hop, m.tag, byteOf m.payload.length] ++ m.payload ++ (ms.flatMap Message.bytes ++ tail)) =
      m.bytes ++ (ms.flatMap Message.bytes ++ tail) from rfl, nextMessage_bytes hm]
    dsimp only
    rw [ih (fun x hx => hms x (by simp [hx])) n (by omega)]

end Sys2Proof.Machine

section

open Sys2Proof Sys2Proof.Machine

/-- Settles O9. -/
theorem frameMessagesAreTakenInOrder : Obligations.FrameMessagesAreTakenInOrder := by
  intro p f ms tail s
  refine ⟨fun hused => if_pos hused, fun hused hms hbytes => ?_⟩
  dsimp only
  have hparse (htail : tail = [] ∨ nextMessage tail = none) :
      parseMessages (frameUsed f).length (frameUsed f) = (ms, decide (tail ≠ [])) := by
    rw [hbytes]
    exact parseMessages_append hms _ le_rfl htail
  refine ⟨fun htail => ?_, fun htail hnext => ?_⟩
  · refine (if_neg (Nat.not_lt.2 hused)).trans ?_
    rw [hparse (.inl htail)]
    simp [htail]
  · refine (if_neg (Nat.not_lt.2 hused)).trans ?_
    rw [hparse (.inr hnext)]
    simp [htail]
    rfl

end

namespace Sys2Proof.Machine

/-! The message actions (R12 to R18). -/

/-- The action the table gives a message. -/
def actionOf (v : RelayView) (m : Message) : Action :=
  v.actions.getD (4 * m.typeCode + (match destClass v.own m.dst with | .mine => 0 | .all => 1 | .head => 2 | .other => 3)) .discard

/-- What an action asks of this hut for a message, by its type. -/
def actedOn (v : RelayView) (x : Side) (m : Message) (r : RelayIO) : Action → RelayIO
  | .discard => r
  | .forward => forward x m r
  | .consume =>
    if m.typeCode = 1 then (if v.own = 0 then r else handOff .command x (destClass v.own m.dst) m r)
    else if m.typeCode = 4 then handOff .beat x (destClass v.own m.dst) m r
    else if m.typeCode = 5 then surveyReturn v m r
    else r
  | .copy =>
    if m.typeCode = 1 then forward x m (if v.own = 0 then r else handOff .command x (destClass v.own m.dst) m r)
    else if m.typeCode = 4 then forward x m (handOff .beat x (destClass v.own m.dst) m r)
    else if m.typeCode = 5 then forward x (if m.hop = 0 then m else { m with payload := surveyAppend v m.payload }) r
    else forward x m r

theorem takeMessage_eq (v : RelayView) (x : Side) (m : Message) (r : RelayIO) :
    takeMessage v x m r = actedOn v x m r (actionOf v m) := rfl

variable {v : RelayView}

/-! The append to a SURVEY (R17). -/

theorem surveyConsistent_iff (start n flags : Byte) (entries : List Byte) :
    surveyConsistent (start :: n :: flags :: entries) = true ↔ entries.length = 4 * n.toNat ∧ n.toNat ≤ 15 := by
  unfold surveyConsistent
  simp only [Bool.and_eq_true, decide_eq_true_eq, beq_iff_eq, List.length_cons]
  rw [show byteAt (start :: n :: flags :: entries) 1 = n.toNat from rfl]
  omega

theorem surveyAppend_of_short (v : RelayView) {l : List Byte} (h : l.length < 3) : surveyAppend v l = l := by
  have hnot : surveyConsistent l = false := by
    unfold surveyConsistent
    simp only [show ¬3 ≤ l.length by omega, decide_false, Bool.false_and]
  unfold surveyAppend
  rw [hnot]
  rfl

theorem byteOf_succ (b : Byte) : byteOf (b.toNat + 1) = b + 1 := by
  rw [byteOf]
  bv_omega

/-- R17: this hut's address is past the start-after of a consistent SURVEY. -/
def SurveyDue (v : RelayView) (start n : Byte) (entries : List Byte) : Prop :=
  entries.length = 4 * n.toNat ∧ n.toNat ≤ 15 ∧ v.own ≠ 0 ∧ start.toNat < v.own.toNat

theorem surveyAppend_due {start n flags : Byte} {entries : List Byte} (h : SurveyDue v start n entries) :
    surveyAppend v (start :: n :: flags :: entries) =
      if n.toNat ≤ 14 then start :: byteOf (n.toNat + 1) :: flags :: (entries ++ v.surveyEntry)
      else start :: n :: (flags ||| 1) :: entries := by
  obtain ⟨hlength, hn, hown, hstart⟩ := h
  unfold surveyAppend
  rw [if_pos (by simpa [surveyConsistent_iff, hlength, hn, hstart] using hown)]
  rfl

theorem surveyAppend_not_due {start n flags : Byte} {entries : List Byte} (h : ¬SurveyDue v start n entries) :
    surveyAppend v (start :: n :: flags :: entries) = start :: n :: flags :: entries := by
  unfold surveyAppend
  refine if_neg fun hdue => h ?_
  simp only [Bool.and_eq_true, surveyConsistent_iff, bne_iff_ne, ne_eq, decide_eq_true_eq] at hdue
  exact ⟨hdue.1.1.1, hdue.1.1.2, hdue.1.2, hdue.2⟩

end Sys2Proof.Machine

section

open Sys2Proof Sys2Proof.Machine

/-- Settles O10. -/
theorem messageActionsAndSurveysAreApplied : Obligations.MessageActionsAndSurveysAreApplied := by
  refine ⟨fun v x m r => ?_, fun s start n flags entries => ?_, fun v payload h => surveyAppend_of_short v h⟩
  · dsimp only
    simp only [takeMessage_eq]
    have hact {a : Action} (h : actionOf v m = a) : actedOn v x m r (actionOf v m) = actedOn v x m r a := by rw [h]
    have hcodeEq : m.type.toNat % 8 = m.typeCode := rfl
    rw [hcodeEq]
    refine ⟨hact, hact, fun h hcode => ?_, fun h hcode => ?_, fun h hcode => ?_,
      fun h hcode => ?_, fun h hcode => ?_, fun h hcode h62 h63 => ?_, fun hd h hcode hsrc => ?_, fun h h1 h4 h5 => ?_, fun h h1 h4 h5 => ?_⟩
    · exact (hact h).trans (if_pos hcode)
    · exact (hact h).trans (if_pos hcode)
    · exact (hact h).trans ((if_neg (by omega)).trans (if_pos hcode))
    · exact (hact h).trans ((if_neg (by omega)).trans (if_pos hcode))
    · exact (hact h).trans ((if_neg (by omega)).trans ((if_neg (by omega)).trans (if_pos hcode)))
    · refine (hact h).trans ((if_neg (by omega)).trans ((if_neg (by omega)).trans ((if_pos hcode).trans ?_)))
      rw [surveyReturn, headOf_eq_none h62 h63]
    · refine (hact h).trans ((if_neg (by omega)).trans ((if_neg (by omega)).trans ((if_pos hcode).trans ?_)))
      rw [surveyReturn, hsrc, headOf_headAddress]
      rfl
    · exact (hact h).trans ((if_neg h1).trans ((if_neg h4).trans (if_neg h5)))
    · exact (hact h).trans ((if_neg h1).trans ((if_neg h4).trans (if_neg h5)))
  · dsimp only
    refine ⟨fun hdue h14 => ?_, fun hdue h15 => ?_, fun hdue => surveyAppend_not_due (v := relayView s) hdue⟩
    · rw [surveyAppend_due (v := relayView s) hdue, if_pos h14, byteOf_succ]
      rfl
    · rw [surveyAppend_due (v := relayView s) hdue, if_neg (by omega)]

end

namespace Sys2Proof.Machine

/-! The transmitted frame (R22 to R25). -/

/-- R22: what a frame takes from its two sources fits the message area, and each source stops at the head that does not fit. -/
theorem fillFrame_spec (s : State) (x : Side) :
    (s.at (otherSide x)).relay = (fillFrame s x).relayed ++ (fillFrame s x).relayLeft ∧
      (s.at x).queue = (fillFrame s x).inserted ++ (fillFrame s x).queueLeft ∧
      bufferTotal (fillFrame s x).relayed + bufferTotal ((fillFrame s x).inserted.map Queued.msg) ≤ 370 ∧
      (∀ m l, (fillFrame s x).relayLeft = m :: l → 370 < bufferTotal (fillFrame s x).relayed + m.size) ∧
      (∀ q l, (fillFrame s x).queueLeft = q :: l →
        370 < bufferTotal (fillFrame s x).relayed + bufferTotal ((fillFrame s x).inserted.map Queued.msg) + q.msg.size) := by
  have hrelay := fillFrom_spec Message.size areaLength (s.at (otherSide x)).relay
  have hqueue := fillFrom_spec (fun q : Queued => q.msg.size) (areaLength - bufferTotal (fillFrame s x).relayed) (s.at x).queue
  have hsizes : ((fillFrame s x).inserted.map fun q : Queued => q.msg.size).sum = bufferTotal ((fillFrame s x).inserted.map Queued.msg) := by
    rw [bufferTotal, List.map_map]
    rfl
  obtain ⟨hrelayed, hroom, hstop⟩ := hrelay
  obtain ⟨hinserted, hleft, hstop'⟩ := hqueue
  have hroom : bufferTotal (fillFrame s x).relayed ≤ 370 := hroom
  have hleft : ((fillFrame s x).inserted.map fun q : Queued => q.msg.size).sum ≤ 370 - bufferTotal (fillFrame s x).relayed := hleft
  rw [hsizes] at hleft
  refine ⟨hrelayed.symm, hinserted.symm, by omega, fun m l h => ?_, fun q l h => ?_⟩
  · exact hstop m (by rw [show (fillFrom Message.size areaLength (s.at (otherSide x)).relay).2 = m :: l from h]; rfl)
  · have hq : 370 - bufferTotal (fillFrame s x).relayed <
        ((fillFrame s x).inserted.map fun q : Queued => q.msg.size).sum + q.msg.size :=
      hstop' q (by rw [show (fillFrom (fun q : Queued => q.msg.size) (areaLength - bufferTotal (fillFrame s x).relayed) (s.at x).queue).2 = q :: l from h]; rfl)
    omega

theorem Fill.area_length (f : Fill) : f.area.length = bufferTotal f.relayed + bufferTotal (f.inserted.map Queued.msg) := by
  rw [Fill.area, flatMap_bytes_length, bufferTotal_append]

theorem restartAfter_eq (f : Fill) (r : Option RestartPending) :
    restartAfter f r = r.map (fun r => if f.inserted.any (fun m => m.restartReply) then { r with due := true } else r) := by
  cases r with
  | none => rfl
  | some r =>
    unfold restartAfter
    dsimp only [Option.map_some]
    split_ifs <;> rfl

theorem formHeader_eq (s : State) (x : Side) (used : Nat) :
    formHeader s x used =
      { number := (s.at x).frameNumber.toNat, sender := s.ownAddr,
        ufm := decide ((s.at (otherSide x)).sync ≠ .sync) || (s.at (otherSide x)).ufm, rfm := decide ((s.at x).sync ≠ .sync),
        launchValid := decide ((s.point (launchPoint x)).validity ≠ .invalid),
        ufmOrigin := if (s.at (otherSide x)).sync ≠ .sync then s.ownAddr
          else if (s.at (otherSide x)).ufm then (s.at (otherSide x)).ufmOrigin else 0,
        launch := if (s.point (launchPoint x)).validity = .invalid then 0 else (s.point (launchPoint x)).value, used := used } := by
  unfold formHeader
  dsimp only
  congr 1
  · cases (s.at (otherSide x)).sync <;> rfl
  · cases (s.at x).sync <;> rfl
  · cases (s.point (launchPoint x)).validity <;> rfl
  · cases (s.at (otherSide x)).sync <;> rfl

/-- The state a transmit event takes its frame in: the clock at the event. -/
def State.atTransmit (s : State) (p : Side) : State := s.reach (s.at p).transmitAt

theorem transmit_at (p : Side) (s : State) :
    (transmit p s).at p = { s.at p with
        queue := (fillFrame s p).queueLeft, frameNumber := (s.at p).frameNumber + 1, transmitAt := (s.at p).transmitAt + 1000,
        sent := buildFrame (formHeader s p (fillFrame s p).area.length) (fillFrame s p).area } ∧
      (transmit p s).at (otherSide p) = { s.at (otherSide p) with relay := (fillFrame s p).relayLeft } := by
  constructor
  · exact Pair.get_set_same _ _ _
  · unfold transmit State.at
    dsimp only
    rw [get_set_other, Pair.get_set_same]

end Sys2Proof.Machine

section

open Sys2Proof Sys2Proof.Machine

/-- Settles O11. -/
theorem transmitTakesWholeMessagesFromTheHeads : Obligations.TransmitTakesWholeMessagesFromTheHeads := by
  intro p s
  let u := s.atTransmit p
  obtain ⟨hat, hother⟩ := transmit_at p u
  obtain ⟨hrelay, hqueue, hfits, hrelayStop, hqueueStop⟩ := fillFrame_spec u p
  refine ⟨transmit p u, rfl, ?_, rfl, (fillFrame u p).relayed, (fillFrame u p).inserted, ?_⟩
  · exact (reach_changesOnly _ s).trans (transmit_changesOnly p u) (by simp) (by simp)
  · dsimp only
    rw [hat, hother]
    refine ⟨hrelay, hqueue, hfits, hrelayStop, hqueueStop, rfl, ?_, ?_⟩
    · rw [formHeader_eq, Fill.area_length]
      rfl
    · show ({ u.agent with restart := restartAfter (fillFrame u p) u.agent.restart } : Agent) = _
      rw [restartAfter_eq]
      rfl

end

namespace Sys2Proof.Machine

/-! A frame read back (R1, R2, R3). -/

theorem length_padTo (n : Nat) (l : List Byte) : (padTo n l).length = n := by
  simp [padTo]
  omega

theorem take_padTo {n : Nat} {l : List Byte} (h : l.length ≤ n) : (padTo n l).take l.length = l := by
  rw [padTo, List.take_take, Nat.min_eq_left h, List.take_left]

theorem length_headerBytes (h : Header) : h.bytes.length = 9 := rfl

theorem buildFrame_length (h : Header) (area : List Byte) : (buildFrame h area).length = 384 := by
  simp [buildFrame, syncPattern, length_headerBytes, length_padTo, areaLength]

/-- R2: the frame built has good sync and good CRC. -/
theorem buildFrame_good (h : Header) (area : List Byte) : goodFrame (buildFrame h area) = true := by
  have hcovered : (h.bytes ++ padTo areaLength area).length = 379 := by
    rw [List.length_append, length_headerBytes, length_padTo]
    rfl
  have hafter : (buildFrame h area).drop 3 = h.bytes ++ padTo areaLength area ++ bytes16 (crc16 (h.bytes ++ padTo areaLength area)).toNat :=
    rfl
  have hcrc : halfAt (buildFrame h area) 382 = (crc16 (h.bytes ++ padTo areaLength area)).toNat := by
    have hat := halfAt_append_right (l := h.bytes ++ padTo areaLength area) (bytes16 (crc16 (h.bytes ++ padTo areaLength area)).toNat) 0
    rw [hcovered] at hat
    refine Eq.trans ?_ (hat.trans ?_)
    · rfl
    · simpa using halfAt_bytes16_zero [] (crc16 (h.bytes ++ padTo areaLength area)).isLt
  have hsync : syncGood (buildFrame h area) = true := rfl
  unfold goodFrame
  rw [buildFrame_length, hsync, crcGood, hafter, hcrc, ← hcovered, List.take_left]
  simp [frameLength]

theorem marks_bits (h : Header) :
    h.marks.getLsbD 0 = h.ufm ∧ h.marks.getLsbD 1 = h.rfm ∧ h.marks.getLsbD 2 = h.launchValid := by
  unfold Header.marks
  cases h.ufm <;> cases h.rfm <;> cases h.launchValid <;> decide

/-- R1: the header read from a frame is the one it was built with. -/
theorem frameHeader_buildFrame {h : Header} (area : List Byte) (hnumber : h.number < 65536) (hlaunch : isSigned16 h.launch)
    (hused : h.used < 65536) : frameHeader (buildFrame h area) = h := by
  obtain ⟨hufm, hrfm, hvalid⟩ := marks_bits h
  let tail := padTo areaLength area ++ bytes16 (crc16 (h.bytes ++ padTo areaLength area)).toNat
  have hframe : buildFrame h area = syncPattern ++ (bytes16 h.number ++ ([h.sender, h.marks, h.ufmOrigin] ++
      (bytesSigned h.launch ++ (bytes16 h.used ++ tail)))) := by
    simp [buildFrame, Header.bytes, tail, List.append_assoc]
  have hnumberAt : halfAt (buildFrame h area) 3 = h.number := by
    rw [hframe]
    exact halfAt_bytes16_zero ([h.sender, h.marks, h.ufmOrigin] ++ (bytesSigned h.launch ++ (bytes16 h.used ++ tail))) hnumber
  have hlaunchAt : signedAt (buildFrame h area) 8 = h.launch := by
    rw [hframe]
    exact signedAt_bytesSigned_zero (bytes16 h.used ++ tail) hlaunch
  have husedAt : halfAt (buildFrame h area) 10 = h.used := by
    rw [hframe]
    exact halfAt_bytes16_zero tail hused
  unfold frameHeader
  rw [hnumberAt, hlaunchAt, husedAt]
  show Header.mk h.number h.sender (h.marks.getLsbD 0) (h.marks.getLsbD 1) (h.marks.getLsbD 2) h.ufmOrigin h.launch h.used = h
  rw [hufm, hrfm, hvalid]

/-- R1: the used part read from a frame is the area it was built with. -/
theorem frameUsed_buildFrame {h : Header} {area : List Byte} (hused : h.used = area.length) (hfits : area.length ≤ 370)
    (hheader : frameHeader (buildFrame h area) = h) : frameUsed (buildFrame h area) = area := by
  have hafter : (buildFrame h area).drop 12 = padTo areaLength area ++ bytes16 (crc16 (h.bytes ++ padTo areaLength area)).toNat := rfl
  have harea : ((buildFrame h area).drop 12).take areaLength = padTo areaLength area := by
    rw [hafter]
    exact List.take_left' (length_padTo _ _)
  rw [frameUsed, harea, hheader, hused]
  exact take_padTo hfits

theorem relay_inForm {s : State} (h : MessagesInForm s) (x : Side) : ∀ m ∈ (s.at x).relay, m.inForm := by
  obtain ⟨ha, hb, -, -⟩ := h
  cases x
  · exact ha
  · exact hb

theorem queue_inForm {s : State} (h : MessagesInForm s) (x : Side) : ∀ q ∈ (s.at x).queue, q.msg.inForm := by
  obtain ⟨-, -, ha, hb⟩ := h
  cases x
  · exact ha
  · exact hb

theorem formHeader_fits (s : State) (x : Side) {used : Nat} (hlaunch : isSigned16 (s.point (launchPoint x)).value) :
    (formHeader s x used).number < 65536 ∧ isSigned16 (formHeader s x used).launch := by
  refine ⟨(s.at x).frameNumber.isLt, ?_⟩
  unfold formHeader
  dsimp only
  split_ifs
  · exact ⟨by decide, by decide⟩
  · exact hlaunch

end Sys2Proof.Machine

section

open Sys2Proof Sys2Proof.Machine

/-- Settles O12. -/
theorem sentFrameReadsBackWhole : Obligations.SentFrameReadsBackWhole := by
  intro p s t hform hlaunch ht
  let u := s.atTransmit p
  obtain rfl : transmit p u = t := Host.Outcome.next.inj ht
  obtain ⟨hat, hother⟩ := transmit_at p u
  obtain ⟨hrelay, hqueue, hfits, -, -⟩ := fillFrame_spec u p
  have harea := Fill.area_length (fillFrame u p)
  obtain ⟨hnumber, hlaunch⟩ := formHeader_fits u p (used := (fillFrame u p).area.length) hlaunch
  have hheader := frameHeader_buildFrame (fillFrame u p).area hnumber hlaunch (by
    show (fillFrame u p).area.length < 65536
    omega)
  have hused := frameUsed_buildFrame rfl (by omega) hheader
  dsimp only
  rw [hat, hother]
  dsimp only
  rw [hused, hheader, formHeader_eq]
  refine ⟨buildFrame_good _ _, rfl, rfl, rfl, rfl, rfl, rfl, rfl, (fillFrame u p).relayed, (fillFrame u p).inserted, hrelay, hqueue, ?_, ?_⟩
  · rw [bufferTotal_append]
    exact harea
  · have hmessages : ∀ m ∈ (fillFrame u p).relayed ++ (fillFrame u p).inserted.map Queued.msg, m.inForm := by
      intro m hm
      rcases List.mem_append.1 hm with hm | hm
      · exact relay_inForm hform (otherSide p) m (hrelay ▸ List.mem_append_left _ hm)
      · obtain ⟨q, hq, rfl⟩ := List.mem_map.1 hm
        exact queue_inForm hform p q (hqueue ▸ List.mem_append_left _ hq)
    have hparse := parseMessages_append hmessages (tail := []) (fillFrame u p).area.length (by rw [List.append_nil]; exact le_rfl) (.inl rfl)
    rw [List.append_nil] at hparse
    exact hparse

end

/-! PROOF. O14, O16 and O18: the tests every command meets, IDENTIFY and READ ENTRY, and the refusals of WRITE ENTRY. -/

namespace Sys2Proof.Machine

/-- The owner of a table. -/
def ownerOf : Nat → Nat → List Byte → State → Option State
  | 1 => ownAction
  | 2 => ownScan
  | 3 => ownCalibration
  | 4 => ownCurve
  | 5 => ownPoll
  | 6 => ownCondition
  | 7 => ownShed
  | 8 => ownSupply
  | 9 => ownPump
  | 10 => ownLine
  | 11 => ownIdle
  | 12 => ownManagement
  | _ => fun _ _ _ => none

/-- R43: the row of a table's WRITE ENTRY is that write at the table's owner. -/
theorem exec_writeRow {id : Nat} (h1 : 1 ≤ id) (h12 : id ≤ 12) (m : Sender) (l args : List Byte) (s : State) :
    exec (writeRow m id l args) s = .next (writeEntry id m args (ownerOf id) s) := by
  interval_cases id <;> rfl

theorem writeRow_other {id : Nat} (h : ¬(1 ≤ id ∧ id ≤ 12)) (m : Sender) (l args : List Byte) :
    writeRow m id l args = .writeEntryOtherTable m l := by
  unfold writeRow
  split
  case h_13 => rfl
  all_goals omega

theorem otherTable_cons (id : Byte) (l : List Byte) : otherTable (id :: l) = true ↔ ¬(1 ≤ id.toNat ∧ id.toNat ≤ 12) := by
  unfold otherTable
  simp only [Bool.or_eq_true, beq_iff_eq, decide_eq_true_eq]
  bv_omega

/-- R43, step 8: an owner takes exactly the entries it accepts. -/
theorem ownerOf_isSome (id i : Nat) (e : List Byte) (s : State) : (ownerOf id i e s).isSome = entryAccepted id i e := by
  unfold ownerOf entryAccepted
  split <;> simp [ownAction, ownScan, ownCalibration, ownCurve, ownPoll, ownCondition, ownShed, ownSupply, ownPump, ownLine, ownIdle,
    ownManagement]

/-- R27, R30: the row of a COMMAND of class MINE with an assigned code is a command with that code. -/
theorem exec_commandRow {m : Sender} {c : Byte} (hm : m.cls = .mine) (h1 : 1 ≤ c.toNat) (h17 : c.toNat ≤ 17) (args : List Byte) (s : State) :
    ∃ body, exec (commandRow m (c :: args)) s =
      .next (command c (fixedPart c.toNat) (isControlled c.toNat) m (c :: args) body s) := by
  have hrow : commandRow m (c :: args) = mineRow m c.toNat (c :: args) args := by
    unfold commandRow
    rw [hm]
  have hbroadcast (code : Byte) (fixed : Nat) (payload : List Byte) (good broadcastGood : Bool) (effect : State → State) :
      commandOrBroadcast code fixed m payload good broadcastGood effect s =
        command code fixed true m payload (fun s1 => if good then Answer.done (effect s1) else Answer.refuse .badValue s1) s := by
    rw [commandOrBroadcast, hm]
  have hwrite (id : Byte) (l : List Byte) : ∃ body, exec (writeRow m id.toNat (id :: l) l) s = 
      .next (command writeCode 3 true m (writeCode :: id :: l) body s) := by
    by_cases hid : 1 ≤ id.toNat ∧ id.toNat ≤ 12
    · rw [exec_writeRow hid.1 hid.2]
      unfold writeEntry
      rw [byteOf_toNat]
      exact ⟨_, rfl⟩
    · rw [writeRow_other hid]
      exact ⟨_, if_pos ((otherTable_cons id l).2 hid)⟩
  rw [hrow]
  unfold mineRow
  have hc {n : Byte} (hn : c.toNat = n.toNat) : c = n := BitVec.eq_of_toNat_eq hn
  split
  next h => rw [hc (n := 0x01) h]; exact ⟨_, rfl⟩
  next h => rw [hc (n := 0x02) h]; exact ⟨_, rfl⟩
  next h => rw [hc (n := 0x03) h]; exact ⟨_, rfl⟩
  next h => rw [hc (n := 0x04) h]; exact ⟨_, rfl⟩
  next h =>
    rw [hc (n := 0x05) h]
    cases args with
    | nil => exact ⟨_, rfl⟩
    | cons id l => exact hwrite id l
  next h => rw [hc (n := 0x06) h]; exact ⟨_, rfl⟩
  next h => rw [hc (n := 0x07) h]; exact ⟨_, rfl⟩
  next h => rw [hc (n := 0x08) h]; exact ⟨_, congrArg Host.Outcome.next (hbroadcast _ _ _ _ _ _)⟩
  next h => rw [hc (n := 0x09) h]; exact ⟨_, rfl⟩
  next h => rw [hc (n := 0x0A) h]; exact ⟨_, congrArg Host.Outcome.next (hbroadcast _ _ _ _ _ _)⟩
  next h => rw [hc (n := 0x0B) h]; exact ⟨_, congrArg Host.Outcome.next (hbroadcast _ _ _ _ _ _)⟩
  next h => rw [hc (n := 0x0C) h]; exact ⟨_, rfl⟩
  next h => rw [hc (n := 0x0D) h]; exact ⟨_, rfl⟩
  next h => rw [hc (n := 0x0E) h]; exact ⟨_, rfl⟩
  next h => rw [hc (n := 0x0F) h]; exact ⟨_, rfl⟩
  next h => rw [hc (n := 0x10) h]; exact ⟨_, rfl⟩
  next h => rw [hc (n := 0x11) h]; exact ⟨_, rfl⟩
  next =>
    simp only [imp_false] at *
    omega

/-- R30: a command refused by the tests every command meets. -/
theorem command_of_early {fixed : Nat} {controlled : Bool} {m : Sender} {payload : List Byte} {s : State} {st : Status} (code : Byte)
    (body : State → Answer) (haddr : s.ownAddr ≠ 0) (hm : m.cls = .mine)
    (h : earlyRefusal fixed controlled m payload (s.after m payload) = some st) :
    command code fixed controlled m payload body s = sendReply m code st [] (s.after m payload) := by
  simp only [command, if_neg haddr, hm, h]

theorem takeManaged_lockRefuses (id i : Nat) (e : List Byte) (h : Handed) (s : State) :
    lockRefuses id i e (takeManaged h s) = lockRefuses id i e s := by
  obtain ⟨c, hagent⟩ := takeManaged_agent h s
  unfold lockRefuses
  rw [hagent, (takeManaged_frame h s).2.2.2.2.2.1]

/-- R43: the tests of a WRITE ENTRY after those every command meets. -/
theorem writeBody_eq (id : Nat) (i : Byte) (e : List Byte) (owner : Nat → List Byte → State → Option State) (u : State) :
    writeBody id (i :: e) owner u =
      if e.length < entrySize id then .refuse .badValue u
      else if entryCount id ≤ i.toNat then .refuse .badIndex u
      else if u.loader.autoload.isSome then .refuse .busy u
      else if lockRefuses id i.toNat (e.take (entrySize id)) u then .refuse .locked u
      else if u.agent.store.isSome then .refuse .busy u
      else (owner i.toNat (e.take (entrySize id)) u).elim (.refuse .badValue u) .done := by
  unfold writeBody
  dsimp only [List.drop_succ_cons, List.drop_zero, byteAt_cons_zero, List.length_cons]
  have hlength : (e.length + 1 < 1 + entrySize id) = (e.length < entrySize id) := propext (by omega)
  simp only [hlength]
  iterate 5 congr 1
  rw [List.drop_succ_cons, List.drop_zero]
  cases owner i.toNat (e.take (entrySize id)) u <;> rfl

end Sys2Proof.Machine

section

open Sys2Proof Sys2Proof.Machine

/-- Settles O14: every row of a COMMAND of class MINE makes the same tests first. -/
theorem earlyRefusalsChangeNothingElse : Obligations.EarlyRefusalsChangeNothingElse := by
  intro m c args s hm haddr h1 h17
  obtain ⟨body, hbody⟩ := exec_commandRow hm h1 h17 args s
  dsimp only
  rw [hbody]
  have hrefused {st : Status} (h : earlyRefusal (fixedPart c.toNat) (isControlled c.toNat) m (c :: args) (s.after m (c :: args)) = some st) :=
    congrArg (Host.Outcome.next (φ := Fault) (ρ := Refusal)) (command_of_early c body haddr hm h)
  have hlength : (c :: args).length = 1 + args.length := by rw [List.length_cons, Nat.add_comm]
  refine ⟨fun hshort => hrefused ?_, fun hlong hrestart => hrefused ?_, fun hlong hrestart hcontrolled hholds => hrefused ?_⟩
  · rw [earlyRefusal, hlength, if_pos hshort]
  · rw [earlyRefusal, hlength, if_neg (by omega), takeManaged_restart, if_pos (Option.isSome_iff_ne_none.2 hrestart)]
  · rw [earlyRefusal, hlength, if_neg (by omega), takeManaged_restart, hrestart, holdsControl_takeManaged, hcontrolled, hholds]
    rfl

/-- Settles O16. -/
theorem identifyAndReadEntryAnswer : Obligations.IdentifyAndReadEntryAnswer := by
  intro m id i count extra s
  refine ⟨fun hreach => ⟨?_, rfl⟩, fun hreach => ?_⟩
  · refine congrArg Host.Outcome.next ((command_of_reaches 0x01 _ hreach).trans ?_)
    obtain ⟨c, hagent⟩ := takeManaged_agent ⟨.command, m, 0x01 :: extra⟩ s
    have hown : (s.after m (0x01 :: extra)).ownAddr = s.ownAddr := by simp
    have hloader : (s.after m (0x01 :: extra)).loader = s.loader := by simp
    have hports : (s.after m (0x01 :: extra)).ports = s.ports := by simp
    show sendReply m 0x01 .done (identity (s.after m (0x01 :: extra)) (replyPort m)) (s.after m (0x01 :: extra)) = _
    refine congrArg (fun r => sendReply m 0x01 .done r (s.after m (0x01 :: extra))) ?_
    unfold identity
    simp only [hown, hloader, hagent, State.at, hports]
    rfl
  · refine congrArg Host.Outcome.next ((command_of_reaches 0x04 _ hreach).trans ?_)
    have htables : (s.after m (0x04 :: id :: i :: count :: extra)).tables = s.tables := by simp
    generalize s.after m (0x04 :: id :: i :: count :: extra) = u at htables ⊢
    unfold readEntryBody readStatus
    dsimp only [byteAt_cons_zero, byteAt_cons_succ]
    rw [htables, byteOf_toNat, byteOf_toNat]
    split_ifs <;> rfl

/-- Settles O18. -/
theorem writeRefusalsComeInOrder : Obligations.WriteRefusalsComeInOrder := by
  intro m id i e l s
  refine ⟨fun hother hreach => ?_, fun h1 h12 hreach => ?_⟩
  · exact (if_pos hother).trans (congrArg Host.Outcome.next (command_of_reaches writeCode _ hreach))
  · dsimp only
    let u := s.after m (0x05 :: byteOf id :: i :: e)
    have hexec : exec (writeRow m id (byteOf id :: i :: e) (i :: e)) s =
        .next (giveAnswer m writeCode (writeBody id (i :: e) (ownerOf id) u)) :=
      (exec_writeRow h1 h12 m _ _ s).trans (congrArg Host.Outcome.next (command_of_reaches writeCode _ hreach))
    have hanswer {st : Status} (h : writeBody id (i :: e) (ownerOf id) u = .refuse st u) :
        exec (writeRow m id (byteOf id :: i :: e) (i :: e)) s = .next (sendReply m 0x05 st [] u) := by
      rw [hexec, h]
      rfl
    have hlock : lockRefuses id i.toNat (e.take (entrySize id)) u = lockRefuses id i.toNat (e.take (entrySize id)) s :=
      takeManaged_lockRefuses _ _ _ _ s
    have hloader : u.loader = s.loader := by simp [u]
    have hstore : u.agent.store = s.agent.store := by
      obtain ⟨c, hagent⟩ := takeManaged_agent ⟨.command, m, 0x05 :: byteOf id :: i :: e⟩ s
      rw [show u.agent = _ from hagent]
    have hbody := writeBody_eq id i e (ownerOf id) u
    rw [hlock, hloader, hstore] at hbody
    simp only [← Option.isSome_iff_ne_none, Nat.not_lt, Nat.not_le]
    refine ⟨fun hshort => hanswer ?_, fun hlong hpast => hanswer ?_, fun hlong hin hloading => hanswer ?_,
      fun hlong hin hloading hlocked => hanswer ?_, fun hlong hin hloading hlocked hstoring => hanswer ?_,
      fun hlong hin hloading hlocked hstoring haccepted => hanswer ?_⟩
    all_goals rw [hbody]
    · rw [if_pos hshort]
    · rw [if_neg (by omega), if_pos hpast]
    · rw [if_neg (by omega), if_neg (by omega), if_pos hloading]
    · rw [if_neg (by omega), if_neg (by omega), if_neg (by simp [hloading]), if_pos hlocked]
    · rw [if_neg (by omega), if_neg (by omega), if_neg (by simp [hloading]), if_neg hlocked, if_pos hstoring]
    · rw [if_neg (by omega), if_neg (by omega), if_neg (by simp [hloading]), if_neg hlocked, if_neg (by simp [hstoring])]
      have hnone : ownerOf id i.toNat (e.take (entrySize id)) u = none := by
        rw [← Option.not_isSome_iff_eq_none, ownerOf_isSome, haccepted]
        simp
      rw [hnone]
      rfl

end

/-! PROOF. O20 to O22: accepted writes at the owners of tables 2 to 6. -/

namespace Sys2Proof.Machine

/-- R43: a WRITE ENTRY that reaches its owner and is taken there. -/
theorem exec_write_taken {id : Nat} {m : Sender} {i : Byte} {e : List Byte} {s t : State} (h : writeReaches id m i e s)
    (howner : ownerOf id i.toNat (e.take (entrySize id)) (s.after m (writeCode :: byteOf id :: i :: e)) = some t) :
    exec (writeRow m id (byteOf id :: i :: e) (i :: e)) s = .next (sendReply m writeCode .done [] t) := by
  obtain ⟨hreach, h1, h12, hsize, hindex, hautoload, hlock, hstore⟩ := h
  rw [exec_writeRow h1 h12]
  refine congrArg Host.Outcome.next ((command_of_reaches writeCode _ hreach).trans ?_)
  have hbody := writeBody_eq id i e (ownerOf id) (s.after m (writeCode :: byteOf id :: i :: e))
  obtain ⟨c, hagent⟩ := takeManaged_agent ⟨.command, m, writeCode :: byteOf id :: i :: e⟩ s
  rw [takeManaged_lockRefuses, hlock, (takeManaged_frame _ s).2.2.2.2.2.2.2.2.2.2.2.2.2.2.1, hautoload, hagent, howner, if_neg (by omega),
    if_neg (by omega), if_neg (by simp), if_neg (by simp), if_neg (by simp [hstore])] at hbody
  rw [hbody]
  rfl

/-! The Sampling Unit's tables. -/

theorem discardChannels_settle (pick : Nat → Bool) (u : Sampling) {ch : Nat} (hch : ch < 16) :
    (discardChannels pick u).settle.getD ch .discard = if pick ch = true then .discard else u.settle.getD ch .discard := by
  unfold discardChannels
  rw [List.getD_eq_getElem?_getD, List.getElem?_map, List.getElem?_range hch]
  rfl

/-- R64, R67: the conversion in flight after an abandon. -/
theorem abandon_conversion (t : ScanTable) (now : Nat) (pick : Nat → Bool) (u : Sampling) :
    (abandon t now pick u).conversion =
      u.conversion.bind (fun k => if pick (t.channels.getD k.slot 0) = true then
        (if k.slot + 1 < t.count then some ⟨k.slot + 1, now + 20⟩ else none) else some k) := by
  unfold abandon
  cases hk : u.conversion with
  | none => simp [hk]
  | some k =>
    dsimp only [Option.bind_some]
    unfold ScanTable.channelOf
    split_ifs <;> simp_all [nextConversion, conversionTime]

theorem abandon_rest (t : ScanTable) (now : Nat) (pick : Nat → Bool) (u : Sampling) :
    (abandon t now pick u).accumulator = u.accumulator ∧ (abandon t now pick u).periodAt = u.periodAt ∧
      (abandon t now pick u).settle = u.settle := by
  unfold abandon
  split
  · split_ifs <;> exact ⟨rfl, rfl, rfl⟩
  · exact ⟨rfl, rfl, rfl⟩

/-- R61, R64, R67: the settling of the channels picked restarted, the conversion of such a channel abandoned. -/
theorem restarted_spec (t : ScanTable) (now : Nat) (pick : Nat → Bool) (u : Sampling) :
    (abandon t now pick (discardChannels pick u)).accumulator = u.accumulator ∧
      (abandon t now pick (discardChannels pick u)).periodAt = u.periodAt ∧
      (∀ ch < 16, (abandon t now pick (discardChannels pick u)).settle.getD ch .discard =
        if pick ch = true then .discard else u.settle.getD ch .discard) ∧
      (abandon t now pick (discardChannels pick u)).conversion =
        u.conversion.bind (fun k => if pick (t.channels.getD k.slot 0) = true then
          (if k.slot + 1 < t.count then some ⟨k.slot + 1, now + 20⟩ else none) else some k) := by
  obtain ⟨haccumulator, hperiod, hsettle⟩ := abandon_rest t now pick (discardChannels pick u)
  refine ⟨haccumulator, hperiod, fun ch hch => ?_, abandon_conversion t now pick _⟩
  rw [hsettle, discardChannels_settle pick u hch]

/-- What a write of a table of the Sampling Unit changes, once the message is taken. -/
theorem sampling_write_changesOnly {h : Handed} {s : State} (t : Tables) (v : Sampling) :
    changesOnly [.inbox, .agent, .points, .tables, .sampling] s { takeManaged h s with tables := t, sampling := v } := by
  refine (takeManaged_changesOnly h s).trans (l' := [.tables, .sampling]) ?_ (by simp) (by simp)
  intro p hp
  cases p <;> simp_all [Part.same]

end Sys2Proof.Machine

section

open Sys2Proof Sys2Proof.Machine

/-- Settles O20. -/
theorem samplingWritesRestartSettling : Obligations.SamplingWritesRestartSettling := by
  intro m i e s hlawful
  dsimp only
  refine ⟨fun t hreach hread => ?_, fun c hreach hread => ?_, fun c hreach hread => ?_⟩
  · let u := s.after m (writeCode :: byteOf 2 :: i :: e)
    have htables : u.tables = s.tables := by simp [u]
    have hsampling : u.sampling = s.sampling := by simp [u]
    refine ⟨takeScanList t u, exec_write_taken hreach (congrArg (Option.map fun t => takeScanList t u) hread), ?_, rfl, ⟨?_, ?_, fun ch hch => ?_⟩,
      sampling_write_changesOnly _ _, takeManaged_pointsOnly _ s⟩
    · show { u.tables with scan := t } = _
      rw [htables]
    · show u.sampling.accumulator = _
      rw [hsampling]
    · show u.sampling.periodAt = _
      rw [hsampling]
    · refine (discardChannels_settle _ _ hch).trans ?_
      rw [htables, hsampling]
      simp
  · let u := s.after m (writeCode :: byteOf 3 :: i :: e)
    have htables : u.tables = s.tables := by simp [u]
    have hsampling : u.sampling = s.sampling := by simp [u]
    have hnow : u.now = s.now := by simp [u]
    have hrestarted := restarted_spec u.tables.scan u.now (fun ch => ch == i.toNat) u.sampling
    rw [htables, hsampling, hnow] at hrestarted
    obtain ⟨haccumulator, hperiod, hsettle, hconversion⟩ := hrestarted
    have ht : (takeCalibration i.toNat c u).sampling =
        abandon s.tables.scan s.now (fun ch => ch == i.toNat) (discardChannels (fun ch => ch == i.toNat) s.sampling) := by
      rw [← htables, ← hsampling, ← hnow]
      rfl
    refine ⟨takeCalibration i.toNat c u, exec_write_taken hreach (congrArg (Option.map fun c => takeCalibration i.toNat c u) hread), ?_,
      ⟨?_, ?_, fun ch hch => ?_⟩, ?_, sampling_write_changesOnly _ _, takeManaged_pointsOnly _ s⟩
    · show { u.tables with cals := u.tables.cals.set i.toNat c } = _
      rw [htables]
    · rw [ht, haccumulator]
    · rw [ht, hperiod]
    · rw [ht, hsettle ch hch]
      simp
    · rw [ht, hconversion]
      cases s.sampling.conversion <;> simp
  · let u := s.after m (writeCode :: byteOf 4 :: i :: e)
    have htables : u.tables = s.tables := by simp [u]
    have hsampling : u.sampling = s.sampling := by simp [u]
    have hnow : u.now = s.now := by simp [u]
    have hrestarted := restarted_spec u.tables.scan u.now (usesCurve s.tables i.toNat) u.sampling
    rw [htables, hsampling, hnow] at hrestarted
    obtain ⟨haccumulator, hperiod, hsettle, hconversion⟩ := hrestarted
    have ht : (takeCurve i.toNat c u).sampling =
        abandon s.tables.scan s.now (usesCurve s.tables i.toNat) (discardChannels (usesCurve s.tables i.toNat) s.sampling) := by
      rw [← htables, ← hsampling, ← hnow]
      rfl
    refine ⟨takeCurve i.toNat c u, exec_write_taken hreach (congrArg (Option.map fun c => takeCurve i.toNat c u) hread), ?_,
      ⟨?_, ?_, fun ch hch => ?_⟩, ?_, sampling_write_changesOnly _ _, takeManaged_pointsOnly _ s⟩
    · show { u.tables with curves := u.tables.curves.set i.toNat c } = _
      rw [htables]
    · rw [ht, haccumulator]
    · rw [ht, hperiod]
    · rw [ht, hsettle ch hch]
    · rw [ht, hconversion]
      cases s.sampling.conversion <;> rfl

end

/-! PROOF. O21 and O22: an accepted poll entry, an accepted Condition Table entry. -/

namespace Sys2Proof.Machine

/-! Grants (R78). -/

theorem firstDue_some {p : Poll} {i : Nat} (h : p.firstDue = some i) :
    i < 12 ∧ (p.run i).state = .due ∧ ∀ j < i, (p.run j).state ≠ .due := by
  unfold Poll.firstDue at h
  rw [List.find?_range_eq_some] at h
  obtain ⟨hdue, hmem, hbefore⟩ := h
  exact ⟨List.mem_range.1 hmem, by simpa using hdue, fun j hj => by simpa using hbefore j hj⟩

theorem firstDue_none {p : Poll} : p.firstDue = none ↔ ∀ i < 12, (p.run i).state ≠ .due := by
  unfold Poll.firstDue
  simp

theorem grant_of_op {p : Poll} {o : BusOp} (t : Tables) (h : p.op = some o) : p.grant t = p := by
  unfold Poll.grant
  rw [h]

theorem grant_of_none {p : Poll} (t : Tables) (h : p.firstDue = none) : p.grant t = p := by
  unfold Poll.grant
  rw [h]
  cases p.op <;> rfl

/-- R78: the operation a grant starts. -/
def Poll.granted (t : Tables) (i : Nat) (p : Poll) : BusOp :=
  ⟨if p.bus = .fault then .recovery else .read, i, t.pollEntry i, false⟩

theorem grant_of_due {p : Poll} {i : Nat} (t : Tables) (hop : p.op = none) (h : p.firstDue = some i) :
    p.grant t = { p with
      runs := p.runs.set i ⟨.active, (p.run i).attempts, none⟩, bus := if p.bus = .fault then .fault else .busy,
      op := some (p.granted t i) } := by
  unfold Poll.grant Poll.granted
  rw [hop, h]
  dsimp only
  split_ifs with hbus
  · rw [← hbus]
    rfl
  · rfl

/-- R78: what a grant makes of a run. -/
theorem grant_run {p : Poll} (t : Tables) (hlength : p.runs.length = 12) (k : Nat) :
    (p.grant t).run k = if p.op = none ∧ p.firstDue = some k then ⟨.active, (p.run k).attempts, none⟩ else p.run k := by
  cases hop : p.op with
  | some o => rw [grant_of_op t hop, if_neg (by simp)]
  | none =>
    cases hdue : p.firstDue with
    | none => rw [grant_of_none t hdue, if_neg (by simp)]
    | some i =>
      have hi : i < 12 := (firstDue_some hdue).1
      rw [grant_of_due t hop hdue]
      show (p.runs.set i _).getD k ⟨.idle, 0, none⟩ = _
      by_cases hk : k = i
      · subst hk
        rw [run_of_set _ (hlength.symm ▸ hi), if_pos rfl, if_pos ⟨rfl, rfl⟩]
      · rw [if_neg (by simpa using Ne.symm hk), List.getD_eq_getElem?_getD, List.getElem?_set_ne (Ne.symm hk),
          ← List.getD_eq_getElem?_getD]
        rfl

theorem grant_op_none {p : Poll} (t : Tables) (h : (p.grant t).op = none) : p.grant t = p ∧ p.firstDue = none := by
  cases hop : p.op with
  | some o =>
    rw [grant_of_op t hop, hop] at h
    cases h
  | none =>
    cases hdue : p.firstDue with
    | none => exact ⟨grant_of_none t hdue, rfl⟩
    | some i =>
      rw [grant_of_due t hop hdue] at h
      cases h

/-! An accepted poll entry (R83). -/

/-- R83: an operation of the entry under way is marked. -/
def BusOp.marked (i : Nat) (o : BusOp) : BusOp := if o.index = i ∧ o.kind ≠ .startup then { o with discard := true } else o

/-- R83: the unit with entry `i` started again, before the grant. -/
def Poll.rewritten (i : Nat) (e : PollEntry) (p : Poll) : Poll :=
  { p.setRun i (if e.inUse then ⟨.due, 0, none⟩ else ⟨.idle, 0, none⟩) with op := p.op.map (BusOp.marked i) }

theorem takePollWrite_poll (i : Nat) (e : PollEntry) (s : State) :
    (takePollWrite i e s).poll = (s.poll.rewritten i e).grant { s.tables with polls := s.tables.polls.set i e } := rfl

theorem takePollWrite_changesOnly (i : Nat) (e : PollEntry) (s : State) :
    changesOnly [.points, .tables, .poll] s (takePollWrite i e s) := by
  intro p hp
  cases p <;> simp_all [Part.same]

theorem takePollWrite_pointsOnly (i : Nat) (e : PollEntry) (s : State) : pointsOnly [16 + i] s (takePollWrite i e s) :=
  invalidate_pointsOnly (pollPoint i)
    { s with tables := { s.tables with polls := s.tables.polls.set i e }, poll := s.poll.rewritten i e }

/-- R76: an acceptable entry is in use exactly with an address. -/
theorem inUse_iff {v : PollEntry} (h : v.good) : v.inUse = true ↔ v.addr ≠ 0 := by
  have hvalid := (pollEntry_valid_iff v).1 h.1
  unfold PollEntry.inUse
  simp
  omega

end Sys2Proof.Machine

section

open Sys2Proof Sys2Proof.Machine

/-- Settles O21. -/
theorem pollWriteRestartsItsEntry : Obligations.PollWriteRestartsItsEntry := by
  intro m i e v s htables hpoll hlength hreach hread
  let u := s.after m (writeCode :: byteOf 5 :: i :: e)
  have hut : u.tables = s.tables := by simp [u]
  have hup : u.poll = s.poll := by simp [u]
  have hi : i.toNat < 12 := hreach.2.2.2.2.1
  have hruns : s.poll.runs.length = 12 := ((pollLawful_iff s).1 hpoll).1.length
  have hpoint : u.point (16 + i.toNat) = s.point (16 + i.toNat) := takeManaged_pointsOnly _ s _ (by simp; omega)
  let q := s.poll.rewritten i.toNat v
  have hq : (takePollWrite i.toNat v u).poll = q.grant { s.tables with polls := s.tables.polls.set i.toNat v } := by
    rw [takePollWrite_poll, hup, hut]
  have hqruns : q.runs.length = 12 := by simp [q, Poll.rewritten, Poll.setRun, hruns]
  have hqrun : q.run i.toNat = if v.inUse then ⟨.due, 0, none⟩ else ⟨.idle, 0, none⟩ := by
    refine (run_of_set _ (hruns.symm ▸ hi)).trans (if_pos rfl)
  have hqop : q.op = s.poll.op.map (BusOp.marked i.toNat) := rfl
  have hinUse : v.inUse = true ↔ v.addr ≠ 0 := inUse_iff (readPollEntry_good hread)
  refine ⟨takePollWrite i.toNat v u, exec_write_taken hreach (congrArg (Option.map fun v => takePollWrite i.toNat v u) hread), ?_, ?_, ?_, ?_,
    fun haddr => ?_, fun haddr hop => ?_, fun hop => ⟨fun hnone => ?_, fun haddr hnone => ?_⟩, fun o ho => ?_⟩
  · show { u.tables with polls := u.tables.polls.set i.toNat v } = _
    rw [hut]
  · rw [← hpoint]
    exact point_writePoint_same _ _ _ _ (by simp [u, hlength, pollPoint]; omega)
  · exact (takeManaged_pointsOnly _ s).trans (takePollWrite_pointsOnly _ _ u) (by simp) (by simp)
  · exact (takeManaged_changesOnly _ s).trans (takePollWrite_changesOnly _ _ u) (by simp) (by simp)
  · have hidle : q.run i.toNat = ⟨.idle, 0, none⟩ := by rw [hqrun, if_neg (by simp [hinUse, haddr])]
    rw [hq, grant_run _ hqruns, if_neg, hidle]
    rintro ⟨-, hdue⟩
    have := (firstDue_some hdue).2.1
    rw [hidle] at this
    cases this
  · rw [hq, grant_run _ hqruns, if_neg, hqrun, if_pos (hinUse.2 haddr)]
    rintro ⟨hnone, -⟩
    rw [hqop] at hnone
    exact hop (Option.map_eq_none_iff.1 hnone)
  · rw [hq] at hnone ⊢
    obtain ⟨hsame, hdue⟩ := grant_op_none _ hnone
    rw [hsame]
    exact hdue
  · rw [hq] at hnone
    obtain ⟨-, hdue⟩ := grant_op_none _ hnone
    refine firstDue_none.1 hdue i.toNat hi ?_
    rw [hqrun, if_pos (hinUse.2 haddr)]
  · rw [hq, grant_of_op _ (o := BusOp.marked i.toNat o) (by rw [hqop, ho]; rfl), hqop, ho]
    rfl

end

namespace Sys2Proof.Machine

/-! An accepted Condition Table entry (R100, R123). -/

/-- R100: the list entry a condition has, standing or latched, is reported away. -/
def State.reported (i : Nat) (s : State) : State :=
  if (s.engine.run i).stands || (entryOf i s.alarms).any (fun e => e.status == .cleared) then takeReconfigure i s else s

theorem reported_keeps (i : Nat) (s : State) : (s.reported i).tables = s.tables ∧ (s.reported i).engine = s.engine := by
  unfold State.reported
  split_ifs <;> simp

/-- R123: a condition whose RAISED entry follows its run has no entry left. -/
theorem reported_alarms {i : Nat} {s : State} (h : raisedIn i s.alarms = (s.engine.run i).stands) :
    (s.reported i).alarms = without i s.alarms := by
  unfold State.reported
  split_ifs with hreport
  · exact takeReconfigure_alarms i s
  · cases hentry : entryOf i s.alarms with
    | none => exact (without_of_none hentry).symm
    | some e =>
      obtain ⟨hmem, hindex⟩ := entryOf_some hentry
      rw [hentry, ← h] at hreport
      refine absurd ?_ hreport
      cases hstatus : e.status with
      | raised => rw [raisedIn_iff.2 ⟨e, hmem, hindex, hstatus⟩]; rfl
      | cleared => simp [hstatus]

theorem takeConditionWrite_eq (i : Nat) (c : Condition) (s : State) :
    takeConditionWrite i c s = handOutputs { s.reported i with
      tables := { (s.reported i).tables with conds := (s.reported i).tables.conds.set i c },
      engine := { (s.reported i).engine with runs := (s.reported i).engine.runs.set i (startRun c) } } := rfl

theorem takeConditionWrite_runs (i : Nat) (c : Condition) (s : State) :
    (takeConditionWrite i c s).engine.runs = s.engine.runs.set i (startRun c) ∧
      (takeConditionWrite i c s).engine.passAt = s.engine.passAt := by
  rw [takeConditionWrite_eq, handOutputs_engine]
  dsimp only
  rw [(reported_keeps i s).2]
  exact ⟨rfl, rfl⟩

theorem takeConditionWrite_hands (i : Nat) (c : Condition) (s : State) :
    (takeConditionWrite i c s).engine.Hands (takeConditionWrite i c s).tables := by
  rw [takeConditionWrite_eq]
  exact handOutputs_hands _

end Sys2Proof.Machine

section

open Sys2Proof Sys2Proof.Machine

/-- Settles O22. -/
theorem conditionWriteStartsItsConditionAgain : Obligations.ConditionWriteStartsItsConditionAgain := by
  intro m i e c s htables hlist hengine hreach hread
  let u := s.after m (writeCode :: byteOf 6 :: i :: e)
  have hut : u.tables = s.tables := by simp [u]
  have hue : u.engine = s.engine := by simp [u]
  have hua : u.alarms = s.alarms := by simp [u]
  have hi : i.toNat < 64 := hreach.2.2.2.2.1
  have hfollows := ((engineLawful_iff s).1 hengine).1
  obtain ⟨hruns, hpass⟩ := takeConditionWrite_runs i.toNat c u
  obtain ⟨hshed, hreduce, hout⟩ := takeConditionWrite_hands i.toNat c u
  rw [hue] at hruns hpass
  refine ⟨takeConditionWrite i.toNat c u, exec_write_taken hreach (congrArg (Option.map fun c => takeConditionWrite i.toNat c u) hread), ?_,
    ?_, fun j hj => ?_, hpass, ?_, hshed, hreduce .ab, hreduce .ba, hout, ?_⟩
  · rw [takeConditionWrite_tables, hut]
  · rw [Engine.run, hruns, List.getD_eq_getElem?_getD, List.getElem?_set_self (by rw [hfollows.runs]; exact hi)]
    rfl
  · rw [Engine.run, hruns, List.getD_eq_getElem?_getD, List.getElem?_set_ne (Ne.symm hj), ← List.getD_eq_getElem?_getD]
    rfl
  · rw [takeConditionWrite_eq, (handOutputs_frame _).2.2.2.2.2.2.2.2.2.2.1]
    refine (reported_alarms ?_).trans (by rw [hua]; rfl)
    rw [hua, hue]
    exact hfollows.listed i.toNat hi
  · exact (takeManaged_changesOnly _ s).trans (takeConditionWrite_changesOnly _ c u) (by simp) (by simp [shedParts])

end

/-! PROOF. O23 to O25: forcings, pulses and acknowledgements. -/

namespace Sys2Proof.Machine

/-- R30: a command honoured when broadcast, as a command for one hut. -/
theorem commandOrBroadcast_of_reaches {fixed : Nat} {m : Sender} {payload : List Byte} {s : State} (code : Byte)
    (argsGood broadcastGood : Bool) (effect : State → State) (h : reaches fixed true m payload s) :
    commandOrBroadcast code fixed m payload argsGood broadcastGood effect s =
      if argsGood then sendReply m code .done [] (effect (s.after m payload))
      else sendReply m code .badValue [] (s.after m payload) := by
  rw [commandOrBroadcast, h.2.1]
  dsimp only
  rw [command_of_reaches code _ h]
  split_ifs <;> rfl

theorem byte_eq_iff (b n : Byte) : b = n ↔ b.toNat = n.toNat := ⟨congrArg _, BitVec.eq_of_toNat_eq⟩

/-- R46: the level after a shed forcing is the forcing's. -/
theorem setShedForcing_level (f : Option Nat) (s : State) :
    (setShedForcing f s).supply = { s.supply with level := (setShedForcing f s).shedLevel } ∧
      ∀ n, f = some n → (setShedForcing f s).supply.level = n := by
  have hsupply := recomputeShed_supply { s with agent := { s.agent with shedForce := f } }
  rw [show recomputeShed { s with agent := { s.agent with shedForce := f } } = setShedForcing f s from rfl] at hsupply
  have hlevel : (setShedForcing f s).shedLevel = ({ s with agent := { s.agent with shedForce := f } } : State).shedLevel := by
    have hengine : (setShedForcing f s).engine = s.engine := by simp
    refine shedLevel_congr ?_ (by rw [hsupply]) (by rw [hsupply]) (by rw [hengine]) (by rw [hsupply])
    rw [setShedForcing_agent]
  rw [hlevel]
  refine ⟨?_, fun n hn => ?_⟩
  · rw [hsupply]
  · rw [hsupply]
    subst hn
    rfl

theorem setOutputForcing_changesOnly (o : Nat) (f : Option Bool) (s : State) :
    changesOnly [.agent, .outputs] s (setOutputForcing o f s) := by
  intro p hp
  cases p <;> simp_all [Part.same, setOutputForcing]

theorem endPulse_changesOnly (o : Nat) (s : State) : changesOnly [.outputs] s (endPulse o s) := by
  intro p hp
  cases p <;> simp_all [Part.same, endPulse]

theorem forcePumps_eq {a b : Byte} (u : State) :
    forcePumps a.toNat (modeOf b.toNat) u =
      if a = 0 then setPumpForcing .ab (if b = 0 then .off else if b = 1 then .normal else .boost) u
      else if a = 1 then setPumpForcing .ba (if b = 0 then .off else if b = 1 then .normal else .boost) u
      else setPumpForcing .ba (if b = 0 then .off else if b = 1 then .normal else .boost)
        (setPumpForcing .ab (if b = 0 then .off else if b = 1 then .normal else .boost) u) := by
  simp only [byte_eq_iff a, byte_eq_iff b]
  rfl

/-! Pulses (R158). -/

/-- R158: an output's pulse replaced, the outputs resolved afresh. -/
theorem level_of_resolve {s : State} {o : Nat} (ho : o < 7) : (resolveOutputs s).outputs.levels.getD o false = s.outLevel o := by
  rw [resolveOutputs_levels, List.getD_eq_getElem?_getD, List.getElem?_map, List.getElem?_range ho]
  rfl

theorem outLevel_of_pulse {s : State} {o : Nat} {x : Pulse} (h : s.outputs.pulses.getD o none = some x) : s.outLevel o = x.level := by
  unfold State.outLevel
  rw [h]

theorem outLevel_of_none {s : State} {o : Nat} (h : s.outputs.pulses.getD o none = none) : s.outLevel o = s.baseLevel o := by
  unfold State.outLevel
  rw [h]

theorem getD_set_self {α : Type} {l : List α} {k : Nat} (h : k < l.length) (x d : α) : (l.set k x).getD k d = x := by
  rw [List.getD_eq_getElem?_getD, List.getElem?_set_self h]
  rfl

theorem takeManaged_baseLevel (h : Handed) (s : State) (o : Nat) : (takeManaged h s).baseLevel o = s.baseLevel o := by
  obtain ⟨c, hagent⟩ := takeManaged_agent h s
  have houtputs : (takeManaged h s).outputs = s.outputs := by simp
  have hsupply : (takeManaged h s).supply = s.supply := by simp
  have hengine : (takeManaged h s).engine = s.engine := by simp
  unfold State.baseLevel
  rw [hagent, houtputs, hsupply, hengine]

/-! Acknowledgements (R125). -/

/-- R49: an acknowledgement names one condition, or all with FFh. -/
theorem ackTarget_names (a : Byte) (e : Standing) :
    decide (ackTarget a.toNat = none ∨ ackTarget a.toNat = some e.index) = (a == 0xFF || e.index == a.toNat) := by
  unfold ackTarget
  by_cases ha : a = 0xFF
  · subst ha
    rfl
  · have hne : a.toNat ≠ 255 := fun h => ha (BitVec.eq_of_toNat_eq h)
    rw [if_neg hne, beq_eq_false_iff_ne.2 ha]
    simp [eq_comm, beq_eq_decide]

theorem acknowledge_eq (which : Option Nat) (l : List Standing) :
    acknowledge which l =
      (l.filter (fun e => !(decide (which = none ∨ which = some e.index) && decide (e.status = .cleared)))).map
        (fun e => if decide (which = none ∨ which = some e.index) then { e with acknowledged := true } else e) := by
  unfold acknowledge
  induction l with
  | nil => rfl
  | cons e l ih =>
    rw [List.filterMap_cons, List.filter_cons, ih]
    by_cases hnamed : which = none ∨ which = some e.index
    · cases hstatus : e.status <;> simp [hnamed, hstatus, ackEntry]
    · simp [hnamed]

end Sys2Proof.Machine

section

open Sys2Proof Sys2Proof.Machine

/-- Settles O23. -/
theorem forcingsAreSetAndTakenAtOnce : Obligations.ForcingsAreSetAndTakenAtOnce := by
  intro m a b extra s
  refine ⟨fun hreach => ⟨fun ha hb => ?_, fun hwrong => ?_⟩, fun hreach => ⟨fun ha => ?_, fun h4 h255 => ?_⟩, fun hreach => ⟨fun ha hb => ?_, fun hwrong => ?_⟩⟩
  · let u := s.after m (0x09 :: a :: b :: extra)
    have hforcing : forcingOf b.toNat = if b = 0 then some false else if b = 1 then some true else none := by
      simp only [byte_eq_iff b]
      rfl
    refine ⟨setOutputForcing a.toNat (forcingOf b.toNat) u, ?_, ?_, rfl, ?_⟩
    · refine congrArg Host.Outcome.next ((command_of_reaches 0x09 _ hreach).trans ?_)
      exact congrArg (giveAnswer m 0x09) (if_neg (by
        show ¬(6 < a.toNat ∨ 2 < b.toNat)
        omega))
    · rw [hforcing]
      rfl
    · exact setOutputForcing_changesOnly _ _ u
  · refine congrArg Host.Outcome.next ((command_of_reaches 0x09 _ hreach).trans ?_)
    exact congrArg (giveAnswer m 0x09) (if_pos hwrong)
  · let u := s.after m (0x0A :: a :: extra)
    have hauto : (if a.toNat = 255 then none else some a.toNat) = if a = 0xFF then none else some a.toNat := by
      simp only [byte_eq_iff a]
      rfl
    obtain ⟨hsupply, hlevel⟩ := setShedForcing_level (if a.toNat = 255 then none else some a.toNat) u
    refine ⟨setShedForcing (if a.toNat = 255 then none else some a.toNat) u, ?_, ?_, hsupply, fun h255 => hlevel _ (if_neg ?_), ?_⟩
    · refine congrArg Host.Outcome.next ((commandOrBroadcast_of_reaches 0x0A _ _ _ hreach).trans (if_pos ?_))
      rw [byte_eq_iff] at ha
      exact decide_eq_true ha
    · rw [setShedForcing_agent, hauto]
    · rwa [ne_eq, byte_eq_iff] at h255
    · exact setShedForcing_changesOnly _ u
  · refine congrArg Host.Outcome.next ((commandOrBroadcast_of_reaches 0x0A _ _ _ hreach).trans (if_neg ?_))
    rw [ne_eq, byte_eq_iff] at h255
    simp only [decide_eq_true_eq]
    exact fun h => h.elim (fun h => absurd h4 (Nat.not_lt.2 h)) h255
  · refine congrArg Host.Outcome.next ((commandOrBroadcast_of_reaches 0x0B _ _ _ hreach).trans ((if_pos ?_).trans ?_))
    · exact decide_eq_true ⟨ha, hb⟩
    · exact congrArg (sendReply m 0x0B .done []) (forcePumps_eq _)
  · refine congrArg Host.Outcome.next ((commandOrBroadcast_of_reaches 0x0B _ _ _ hreach).trans (if_neg ?_))
    simp only [decide_eq_true_eq]
    show ¬(a.toNat ≤ 2 ∧ b.toNat ≤ 2)
    omega

/-- Settles O24. -/
theorem pulsesInvertUntilTheirEnd : Obligations.PulsesInvertUntilTheirEnd := by
  refine ⟨fun m o hi lo extra s hreach hlength => ?_, fun o s hlength => ⟨fun x hx => ?_, fun hnone => ?_⟩⟩
  · dsimp only
    let u := s.after m (0x0C :: o :: hi :: lo :: extra)
    have hut : u.tables = s.tables := by simp [u]
    have huo : u.outputs = s.outputs := by simp [u]
    have hexec : exec (.pulseOutput m (o :: hi :: lo :: extra)) s =
        .next (giveAnswer m 0x0C (pulseBody (o :: hi :: lo :: extra) u)) :=
      congrArg Host.Outcome.next (command_of_reaches 0x0C _ hreach)
    have hbody : pulseBody (o :: hi :: lo :: extra) u =
        if s.tables.mgmt.remote = false then .refuse .disabled u
        else if 6 < o.toNat ∨ hi.toNat * 256 + lo.toNat < 100 ∨ 5000 < hi.toNat * 256 + lo.toNat then .refuse .badValue u
        else if (s.outputs.pulses.getD o.toNat none).isSome then .refuse .busy u
        else .done (startPulse o.toNat (millis (hi.toNat * 256 + lo.toNat)) u) := by
      rw [← hut, ← huo]
      rfl
    rw [hbody] at hexec
    rw [hexec]
    refine ⟨fun hremote => ?_, fun hremote hwrong => ?_, fun hremote hright hpulsing => ?_, fun hremote hright hquiet => ?_⟩
    · rw [if_pos hremote]
      rfl
    · rw [if_neg (by simp [hremote]), if_pos hwrong]
      rfl
    · rw [if_neg (by simp [hremote]), if_neg hright, if_pos (Option.isSome_iff_ne_none.2 hpulsing)]
      rfl
    · rw [if_neg (by simp [hremote]), if_neg hright, if_neg (by rwa [Option.isSome_iff_ne_none])]
      have hbase : u.baseLevel o.toNat = s.baseLevel o.toNat := takeManaged_baseLevel _ s _
      have hnow : u.now = s.now := by simp [u]
      have hmillis : millis (hi.toNat * 256 + lo.toNat) = 1000 * (hi.toNat * 256 + lo.toNat) := Nat.mul_comm _ _
      refine ⟨startPulse o.toNat (millis (hi.toNat * 256 + lo.toNat)) u, rfl, ?_, ?_, startPulse_changesOnly _ _ u⟩
      · rw [← hbase, ← hnow, ← hmillis]
        rfl
      · have hset := getD_set_self (l := u.outputs.pulses) (k := o.toNat) (by rw [huo]; omega)
          (some ⟨!u.baseLevel o.toNat, u.now + millis (hi.toNat * 256 + lo.toNat)⟩) none
        rw [← hbase]
        exact (level_of_resolve (by omega)).trans (outLevel_of_pulse (x := ⟨!u.baseLevel o.toNat, u.now + millis (hi.toNat * 256 + lo.toNat)⟩) hset)
  · let u := s.reach x.endAt
    refine ⟨endPulse o u, ?_, rfl, rfl, ?_, ?_⟩
    · show execPulseEnd o s = _
      unfold execPulseEnd
      rw [hx]
    · have hset := getD_set_self (l := s.outputs.pulses) (k := o) (by omega) none none
      exact (level_of_resolve o.isLt).trans (outLevel_of_none hset)
    · exact (reach_changesOnly _ s).trans (endPulse_changesOnly o u) (by simp) (by simp)
  · show execPulseEnd o s = _
    unfold execPulseEnd
    rw [hnone]

/-- Settles O25. -/
theorem acknowledgementMarksOrRemoves : Obligations.AcknowledgementMarksOrRemoves := by
  intro m a extra s hreach
  dsimp only
  refine ⟨fun h63 h255 => ?_, fun ha => ?_⟩
  · refine congrArg Host.Outcome.next ((commandOrBroadcast_of_reaches 0x08 _ _ _ hreach).trans (if_neg ?_))
    rw [ne_eq, byte_eq_iff] at h255
    simp only [decide_eq_true_eq]
    exact fun h => h.elim (fun h => absurd h63 (Nat.not_lt.2 h)) h255
  · refine congrArg Host.Outcome.next ((commandOrBroadcast_of_reaches 0x08 _ _ _ hreach).trans ((if_pos ?_).trans ?_))
    · rw [byte_eq_iff] at ha
      exact decide_eq_true ha
    · have hua : (s.after m (0x08 :: a :: extra)).alarms = s.alarms := by simp
      show sendReply m 0x08 .done [] { s.after m (0x08 :: a :: extra) with alarms := acknowledge (ackTarget a.toNat) _ } = _
      rw [hua, acknowledge_eq]
      simp only [ackTarget_names]

end

/-! PROOF. O26: REQUALIFY SUPPLY, CHARGE RESTART, SET LOCK, STORE SETTINGS and RESTART. -/

namespace Sys2Proof.Machine

/-- R155: an event of the Supply Manager that leaves the shed sources leaves the level. -/
theorem takeSupply_of_sources {v : Supply} {s : State} (extra : List PortWord) (hlevel : s.shedLevel = s.supply.level)
    (hv : v.level = s.supply.level) (hvoltage : v.voltageLevel = s.supply.voltageLevel) (hzone : v.zoneLevel = s.supply.zoneLevel)
    (hbrown : v.brownHold = s.supply.brownHold) : takeSupply v extra s = applySupply v extra s := by
  refine recomputeShed_of_eq ?_
  rw [shedLevel_congr (s := s) (t := applySupply v extra s) rfl hvoltage hzone rfl hbrown, hlevel]
  exact hv.symm

theorem chargeWords_self (u : Supply) : chargeWords u u = [] := by
  unfold chargeWords
  rw [if_pos rfl, if_pos rfl]
  split_ifs <;> rfl

/-- An event of the Supply Manager that leaves zone and PV state writes no point and leaves OUT7. -/
theorem applySupply_quiet {v : Supply} {s : State} (extra : List PortWord) (hload : s.outputs.testLoad = (s.supply.pv == .testing))
    (hpv : v.pv = s.supply.pv) (hzone : v.zone = s.supply.zone) :
    applySupply v extra s = { s with supply := v, port := s.port.placeAll s.now (chargeWords s.supply v ++ extra) } := by
  unfold applySupply
  dsimp only
  rw [hpv, if_pos rfl, if_pos hzone, ← hload]

/-- An event of the Supply Manager that changes nothing of it changes nothing. -/
theorem takeSupply_self {s : State} (hlevel : s.shedLevel = s.supply.level) (hload : s.outputs.testLoad = (s.supply.pv == .testing)) :
    takeSupply s.supply [] s = s := by
  rw [takeSupply_of_sources [] hlevel rfl rfl rfl rfl]
  rw [applySupply_quiet [] hload rfl rfl, chargeWords_self]
  rfl

/-- The message taken, the supply obeys its laws as before. -/
theorem takeManaged_supplyLaws {s : State} (h : Handed) (hsupply : SupplyLawful s) (hshed : ShedLawful s) :
    SupplyLawful (takeManaged h s) ∧ (takeManaged h s).shedLevel = (takeManaged h s).supply.level := by
  obtain ⟨c, hagent⟩ := takeManaged_agent h s
  have hsame : (takeManaged h s).supply = s.supply := by simp
  have houtputs : (takeManaged h s).outputs = s.outputs := by simp
  have hengine : (takeManaged h s).engine = s.engine := by simp
  constructor
  · rw [supplyLawful_iff, hsame, houtputs]
    exact (supplyLawful_iff s).1 hsupply
  · rw [shedLevel_congr (s := s) (by rw [hagent]) (by rw [hsame]) (by rw [hsame]) (by rw [hengine]) (by rw [hsame]), hsame]
    exact hshed.1.symm

/-- R50, R148: a requalify of a locked-out array. -/
theorem requalify_lockedOut {u : Supply} (t : Nat) (h : u.PvTimers) (hpv : u.pv = .lockedOut) :
    u.requalify t = { u with pv := .settling, failures := 0, settleAt := some (t + 1000000) } := by
  have htest : u.testAt = none := by
    have hnone : u.testAt.isSome = false := by rw [h.test, hpv]; rfl
    simpa using hnone
  have hretry : u.retryAt = none := by
    have hnone : u.retryAt.isSome = false := by rw [h.retry, hpv]; rfl
    simpa using hnone
  unfold Supply.requalify
  rw [if_pos hpv]
  unfold Supply.toSettling Supply.stopTimers
  rw [htest, hretry]
  rfl

theorem requalify_other {u : Supply} (t : Nat) (hpv : u.pv ≠ .lockedOut) : u.requalify t = u := if_neg hpv

/-- R50: a requalify request taken writes point 40 and places no word. -/
theorem takeSupply_requalify {s : State} (hsupply : SupplyLawful s) (hlevel : s.shedLevel = s.supply.level) (hpv : s.supply.pv = .lockedOut) :
    takeSupply (s.supply.requalify s.now) [] s = writePoint 40 1 .valid { s with supply := s.supply.requalify s.now } := by
  obtain ⟨hload, hlawful⟩ := (supplyLawful_iff s).1 hsupply
  rw [requalify_lockedOut s.now hlawful.timers hpv,
    takeSupply_of_sources (v := { s.supply with pv := .settling, failures := 0, settleAt := some (s.now + 1000000) }) [] hlevel rfl rfl rfl rfl]
  unfold applySupply
  dsimp only
  have hwords : chargeWords s.supply { s.supply with pv := .settling, failures := 0, settleAt := some (s.now + 1000000) } = [] := 
    chargeWords_self s.supply
  rw [hwords, if_pos rfl, if_neg (by simp [hpv])]
  have hout : s.outputs = { s.outputs with testLoad := false } := by
    rw [hpv] at hload
    rw [← show s.outputs.testLoad = false from hload]
  unfold writePoint
  rw [show ((PvState.settling == PvState.testing) = false) from rfl, ← hout]
  rfl

/-- R50, R152: what a restart of the charge makes of the supply. -/
theorem restartCharge_fault {u : Supply} (h : u.stage = .fault) :
    u.restartCharge =
      if u.pv = .qualified then
        (if u.zone = .cold ∨ u.zone = .hot then { u with stage := .halted } else { u with stage := .bulk, stageTime := 0 })
      else { u with stage := .off } := by
  unfold Supply.restartCharge Supply.toBulk
  rw [if_pos h]
  have hextreme : (u.zone.extreme = true) = (u.zone = .cold ∨ u.zone = .hot) := by
    cases u.zone <;> simp [Zone.extreme]
  simp only [hextreme]

theorem restartCharge_bulk {u : Supply} (h : u.stage = .fault) (hbulk : u.restartCharge.stage = .bulk) :
    u.restartCharge = { u with stage := .bulk, stageTime := 0 } ∧ ¬(u.zone = .cold ∨ u.zone = .hot) := by
  rw [restartCharge_fault h] at hbulk ⊢
  split_ifs at hbulk ⊢ with hpv hzone
  exact ⟨rfl, hzone⟩

/-- R152, R153: the words of the entry to BULK. -/
def bulkWords (u : Supply) : List PortWord :=
  [⟨.charger, .currentLimit, u.chargeCurrent / 10, .charger⟩, ⟨.charger, .voltageTarget, (u.inUse.absorbVoltage / 2).toNat, .charger⟩,
    ⟨.charger, .chargeEnable, 1, .charger⟩]

theorem chargeWords_bulk {u v : Supply} (hu : u.stage.enabled = false) (hv : v.stage = .bulk) : chargeWords u v = bulkWords v := by
  unfold chargeWords
  rw [hu, hv]
  unfold voltageWord Supply.voltageTarget bulkWords
  rw [hv]
  rfl

theorem chargeWords_disabled {u v : Supply} (hu : u.stage.enabled = false) (hv : v.stage.enabled = false) : chargeWords u v = [] := by
  unfold chargeWords
  rw [hu, hv]
  rfl

/-- R50: a restart of the charge taken. -/
theorem takeSupply_restartCharge {s : State} (hsupply : SupplyLawful s) (hlevel : s.shedLevel = s.supply.level) (h : s.supply.stage = .fault) :
    takeSupply s.supply.restartCharge [] s =
      { s with
        supply := s.supply.restartCharge,
        port := s.port.placeAll s.now (if s.supply.restartCharge.stage = .bulk then bulkWords s.supply.restartCharge else []) } := by
  obtain ⟨hload, -⟩ := (supplyLawful_iff s).1 hsupply
  have hfields : s.supply.restartCharge.level = s.supply.level ∧ s.supply.restartCharge.voltageLevel = s.supply.voltageLevel ∧
      s.supply.restartCharge.zoneLevel = s.supply.zoneLevel ∧ s.supply.restartCharge.brownHold = s.supply.brownHold ∧
      s.supply.restartCharge.pv = s.supply.pv ∧ s.supply.restartCharge.zone = s.supply.zone := by
    rw [restartCharge_fault h]
    split_ifs <;> exact ⟨rfl, rfl, rfl, rfl, rfl, rfl⟩
  obtain ⟨h1, h2, h3, h4, hpv, hzone⟩ := hfields
  have hwords : chargeWords s.supply s.supply.restartCharge =
      if s.supply.restartCharge.stage = .bulk then bulkWords s.supply.restartCharge else [] := by
    have hold : s.supply.stage.enabled = false := by rw [h]; rfl
    split_ifs with hbulk
    · exact chargeWords_bulk hold hbulk
    · refine chargeWords_disabled hold ?_
      rw [restartCharge_fault h] at hbulk ⊢
      split_ifs at hbulk ⊢ <;> simp_all [Stage.enabled]
  rw [takeSupply_of_sources [] hlevel h1 h2 h3 h4]
  rw [applySupply_quiet [] hload hpv hzone, List.append_nil, hwords]

end Sys2Proof.Machine

namespace Sys2Proof.Machine

/-- R51, R53: a store in flight or an autoload makes STORE SETTINGS and RESTART wait. -/
theorem loading_after (m : Sender) (payload : List Byte) (s : State) :
    ((s.after m payload).agent.store.isSome = true ∨ (s.after m payload).loader.autoload.isSome = true) ↔
      (s.agent.store ≠ none ∨ s.loader.autoload ≠ none) := by
  obtain ⟨c, hagent⟩ := takeManaged_agent ⟨.command, m, payload⟩ s
  have hloader : (s.after m payload).loader = s.loader := by simp
  rw [hagent, hloader, Option.isSome_iff_ne_none, Option.isSome_iff_ne_none]

/-- R20, R53: the DONE reply of a RESTART offered and the restart pending, due at once where the queue has no room. -/
theorem restartBody_done {m : Sender} {u : State} (h : ¬(u.agent.store.isSome = true ∨ u.loader.autoload.isSome = true)) :
    (restartBody m u).reply = none ∧
      (restartBody m u).state = State.setPort (replyPort m)
        (if (u.at (replyPort m)).queue.length < 24 then
          { u.at (replyPort m) with queue := (u.at (replyPort m)).queue ++ [⟨replyMessage u m 0x11 .done [], true⟩] }
         else { u.at (replyPort m) with replyLost := min 255 ((u.at (replyPort m)).replyLost + 1) })
        { u with agent := { u.agent with restart := some ⟨replyPort m, decide (24 ≤ (u.at (replyPort m)).queue.length)⟩ } } := by
  unfold restartBody
  rw [if_neg h]
  exact ⟨rfl, rfl⟩

end Sys2Proof.Machine

section

open Sys2Proof Sys2Proof.Machine

/-- Settles O26. -/
theorem supplyLockStoreAndRestartCommands : Obligations.SupplyLockStoreAndRestartCommands := by
  refine ⟨fun m extra s hsupply hshed => ⟨fun hreach => ?_, fun hreach => ?_⟩, fun m extra s => ⟨fun hreach => ?_, fun hreach => ?_, fun hreach => ?_⟩⟩
  · let u := s.after m (0x0D :: extra)
    have hus : u.supply = s.supply := by simp [u]
    have hnow : u.now = s.now := by simp [u]
    obtain ⟨hlaws, hlevel⟩ := takeManaged_supplyLaws ⟨.command, m, 0x0D :: extra⟩ hsupply hshed
    have hexec : exec (.requalifySupply m extra) s = .next (sendReply m 0x0D .done [] (takeSupply (u.supply.requalify u.now) [] u)) :=
      congrArg Host.Outcome.next (command_of_reaches 0x0D _ hreach)
    refine ⟨fun hpv => ?_, fun hpv => ⟨takeSupply (u.supply.requalify u.now) [] u, hexec, ?_⟩⟩
    · rw [hexec, requalify_other _ (by rwa [hus]), takeSupply_self hlevel ((supplyLawful_iff u).1 hlaws).1]
    · have hpv : u.supply.pv = .lockedOut := by rwa [hus]
      have hsame : changesOnly [.supply] u { u with supply := u.supply.requalify u.now } := fun p hp => by cases p <;> simp_all [Part.same]
      rw [takeSupply_requalify hlaws hlevel hpv]
      refine ⟨?_, fun hlength => point_writePoint_same _ _ _ _ (by simp [hlength]), ?_, ?_⟩
      · rw [← hus, ← hnow]
        exact requalify_lockedOut _ ((supplyLawful_iff u).1 hlaws).2.timers hpv
      · exact (hsame.pointsOnly (by simp) _).comp (writePoint_pointsOnly _ _ _ _)
      · exact hsame.trans (writePoint_changesOnly _ _ _ _) (by simp) (by simp)
  · let u := s.after m (0x0E :: extra)
    have hus : u.supply = s.supply := by simp [u]
    have hup : u.port = s.port := by simp [u]
    have hnow : u.now = s.now := by simp [u]
    obtain ⟨hlaws, hlevel⟩ := takeManaged_supplyLaws ⟨.command, m, 0x0E :: extra⟩ hsupply hshed
    have hexec : exec (.chargeRestart m extra) s = .next (sendReply m 0x0E .done [] (takeSupply u.supply.restartCharge [] u)) :=
      congrArg Host.Outcome.next (command_of_reaches 0x0E _ hreach)
    refine ⟨fun hstage => ?_, fun hstage => ⟨takeSupply u.supply.restartCharge [] u, hexec, ?_⟩⟩
    · have hsame : u.supply.restartCharge = u.supply := if_neg (by rwa [hus])
      rw [hexec, hsame, takeSupply_self hlevel ((supplyLawful_iff u).1 hlaws).1]
    · have hstage : u.supply.stage = .fault := by rwa [hus]
      rw [takeSupply_restartCharge hlaws hlevel hstage]
      refine ⟨?_, ?_, fun p hp => by cases p <;> simp_all [Part.same]⟩
      · rw [← hus]
        exact restartCharge_fault hstage
      · dsimp only
        rw [← hus, ← hup, ← hnow]
        congr 1
        split_ifs with hbulk
        · obtain ⟨hmade, hzone⟩ := restartCharge_bulk hstage hbulk
          rw [hmade]
          unfold bulkWords Supply.chargeCurrent
          cases hz : u.supply.zone <;> simp_all
        · rfl
  · exact congrArg Host.Outcome.next (command_of_reaches 0x0F _ hreach)
  · have hstart := command_of_reaches 0x10 (storeBody m) hreach
    have hut : (s.after m (0x10 :: extra)).tables = s.tables := by simp
    refine ⟨fun hload => congrArg Host.Outcome.next (hstart.trans ?_), fun hload => congrArg Host.Outcome.next (hstart.trans ?_)⟩
    · rw [storeBody, if_pos ((loading_after m _ s).2 hload)]
      rfl
    · rw [storeBody, if_neg (fun h => hload ((loading_after m _ s).1 h)), hut]
      rfl
  · have hstart := command_of_reaches 0x11 (restartBody m) hreach
    have hports : (s.after m (0x11 :: extra)).ports = s.ports := by simp
    have hreply : replyMessage (s.after m (0x11 :: extra)) m 0x11 .done [] = replyMessage s m 0x11 .done [] := by
      unfold replyMessage
      rw [(takeManaged_frame _ s).2.2.2.1, (takeManaged_frame _ s).2.2.2.2.2.1]
    refine ⟨fun hload => congrArg Host.Outcome.next (hstart.trans ?_), fun hload hroom => congrArg Host.Outcome.next (hstart.trans ?_),
      fun hload hfull => congrArg Host.Outcome.next (hstart.trans ?_)⟩
    · rw [restartBody, if_pos ((loading_after m _ s).2 hload)]
      rfl
    · have hdone := restartBody_done (m := m) (u := s.after m (0x11 :: extra)) fun h => hload ((loading_after m _ s).1 h)
      have hat : (s.after m (0x11 :: extra)).at (replyPort m) = s.at (replyPort m) := by rw [State.at, hports]; rfl
      rw [hat, if_pos hroom, decide_eq_false (by omega), hreply] at hdone
      rw [giveAnswer, hdone.1]
      exact hdone.2
    · have hdone := restartBody_done (m := m) (u := s.after m (0x11 :: extra)) fun h => hload ((loading_after m _ s).1 h)
      have hat : (s.after m (0x11 :: extra)).at (replyPort m) = s.at (replyPort m) := by rw [State.at, hports]; rfl
      rw [hat, if_neg (by omega), decide_eq_true hfull] at hdone
      rw [giveAnswer, hdone.1]
      exact hdone.2

end

/-! PROOF. O28 and O29: broadcasts, unknown and ignored commands, the hut time. -/

namespace Sys2Proof.Machine

/-- R27: a handed message leaves the inbox when it stands first there. -/
theorem dequeue_eq (h : Handed) (s : State) :
    dequeue h s = if s.inbox.head? = some h then { s with inbox := s.inbox.tail } else s := by
  unfold dequeue
  cases hl : s.inbox with
  | nil => rfl
  | cons x l =>
    dsimp only [List.head?_cons, List.tail_cons]
    simp only [Option.some.injEq]

theorem ignored_after {m : Sender} {payload : List Byte} {s : State} (hm : m.cls ≠ .mine) (haddr : s.ownAddr ≠ 0)
    (h : broadcastExecutes m payload s = false) : exec (.ignoredCommand m payload) s = .next (s.after m payload) := by
  refine (if_neg hm).trans (congrArg Host.Outcome.next ?_)
  rw [h, if_neg (by simp), if_neg haddr]

theorem broadcastExecutes_of_cls {m : Sender} (h : m.cls ≠ .all) (payload : List Byte) (s : State) : broadcastExecutes m payload s = false := by
  unfold broadcastExecutes
  rw [beq_eq_false_iff_ne.2 h]
  rfl

theorem broadcastExecutes_of_ne (m : Sender) {c : Byte} (args : List Byte) (s : State) (h8 : c ≠ 0x08) (hA : c ≠ 0x0A) (hB : c ≠ 0x0B) :
    broadcastExecutes m (c :: args) s = false := by
  rw [ne_eq, byte_eq_iff] at h8 hA hB
  exact broadcastExecutes_of_code m args s h8 hA hB

theorem broadcastExecutes_nil (m : Sender) (s : State) : broadcastExecutes m [] s = false := by
  simp [broadcastExecutes, byteAt]

/-- R31: what lets a broadcast be executed. -/
def State.Free (s : State) (m : Sender) : Prop := s.agent.restart = none ∧ s.loader.autoload = none ∧ holdsControl m s = true

theorem broadcastRuns_after (fixed : Nat) (m : Sender) (payload : List Byte) (s : State) :
    broadcastRuns fixed m payload (s.after m payload) = true ↔ s.Free m ∧ fixed ≤ payload.length := by
  unfold broadcastRuns State.Free
  rw [takeManaged_restart, holdsControl_takeManaged, (takeManaged_frame _ s).2.2.2.2.2.2.2.2.2.2.2.2.2.2.1]
  simp [and_assoc]

/-- R31: a command honoured when broadcast, as a broadcast. -/
theorem commandOrBroadcast_all {m : Sender} {payload : List Byte} {s : State} (code : Byte) (fixed : Nat) (argsGood broadcastGood : Bool)
    (effect : State → State) (hm : m.cls = .all) (haddr : s.ownAddr ≠ 0) :
    ((s.Free m ∧ fixed ≤ payload.length) ∧ broadcastGood = true →
      commandOrBroadcast code fixed m payload argsGood broadcastGood effect s = effect (s.after m payload)) ∧
    (¬((s.Free m ∧ fixed ≤ payload.length) ∧ broadcastGood = true) →
      commandOrBroadcast code fixed m payload argsGood broadcastGood effect s = s.after m payload) := by
  have hrun : commandOrBroadcast code fixed m payload argsGood broadcastGood effect s =
      if broadcastRuns fixed m payload (s.after m payload) && broadcastGood then effect (s.after m payload) else s.after m payload := by
    rw [commandOrBroadcast, hm]
    exact if_neg haddr
  have hiff : (broadcastRuns fixed m payload (s.after m payload) && broadcastGood) = true ↔
      (s.Free m ∧ fixed ≤ payload.length) ∧ broadcastGood = true := by rw [Bool.and_eq_true, broadcastRuns_after]
  rw [hrun]
  exact ⟨fun h => if_pos (hiff.2 h), fun h => if_neg fun hr => h (hiff.1 hr)⟩

theorem namesNoCommand_cons (c : Byte) (args : List Byte) : namesNoCommand (c :: args) = true ↔ ¬(1 ≤ c.toNat ∧ c.toNat ≤ 17) := by
  unfold namesNoCommand
  simp only [Bool.or_eq_true, beq_iff_eq, decide_eq_true_eq]
  bv_omega

theorem mineRow_other {n : Nat} (h : ¬(1 ≤ n ∧ n ≤ 17)) (m : Sender) (payload args : List Byte) :
    mineRow m n payload args = .unknownCommand m payload := by
  unfold mineRow
  split
  case h_18 => rfl
  all_goals omega

/-- R31: the row of a COMMAND of class ALL. -/
theorem commandRow_all {m : Sender} (hm : m.cls = .all) (c : Byte) (args : List Byte) :
    commandRow m (c :: args) =
      if c = 0x08 then .ackAlarm m args else if c = 0x0A then .forceShed m args else if c = 0x0B then .pumpMode m args
      else .ignoredCommand m (c :: args) := by
  have hrow : commandRow m (c :: args) = broadcastRow m c.toNat (c :: args) args := by
    unfold commandRow
    rw [hm]
  rw [hrow]
  unfold broadcastRow
  simp only [byte_eq_iff c]
  split
  next h => exact (if_pos h).symm
  next h => exact ((if_neg (by rw [h]; decide)).trans (if_pos h)).symm
  next h => exact ((if_neg (by rw [h]; decide)).trans ((if_neg (by rw [h]; decide)).trans (if_pos h))).symm
  next h8 hA hB => exact ((if_neg h8).trans ((if_neg hA).trans (if_neg hB))).symm

theorem commandRow_ignored {m : Sender} (hm : m.cls ≠ .mine) (payload : List Byte) (h : m.cls = .all → payload = []) :
    commandRow m payload = .ignoredCommand m payload := by
  unfold commandRow
  cases hcls : m.cls with
  | mine => exact absurd hcls hm
  | all => rw [h hcls]
  | head => rfl
  | other => rfl

theorem command_unaddressed {m : Sender} {payload : List Byte} {s : State} (code : Byte) (fixed : Nat) (controlled : Bool)
    (body : State → Answer) (haddr : s.ownAddr = 0) :
    command code fixed controlled m payload body s = dequeue ⟨.command, m, payload⟩ s := if_pos haddr

/-- R12: an unaddressed hut takes no COMMAND (log entry 9). -/
theorem commandRow_unaddressed (m : Sender) (payload : List Byte) {s : State} (haddr : s.ownAddr = 0) :
    exec (commandRow m payload) s = .next (dequeue ⟨.command, m, payload⟩ s) := by
  have ignored (hm : m.cls ≠ .mine) (h : broadcastExecutes m payload s = false) :
      exec (.ignoredCommand m payload) s = .next (dequeue ⟨.command, m, payload⟩ s) := by
    refine (if_neg hm).trans (congrArg Host.Outcome.next ?_)
    rw [h, if_neg (by simp), if_pos haddr]
  have unknown (hm : m.cls = .mine) (h : namesNoCommand payload = true) :
      exec (.unknownCommand m payload) s = .next (dequeue ⟨.command, m, payload⟩ s) := by
    exact (if_pos (by simp [h, hm])).trans (congrArg Host.Outcome.next (if_pos haddr))
  cases hm : m.cls with
  | mine =>
    cases payload with
    | nil =>
      rw [show commandRow m [] = .unknownCommand m [] by unfold commandRow; rw [hm]]
      exact unknown hm rfl
    | cons c args =>
      by_cases hc : 1 ≤ c.toNat ∧ c.toNat ≤ 17
      · obtain ⟨body, hbody⟩ := exec_commandRow hm hc.1 hc.2 args s
        rw [hbody, command_unaddressed _ _ _ _ haddr]
      · rw [show commandRow m (c :: args) = .unknownCommand m (c :: args) by unfold commandRow; rw [hm]; exact mineRow_other hc m _ _]
        exact unknown hm ((namesNoCommand_cons c args).2 hc)
  | all =>
    cases payload with
    | nil =>
      rw [commandRow_ignored (by simp [hm]) _ fun _ => rfl]
      exact ignored (by simp [hm]) (broadcastExecutes_nil m s)
    | cons c args =>
      have broadcast (code : Byte) (fixed : Nat) (good broadcastGood : Bool) (effect : State → State) :
          commandOrBroadcast code fixed m (code :: args) good broadcastGood effect s = dequeue ⟨.command, m, code :: args⟩ s := by
        rw [commandOrBroadcast, hm]
        exact if_pos haddr
      rw [commandRow_all hm]
      split_ifs with h8 hA hB
      · rw [h8]
        exact congrArg Host.Outcome.next (broadcast _ _ _ _ _)
      · rw [hA]
        exact congrArg Host.Outcome.next (broadcast _ _ _ _ _)
      · rw [hB]
        exact congrArg Host.Outcome.next (broadcast _ _ _ _ _)
      · exact ignored (by simp [hm]) (broadcastExecutes_of_ne m args s h8 hA hB)
  | head =>
    rw [commandRow_ignored (by simp [hm]) _ (by simp [hm])]
    exact ignored (by simp [hm]) (broadcastExecutes_of_cls (by simp [hm]) _ s)
  | other =>
    rw [commandRow_ignored (by simp [hm]) _ (by simp [hm])]
    exact ignored (by simp [hm]) (broadcastExecutes_of_cls (by simp [hm]) _ s)

end Sys2Proof.Machine

section

open Sys2Proof Sys2Proof.Machine

/-- Settles O28. -/
theorem broadcastsActWithoutReply : Obligations.BroadcastsActWithoutReply := by
  intro m c args s haddr
  dsimp only
  have hlength : (c :: args).length = 1 + args.length := by rw [List.length_cons, Nat.add_comm]
  refine ⟨fun hm hnot => ?_, fun hm hfree hacts => ⟨fun hc => ?_, fun hc => ?_, fun hc => ?_⟩, fun hm => ?_, fun hm => ?_⟩
  · rw [commandRow_all hm]
    split_ifs with h8 hA hB
    · subst h8
      refine congrArg Host.Outcome.next ((commandOrBroadcast_all _ _ _ _ _ hm haddr).2 ?_)
      rintro ⟨⟨hfree, hlong⟩, hgood⟩
      exact hnot ⟨hfree, .inl ⟨rfl, by omega, by simpa [byteAt] using hgood⟩⟩
    · subst hA
      refine congrArg Host.Outcome.next ((commandOrBroadcast_all _ _ _ _ _ hm haddr).2 ?_)
      rintro ⟨⟨hfree, hlong⟩, hgood⟩
      exact hnot ⟨hfree, .inr (.inl ⟨rfl, by omega, by simpa [byteAt] using hgood⟩)⟩
    · subst hB
      refine congrArg Host.Outcome.next ((commandOrBroadcast_all _ _ _ _ _ hm haddr).2 ?_)
      rintro ⟨⟨hfree, hlong⟩, hgood⟩
      exact hnot ⟨hfree, .inr (.inr ⟨rfl, by omega, by simpa [byteAt] using hgood⟩)⟩
    · exact ignored_after (by simp [hm]) haddr (broadcastExecutes_of_ne m args s h8 hA hB)
  · subst hc
    have hua : (s.after m (0x08 :: args)).alarms = s.alarms := by simp
    obtain ⟨-, hlong, ha⟩ | ⟨hc, -⟩ | ⟨hc, -⟩ := hacts
    · have hall : byteAt args 0 = 255 := ha
      refine congrArg Host.Outcome.next (((commandOrBroadcast_all _ _ _ _ _ hm haddr).1 ⟨⟨hfree, by omega⟩, ?_⟩).trans ?_)
      · exact beq_iff_eq.2 hall
      · show { s.after m (0x08 :: args) with alarms := acknowledge (ackTarget (byteAt args 0)) (s.after m (0x08 :: args)).alarms } = _
        rw [hua, hall]
        rfl
    · cases hc
    · cases hc
  · subst hc
    obtain ⟨hc, -⟩ | ⟨-, hlong, ha⟩ | ⟨hc, -⟩ := hacts
    · cases hc
    · exact congrArg Host.Outcome.next ((commandOrBroadcast_all _ _ _ _ _ hm haddr).1 ⟨⟨hfree, by omega⟩, decide_eq_true ha⟩)
    · cases hc
  · subst hc
    obtain ⟨hc, -⟩ | ⟨hc, -⟩ | ⟨-, hlong, ha⟩ := hacts
    · cases hc
    · cases hc
    · exact congrArg Host.Outcome.next ((commandOrBroadcast_all _ _ _ _ _ hm haddr).1 ⟨⟨hfree, by omega⟩, decide_eq_true ha⟩)
  · rw [commandRow_ignored (by rcases hm with hm | hm <;> simp [hm]) _ (by rcases hm with hm | hm <;> simp [hm])]
    exact ignored_after (by rcases hm with hm | hm <;> simp [hm]) haddr (broadcastExecutes_of_cls (by rcases hm with hm | hm <;> simp [hm]) _ s)
  · rw [commandRow_ignored hm _ fun _ => rfl]
    exact ignored_after hm haddr (broadcastExecutes_nil m s)

/-- Settles O29. -/
theorem unknownIgnoredAndTime : Obligations.UnknownIgnoredAndTime := by
  intro m payload s
  refine ⟨fun hm haddr hnil => ?_, fun c l hcons hm haddr hcode => ?_, fun hnil hm haddr => ?_, fun c l hcons hm haddr h8 hA hB => ?_,
    fun haddr => ?_, ⟨fun hshort => ?_, fun hlong => ?_⟩, rfl⟩
  · subst hnil
    refine (if_pos (by simp [hm, namesNoCommand])).trans (congrArg Host.Outcome.next (if_neg haddr))
  · subst hcons
    have hnames : namesNoCommand (c :: l) = true := (namesNoCommand_cons c l).2 (by
      rcases hcode with rfl | hcode
      · decide
      · omega)
    exact (if_pos (by simp [hm, hnames])).trans (congrArg Host.Outcome.next (if_neg haddr))
  · subst hnil
    exact ignored_after hm haddr (broadcastExecutes_nil m s)
  · subst hcons
    exact ignored_after hm haddr (broadcastExecutes_of_ne m l s h8 hA hB)
  · rw [commandRow_unaddressed m payload haddr, dequeue_eq]
  · exact congrArg Host.Outcome.next (if_neg (by omega))
  · refine congrArg Host.Outcome.next ((if_pos hlong).trans ?_)
    have hnow : (takeManaged ⟨.beat, m, payload⟩ s).now = s.now := by simp
    have hword : wordAt payload 0 = ((byteAt payload 0 * 256 + byteAt payload 1) * 256 + byteAt payload 2) * 256 + byteAt payload 3 := by
      unfold wordAt halfAt
      ring_nf
    rw [hnow, hword]
    rfl

end

/-! PROOF. O30: a contact timer's expiry, and autonomy at the last one. -/

namespace Sys2Proof.Machine

/-! The contact state (R35). -/

theorem contactCode_expired {h : Side} {c : Pair (Option Nat)} {at' : Nat} (hrun : c.get h = some at') :
    contactCode (c.set h none) ≠ contactCode c ∧ (contactCode (c.set h none) = 3 ↔ c.get (otherSide h) = none) := by
  obtain ⟨a, b⟩ := c
  cases h with
  | a =>
    obtain rfl : a = some at' := hrun
    cases b <;> simp [contactCode_eq, Pair.set, Pair.get, otherSide]
  | b =>
    obtain rfl : b = some at' := hrun
    cases a <;> simp [contactCode_eq, Pair.set, Pair.get, otherSide]

theorem setContacts_point {c : Pair (Option Nat)} {s : State} (hcode : contactCode c ≠ contactCode s.agent.contacts)
    (hlength : s.points.recs.length = 46) : (setContacts c s).point 43 = ⟨contactCode c, .valid, 0⟩ := by
  have hrecs : (setContacts c s).points.recs = (writePoint 43 (contactCode c) .valid s).points.recs := by
    unfold setContacts
    rw [if_neg hcode]
    rfl
  rw [State.point, hrecs]
  exact point_writePoint_same 43 _ _ s (by omega)

theorem contactExpiry_changesOnly (h : Side) (s : State) : changesOnly [.agent, .points] s (contactExpiry h s) :=
  (setContacts_changesOnly (s.agent.contacts.set h none) s).trans
    (u := contactExpiry h s) (l' := [.agent]) (fun p hp => by cases p <;> simp_all [Part.same, contactExpiry]) (by simp) (by simp)

/-! Modes (R140). -/

theorem retarget_mode (now level : Nat) (p : Pump) : (p.retarget now level).pump.mode = p.mode := by
  unfold Pump.retarget
  split_ifs
  · rfl
  · unfold Pump.follow Pump.enterRamp
    split
    · split <;> rfl
    all_goals rfl

/-- R133: no change of a target brings a channel into OFF or FAULT, or out of either. -/
theorem retarget_state (now level : Nat) (p : Pump) :
    ((p.retarget now level).pump.state = .off ↔ p.state = .off) ∧ ((p.retarget now level).pump.state = .fault ↔ p.state = .fault) := by
  unfold Pump.retarget
  split_ifs
  · exact ⟨Iff.rfl, Iff.rfl⟩
  · unfold Pump.follow Pump.enterRamp
    split
    · split <;> simp_all [Pump.aim]
    all_goals simp_all [Pump.aim]

/-- R140: what a mode request makes of a channel's mode and state. -/
theorem modeRequest_result {p : Pump} (now level : Nat) (m : Mode) (hmode : p.state = .off ↔ p.mode = .off) :
    (p.modeRequest now level m).pump.mode = m ∧ (m = .off → (p.modeRequest now level m).pump.state = .off) ∧
      (m ≠ .off → p.state = .off ∨ p.state = .fault → (p.modeRequest now level m).pump.state = .startWait) := by
  unfold Pump.modeRequest
  split
  case h_1 hoff => exact ⟨hmode.1 hoff, fun _ => hoff, fun h => absurd rfl h⟩
  case h_2 => exact ⟨rfl, fun _ => rfl, fun h => absurd rfl h⟩
  case h_3 hm _ => exact ⟨rfl, fun h => (hm h).elim, fun _ _ => rfl⟩
  case h_4 hm _ => exact ⟨rfl, fun h => (hm h).elim, fun _ _ => rfl⟩
  case h_5 hm hoff hfault _ =>
    exact ⟨retarget_mode _ _ _, fun h => (hm h).elim, fun _ h => (h.elim hoff hfault).elim⟩

/-! Autonomy (R36). -/

/-- R36: every forcing removed, before the stored modes are handed. -/
def State.unforced (s : State) : State :=
  setShedForcing none
    (resolveOutputs { s with agent := { s.agent with outForce := List.replicate 7 none, pumpForce := ⟨none, none⟩ } })

theorem unforced_agent (s : State) :
    s.unforced.agent = { s.agent with outForce := List.replicate 7 none, shedForce := none, pumpForce := ⟨none, none⟩ } :=
  setShedForcing_agent none _

theorem unforced_pump (s : State) (c : Channel) :
    (s.unforced.pumps.get c).inUse = (s.pumps.get c).inUse ∧ (s.unforced.pumps.get c).mode = (s.pumps.get c).mode ∧
      ((s.unforced.pumps.get c).state = .off ↔ (s.pumps.get c).state = .off) ∧
      ((s.unforced.pumps.get c).state = .fault ↔ (s.pumps.get c).state = .fault) := by
  unfold State.unforced setShedForcing
  refine ⟨recomputeShed_inUse _ c, ?_⟩
  rw [recomputeShed_pump]
  split_ifs
  · exact ⟨rfl, Iff.rfl, Iff.rfl⟩
  · exact ⟨retarget_mode _ _ _, (retarget_state _ _ _).1, (retarget_state _ _ _).2⟩

theorem unforced_changesOnly (s : State) :
    changesOnly [.agent, .supply, .points, .pump .ab, .pump .ba, .port, .outputs] s s.unforced := by
  let s1 := resolveOutputs { s with agent := { s.agent with outForce := List.replicate 7 none, pumpForce := ⟨none, none⟩ } }
  have hstart : changesOnly [.agent, .outputs] s s1 := fun p hp => by cases p <;> simp_all [Part.same, s1]
  exact hstart.trans (setShedForcing_changesOnly none s1) (by simp) (by simp)

theorem unforced_pointsOnly (s : State) : pointsOnly [39, 41, 42] s s.unforced :=
  recomputeShed_pointsOnly _

theorem unforced_supply (s : State) : s.unforced.supply = { s.supply with level := s.unforced.shedLevel } :=
  (setShedForcing_level none _).1

theorem recomputeShed_pulses (s : State) : (recomputeShed s).outputs.pulses = s.outputs.pulses := by
  by_cases hlevel : s.shedLevel = s.supply.level
  · rw [recomputeShed_of_eq hlevel]
  · rw [recomputeShed_of_ne hlevel]
    rfl

theorem unforced_pulses (s : State) : s.unforced.outputs.pulses = s.outputs.pulses :=
  recomputeShed_pulses _

theorem unforced_resolved (s : State) : OutputsResolved s.unforced :=
  recomputeShed_resolved (SamePins.resolved ⟨rfl, ⟨_, rfl⟩, rfl, rfl⟩ (outputsResolved_resolve _))

theorem autonomy_eq (s : State) :
    autonomy s =
      modeRequest .ba (s.pumps.get .ba).inUse.storedMode (modeRequest .ab (s.pumps.get .ab).inUse.storedMode s.unforced) := by
  rw [← (unforced_pump s .ab).1, ← (unforced_pump s .ba).1]
  rfl

theorem autonomy_pump (s : State) (c : Channel) :
    (autonomy s).pumps.get c =
      ((s.unforced.pumps.get c).modeRequest s.unforced.now s.unforced.supply.level (s.pumps.get c).inUse.storedMode).pump := by
  rw [autonomy_eq]
  cases c <;> rfl

/-- Handing the modes leaves every part but the pumps, the port and the points. -/
theorem autonomy_after_unforced (s : State) :
    changesOnly [.pump .ab, .pump .ba, .port, .points] s.unforced (autonomy s) ∧ pointsOnly [41, 42] s.unforced (autonomy s) := by
  rw [autonomy_eq]
  exact ⟨(modeRequest_changesOnly .ab _ _).trans (modeRequest_changesOnly .ba _ _) (by simp) (by simp),
    (applyPump_pointsOnly .ab _ _).trans (applyPump_pointsOnly .ba _ _) (by simp [pumpPoint]) (by simp [pumpPoint])⟩

theorem autonomy_changesOnly (s : State) :
    changesOnly [.agent, .supply, .points, .pump .ab, .pump .ba, .port, .outputs] s (autonomy s) :=
  (unforced_changesOnly s).trans (autonomy_after_unforced s).1 (by simp) (by simp)

theorem autonomy_pointsOnly (s : State) : pointsOnly [39, 41, 42] s (autonomy s) :=
  (unforced_pointsOnly s).trans (autonomy_after_unforced s).2 (by simp) (by simp)

end Sys2Proof.Machine

section

open Sys2Proof Sys2Proof.Machine

/-- Settles O30. -/
theorem contactExpiryDropsControlAndForcings : Obligations.ContactExpiryDropsControlAndForcings := by
  intro h at' s hrun hlength hpumps
  let s1 := contactExpiry h (s.reach at')
  obtain ⟨hchanged, hautonomous⟩ := contactCode_expired hrun
  have hexec : exec (.contactTimerExpiry h) s =
      .next (if contactCode s1.agent.contacts = 3 then autonomy s1 else s1) := by
    show execContactTimerExpiry h s = _
    unfold execContactTimerExpiry
    rw [hrun]
  have hpoint : s1.point 43 = ⟨contactCode s1.agent.contacts, .valid, 0⟩ :=
    setContacts_point (s := s.reach at') hchanged hlength
  have hparts : changesOnly [.now, .agent, .points] s s1 :=
    (reach_changesOnly at' s).trans (contactExpiry_changesOnly h (s.reach at')) (by simp) (by simp)
  have hpoints : pointsOnly [43] s s1 := setContacts_pointsOnly (s.agent.contacts.set h none) (s.reach at')
  rw [hexec]
  by_cases hlast : s.agent.contacts.get (otherSide h) = none
  · have hagent := unforced_agent s1
    have hafter := (autonomy_after_unforced s1).1
    have hfinal : (autonomy s1).agent = s1.unforced.agent := hafter .agent (by simp)
    have hsupply : (autonomy s1).supply = s1.unforced.supply := hafter .supply (by simp)
    have houtputs : (autonomy s1).outputs = s1.unforced.outputs := hafter .outputs (by simp)
    have hengine : (autonomy s1).engine = s1.unforced.engine := hafter .engine (by simp)
    have hlevel : (autonomy s1).shedLevel = s1.unforced.shedLevel :=
      shedLevel_congr (by rw [hfinal]) (by rw [hsupply]) (by rw [hsupply]) (by rw [hengine]) (by rw [hsupply])
    refine ⟨autonomy s1, congrArg Host.Outcome.next (if_pos (hautonomous.2 hlast)), ?_⟩
    rw [hfinal, hagent]
    refine ⟨autonomy_changesOnly s1 .now (by simp), rfl, rfl, rfl, rfl, rfl, rfl, ?_, fun h => absurd hlast h,
      fun _ => ⟨rfl, rfl, rfl, ?_, ?_, ?_, fun c => ?_, ?_, ?_⟩⟩
    · exact (autonomy_pointsOnly s1 43 (by simp)).trans hpoint
    · rw [hsupply, hlevel]
      exact unforced_supply s1
    · exact SamePins.resolved ⟨by rw [hfinal], ⟨_, houtputs⟩, by rw [hsupply], by rw [hengine]⟩ (unforced_resolved s1)
    · rw [houtputs]
      exact unforced_pulses s1
    · obtain ⟨-, hmode, hoff, hfault⟩ := unforced_pump s1 c
      have hlawful : (s.pumps.get c).state = .off ↔ (s.pumps.get c).mode = .off :=
        (((pumpsLawful_iff s).1 hpumps) c).framed.mode
      rw [autonomy_pump]
      obtain ⟨hm, hoff', hstart⟩ := modeRequest_result (p := s1.unforced.pumps.get c) s1.unforced.now s1.unforced.supply.level
        (s.pumps.get c).inUse.storedMode (hoff.trans (hlawful.trans (by rw [hmode]; rfl)))
      exact ⟨hm, hoff', fun hne hs => hstart hne (hs.imp hoff.2 hfault.2)⟩
    · exact hparts.trans (autonomy_changesOnly s1) (by simp) (by simp)
    · exact hpoints.trans (autonomy_pointsOnly s1) (by simp) (by simp)
  · refine ⟨s1, congrArg Host.Outcome.next (if_neg (mt hautonomous.1 hlast)), ?_⟩
    exact ⟨rfl, rfl, rfl, rfl, rfl, rfl, rfl, hpoint, fun _ => ⟨rfl, rfl, rfl, hparts, hpoints⟩, fun h => absurd h hlast⟩

end

/-! PROOF. O38, O41 and O43: the filter, ages and staleness, the discrete inputs. -/

namespace Sys2Proof.Machine

/-! The filter (R69). -/

theorem keepSample_accumulator {ch : Nat} {v : Int × Validity} {seeding : Bool} {s : State} (hf : FiltersLawful s) (hch : ch < 16) :
    (keepSample ch v seeding s).sampling.accumulator.getD ch 0 = keptValue ch v.1 seeding s := by
  rw [keepSample_sampling]
  exact getD_set_self (by rw [((filtersLawful_iff s).1 hf).length]; exact hch) _ _

/-! Points gone stale (R88, R91). -/

theorem stale_point {j : Nat} {s : State} (hj : j < s.points.recs.length) :
    ({ s with points := s.points.stale j } : State).point j = { s.point j with validity := .invalid } :=
  getD_set_self hj _ _

theorem getD_set_none {α : Type} (l : List (Option α)) (k : Nat) : (l.set k none).getD k none = none := by
  rw [List.getD_eq_getElem?_getD, List.getElem?_set_self']
  cases l[k]? <;> rfl

/-- R91: the input power a side's span loss is computed from has gone INVALID. -/
theorem spanLoss_of_invalid {x : Side} {s : State} (hlength : s.points.recs.length = 46)
    (h : (s.point (inputPoint x)).validity = .invalid) :
    (spanLoss x s).point (lossPoint x) = ⟨(s.point (lossPoint x)).value, .invalid, 0⟩ := by
  rw [spanLoss_of_none (spanLossOf_lost (.inr (.inr h)))]
  exact point_writePoint_same _ _ _ _ (by rw [hlength]; exact lossPoint_lt x)

/-- The span loss points computed from point `j`. -/
def lossesOf (j : Nat) : List Nat := if j = 0 then [28] else if j = 2 then [29] else []

theorem afterUpdate_of_invalid {j : Nat} {s : State} (hj : j < 28) (hlength : s.points.recs.length = 46)
    (h : (s.point j).validity = .invalid) :
    pointsOnly (lossesOf j) s (afterUpdate j s) ∧
      ∀ k ∈ lossesOf j, (afterUpdate j s).point k = ⟨(s.point k).value, .invalid, 0⟩ := by
  unfold afterUpdate lossesOf
  by_cases h0 : j = 0
  · subst h0
    exact ⟨spanLoss_pointsOnly .a s, fun k hk => (List.mem_singleton.1 hk) ▸ spanLoss_of_invalid (x := .a) hlength h⟩
  · rw [if_neg h0, if_neg h0]
    by_cases h2 : j = 2
    · subst h2
      exact ⟨spanLoss_pointsOnly .b s, fun k hk => (List.mem_singleton.1 hk) ▸ spanLoss_of_invalid (x := .b) hlength h⟩
    · rw [if_neg h2, if_neg h2]
      exact ⟨pointsOnly_refl _ s, fun k hk => absurd hk List.not_mem_nil⟩

theorem afterUpdate_deadlines {j : Nat} (hj : j < 28) (s : State) :
    (afterUpdate j s).points.deadlines.getD j none = s.points.deadlines.getD j none := by
  have hloss (x : Side) : (spanLoss x s).points.deadlines.getD j none = s.points.deadlines.getD j none := by
    obtain ⟨v, validity, h⟩ := spanLoss_eq_writePoint x s
    have hne : lossPoint x ≠ j := by
      cases x <;> simp only [lossPoint] <;> omega
    rw [h, List.getD_eq_getElem?_getD, List.getD_eq_getElem?_getD]
    exact congrArg (Option.getD · none) (List.getElem?_set_ne hne)
  unfold afterUpdate
  split_ifs
  · exact hloss .a
  · exact hloss .b
  · rfl

/-! The discrete inputs (R94, R95). -/

theorem inputSum_from (k : Nat) (l : List Input) :
    (inputSum k l : Int) =
      ((List.range l.length).map
        (fun j => if (l.getD j ⟨false, false, none⟩).debounced then (2 : Int) ^ (k + j) else 0)).sum := by
  induction l generalizing k with
  | nil => rfl
  | cons x l ih =>
    have hshift (j : Nat) : k + 1 + j = k + (j + 1) := by omega
    have hbit : ((bit x.debounced * 2 ^ k : Nat) : Int) = if x.debounced then 2 ^ k else 0 := by
      cases x.debounced <;> simp [bit]
    rw [inputSum, Nat.cast_add, ih, hbit]
    simp only [List.length_cons, List.range_succ_eq_map, List.map_cons, List.map_map, List.sum_cons, Function.comp_def,
      List.getD_cons_zero, List.getD_cons_succ, hshift, Nat.add_zero]

/-- R95: the sum of the eight inputs. -/
theorem inputSum_eq {p : PointTable} (h : p.inputs.length = 8) :
    (inputSum 0 p.inputs : Int) = ((List.range 8).map (fun k => if (p.input k).debounced then (2 : Int) ^ k else 0)).sum := by
  rw [inputSum_from, h]
  simp only [Nat.zero_add]
  rfl

end Sys2Proof.Machine

section

open Sys2Proof Sys2Proof.Machine

/-- Settles O38. -/
theorem filterMovesTowardTheSample : Obligations.FilterMovesTowardTheSample := by
  refine ⟨fun avg v k => ?_, fun ch v seeding s hf hch => keepSample_accumulator hf hch⟩
  obtain ⟨hup, hdown⟩ := filterStep_between avg v k
  have hpos : (0 : Int) ≤ ((2 ^ k : Nat) : Int) := Int.natCast_nonneg _
  have hbetween : min avg v ≤ filterStep avg v k ∧ filterStep avg v k ≤ max avg v := by
    rcases le_total avg v with h | h
    · rw [min_eq_left h, max_eq_right h]
      exact hup h
    · rw [min_eq_right h, max_eq_left h]
      exact hdown h
  refine ⟨?_, ?_, hbetween.1, hbetween.2, filterStep_signed k⟩
  · rw [Int.fdiv_eq_ediv_of_nonneg _ hpos]
    rfl
  · simp [filterStep]

/-- Settles O41. -/
theorem agesStalenessAndLaunchExpiry : Obligations.AgesStalenessAndLaunchExpiry := by
  intro j p due l s hlength
  refine ⟨rfl, fun hdue => ?_, fun hnone => ?_, fun hl hfresh => ?_⟩
  · let u : State := { s.reach due with points := s.points.stale j }
    have hself : u.point j = { s.point j with validity := .invalid } := stale_point (s := s.reach due) (by rw [show (s.reach due).points = s.points from rfl, hlength]; omega)
    have hstale : pointsOnly [j.val] s u := stale_pointsOnly j (s.reach due)
    have hulength : u.points.recs.length = 46 := (List.length_set ..).trans hlength
    obtain ⟨hpoints, hloss⟩ := afterUpdate_of_invalid j.isLt hulength (by rw [hself])
    have houtside (k : Nat) (hk : k ∈ lossesOf j) : 28 ≤ k := by
      unfold lossesOf at hk
      split_ifs at hk <;> simp_all
    refine ⟨afterUpdate j u, ?_, ?_, ?_, ?_, fun k hk => ?_, ?_, ?_⟩
    · show execStalenessDeadline j s = _
      unfold execStalenessDeadline
      rw [hdue]
      rfl
    · exact afterUpdate_changesOnly j u .now (by simp)
    · exact (hpoints j fun hj => absurd (houtside j hj) (by omega)).trans hself
    · exact (afterUpdate_deadlines j.isLt u).trans (getD_set_none _ _)
    · rw [hloss k hk, hstale k (by simpa using fun h : k = j.val => absurd (houtside k hk) (by omega))]
    · exact hstale.trans hpoints (by simp) (by simp [lossesOf])
    · have hparts : changesOnly [.now, .points] s u := fun q hq => by cases q <;> simp_all [Part.same, u]
      exact hparts.trans (afterUpdate_changesOnly j u) (by simp) (by simp)
  · show execStalenessDeadline j s = _
    unfold execStalenessDeadline
    rw [hnone]
  · let u : State := { s.reach (l.arrivedAt + launchLife) with
      points := { s.points with launch := s.points.launch.set p (some { l with expired := true }) } }
    have hlost : spanLossOf (u.points.launch.get p) (u.point (inputPoint p)) = none :=
      spanLossOf_lost (.inr (.inl ⟨_, Pair.get_set_same _ _ _, rfl⟩))
    have hparts : changesOnly [.now, .points] s u := fun q hq => by cases q <;> simp_all [Part.same, u]
    refine ⟨spanLoss p u, ?_, spanLoss_changesOnly p u .now (by simp), ?_, ?_, ?_, ?_⟩
    · show execLaunchExpiry p s = _
      unfold execLaunchExpiry
      rw [hl]
      exact if_neg (by simp [hfresh])
    · exact (spanLoss_launch p u).trans rfl
    · rw [spanLoss_of_none hlost]
      exact point_writePoint_same _ _ _ _ (by
        have := lossPoint_lt p
        show _ < s.points.recs.length
        omega)
    · exact spanLoss_pointsOnly p u
    · exact hparts.trans (spanLoss_changesOnly p u) (by simp) (by simp)

/-- Settles O43. -/
theorem inputsAreDebouncedIntoPoint44 : Obligations.InputsAreDebouncedIntoPoint44 := by
  intro j level due s hinputs hlength
  dsimp only
  have hexec (ht : (s.points.input j).timer = some due) : exec (.debounceTimerExpiry j) s = .next (debounce j (s.reach due)) := by
    show execDebounceTimerExpiry j s = _
    unfold execDebounceTimerExpiry
    rw [ht]
  refine ⟨fun hne => ?_, fun heq => ?_, fun ht hraw => ?_, fun ht hraw => ?_, fun ht => ?_⟩
  · exact congrArg Host.Outcome.next (if_neg hne)
  · exact congrArg Host.Outcome.next (if_pos heq)
  · rw [hexec ht]
    exact congrArg Host.Outcome.next (debounce_of_eq (s := s.reach due) hraw)
  · let u := (s.reach due).setInput j { s.points.input j with timer := none, debounced := (s.points.input j).raw }
    have hu : debounce j (s.reach due) = writePoint 44 (inputSum 0 u.points.inputs) .valid u := debounce_of_ne hraw
    rw [hexec ht, hu]
    refine ⟨_, rfl, rfl, rfl, ?_, writePoint_pointsOnly 44 _ _ u, ?_⟩
    · rw [point_writePoint_same 44 _ _ u (by show 44 < s.points.recs.length; omega)]
      have hsum : (inputSum 0 u.points.inputs : Int) = _ := inputSum_eq (p := u.points) ((List.length_set ..).trans hinputs)
      rw [hsum]
      rfl
    · rw [← hu]
      exact (reach_changesOnly due s).trans (debounce_changesOnly j _) (by simp) (by simp)
  · show execDebounceTimerExpiry j s = _
    unfold execDebounceTimerExpiry
    rw [ht]

end

/-! PROOF. The two-wire bus: the shape of a read transaction, the levels of its data line, where it can be lost, and what
the part did up to a failure. -/

namespace Sys2Proof.Machine

/-! A read transaction up to a signal (R75). -/

/-- The signals of a read transaction before a phase. -/
def BusRead.before (r : BusRead) (ph : BusPhase) : List BusSignal := (readPhases.takeWhile (· != ph)).flatMap r.phase

theorem BusRead.upTo_eq (r : BusRead) (ph : BusPhase) (n : Nat) : r.upTo ph n = r.before ph ++ (r.phase ph).take n := rfl

theorem BusRead.signals_split (r : BusRead) (ph : BusPhase) : ∃ rest, r.signals = r.before ph ++ (r.phase ph ++ rest) := by
  refine ⟨((readPhases.dropWhile (· != ph)).tail).flatMap r.phase, ?_⟩
  have hphases : readPhases = readPhases.takeWhile (· != ph) ++ ph :: (readPhases.dropWhile (· != ph)).tail := by
    cases ph <;> rfl
  rw [BusRead.signals, BusRead.before, ← List.flatMap_cons, ← List.flatMap_append, ← hphases]

theorem BusRead.upTo_eq_take (r : BusRead) {ph : BusPhase} {n : Nat} (hn : n ≤ (r.phase ph).length) :
    r.upTo ph n = r.signals.take ((r.before ph).length + n) := by
  obtain ⟨rest, h⟩ := r.signals_split ph
  rw [h, List.take_length_add_append, List.take_append_of_le_length hn, r.upTo_eq]

/-- R75: the read transaction of an acceptable entry. -/
theorem PollEntry.signals_eq {e : PollEntry} (hvalid : e.valid = true) :
    e.busRead.signals =
      [.start] ++ sendByte (byteOf (e.addr * 2)) ++ sendByte (byteOf e.register) ++ [.start] ++
        sendByte (byteOf (e.addr * 2 + 1)) ++ (if e.length = 1 then [] else receiveByte true) ++ receiveByte false ++ [.stop] := by
  obtain ⟨-, hlength, -⟩ := (pollEntry_valid_iff e).1 hvalid
  rcases hlength with h | h <;> simp [BusRead.signals, readPhases, BusRead.phase, PollEntry.busRead, h]

theorem PollEntry.before_length (e : PollEntry) :
    (e.busRead.before .addressWrite).length = 1 ∧ (e.busRead.before .register).length = 10 ∧
      (e.busRead.before .repeatedStart).length = 19 ∧ (e.busRead.before .addressRead).length = 20 ∧
      (e.busRead.before .data).length = 29 := by
  simp [BusRead.before, readPhases, BusRead.phase, PollEntry.busRead]

theorem BusRead.stop_eq (r : BusRead) : r.signals.dropLast = r.before .stop := by
  have h : r.signals = r.before .stop ++ [.stop] := by
    simp [BusRead.signals, BusRead.before, readPhases, BusRead.phase]
  rw [h, List.dropLast_concat]

/-! The data line while the clock is high (R74). -/

/-- The signals that change the data line with the clock low alone. -/
def BusSignal.quiet : BusSignal → Bool
  | .start | .stop | .release => false
  | .send _ | .awaitAcknowledge | .receive | .pulse => true

theorem edges_of_quiet {x : BusSignal} (hx : x.quiet = true) (d : Bool) (l : List BusLines) :
    ∃ d', edgesWhileHigh (⟨false, d⟩ :: (x.lines ++ l)) = edgesWhileHigh (⟨false, d'⟩ :: l) := by
  cases x with
  | send b => exact ⟨b, by simp [BusSignal.lines, edgesWhileHigh]⟩
  | awaitAcknowledge | receive | pulse => exact ⟨true, by simp [BusSignal.lines, edgesWhileHigh]⟩
  | start | stop | release => simp [BusSignal.quiet] at hx

theorem edges_of_quiets {m : List BusSignal} (hm : ∀ x ∈ m, x.quiet = true) (d : Bool) (l : List BusLines) :
    ∃ d', edgesWhileHigh (⟨false, d⟩ :: (m.flatMap BusSignal.lines ++ l)) = edgesWhileHigh (⟨false, d'⟩ :: l) := by
  induction m generalizing d with
  | nil => exact ⟨d, rfl⟩
  | cons x m ih =>
    obtain ⟨d', hx⟩ := edges_of_quiet (hm x List.mem_cons_self) d (m.flatMap BusSignal.lines ++ l)
    obtain ⟨d'', htail⟩ := ih (fun y hy => hm y (List.mem_cons_of_mem _ hy)) d'
    exact ⟨d'', by rw [List.flatMap_cons, List.append_assoc, hx, htail]⟩

/-- A byte sent leaves the data line released on its acknowledge clock. -/
theorem edges_of_await {m : List BusSignal} (hm : ∀ x ∈ m, x.quiet = true) (d : Bool) (l : List BusLines) :
    edgesWhileHigh (⟨false, d⟩ :: (m.flatMap BusSignal.lines ++ (BusSignal.awaitAcknowledge.lines ++ l))) =
      edgesWhileHigh (⟨false, true⟩ :: l) := by
  obtain ⟨d', h⟩ := edges_of_quiets hm d (BusSignal.awaitAcknowledge.lines ++ l)
  rw [h]
  simp [BusSignal.lines, edgesWhileHigh]

theorem edges_of_start (l : List BusLines) :
    edgesWhileHigh (BusSignal.start.lines ++ l) = false :: edgesWhileHigh (⟨false, false⟩ :: l) ∧
      edgesWhileHigh (⟨false, true⟩ :: (BusSignal.start.lines ++ l)) = false :: edgesWhileHigh (⟨false, false⟩ :: l) := by
  simp [BusSignal.lines, edgesWhileHigh]

theorem edges_of_stop (d : Bool) : edgesWhileHigh (⟨false, d⟩ :: BusSignal.stop.lines) = [true] := by
  cases d <;> rfl

/-- R74: between two start conditions and a stop, bits alone move the data line, with the clock low. -/
theorem edges_of_transaction {a b : List BusSignal} (ha : ∀ x ∈ a, x.quiet = true) (hb : ∀ x ∈ b, x.quiet = true) :
    edgesWhileHigh
      ((BusSignal.start :: (a ++ BusSignal.awaitAcknowledge :: BusSignal.start :: (b ++ [BusSignal.stop]))).flatMap BusSignal.lines) =
      [false, false, true] := by
  simp only [List.flatMap_append, List.flatMap_cons, List.flatMap_nil, List.append_nil]
  obtain ⟨d, hend⟩ := edges_of_quiets hb false BusSignal.stop.lines
  rw [(edges_of_start _).1, edges_of_await ha, (edges_of_start _).2, hend, edges_of_stop]

theorem sendByte_eq (b : Byte) : sendByte b = ((List.range 8).map fun i => .send (b.getMsbD i)) ++ [.awaitAcknowledge] := rfl

theorem sendByte_quiet (b : Byte) : ∀ x ∈ sendByte b, x.quiet = true := by
  simp only [sendByte_eq, List.mem_append, List.mem_map, List.mem_singleton]
  rintro x (⟨k, -, rfl⟩ | rfl) <;> rfl

theorem receiveByte_quiet (k : Bool) : ∀ x ∈ receiveByte k, x.quiet = true := by
  simp [receiveByte, BusSignal.quiet]

/-- R74: the data line moves while the clock is high at the two starts and the stop alone. -/
theorem PollEntry.signals_edges {e : PollEntry} (hvalid : e.valid = true) :
    edgesWhileHigh (e.busRead.signals.flatMap BusSignal.lines) = [false, false, true] := by
  let bits (b : Byte) : List BusSignal := (List.range 8).map fun i => .send (b.getMsbD i)
  let data : List BusSignal := (if e.length = 1 then [] else receiveByte true) ++ receiveByte false
  have hbits (b : Byte) : ∀ x ∈ bits b, x.quiet = true := by
    simp [bits, BusSignal.quiet]
  have hdata : ∀ x ∈ data, x.quiet = true := by
    intro x hx
    rcases List.mem_append.1 hx with h | h
    · split_ifs at h
      · exact absurd h List.not_mem_nil
      · exact receiveByte_quiet true x h
    · exact receiveByte_quiet false x h
  have h := edges_of_transaction (a := sendByte (byteOf (e.addr * 2)) ++ bits (byteOf e.register))
    (b := sendByte (byteOf (e.addr * 2 + 1)) ++ data)
    (List.forall_mem_append.2 ⟨sendByte_quiet _, hbits _⟩) (List.forall_mem_append.2 ⟨sendByte_quiet _, hdata⟩)
  rw [e.signals_eq hvalid, ← h]
  simp only [sendByte_eq (byteOf e.register), data, bits, List.append_assoc, List.cons_append, List.nil_append]

/-! Where a read transaction can fail (R74, R75). -/

theorem sendByte_readsBack (b : Byte) (n : Nat) : readsBackAt (sendByte b) n = true ↔ n < 8 ∧ b.getMsbD n = true := by
  rcases n with _ | _ | _ | _ | _ | _ | _ | _ | _ | n <;> simp [readsBackAt, sendByte, List.range_succ, BusSignal.readsBack]

theorem byteOf_getMsbD {n k : Nat} (hk : k < 8) : (byteOf n).getMsbD k = n.testBit (7 - k) := by
  have h7 : 7 - k < 8 := by omega
  rw [byteOf, BitVec.getMsbD, BitVec.getLsbD_ofNat]
  simp [hk, h7]

theorem singleton_readsBack {x : BusSignal} (hx : x.readsBack = true) (n : Nat) : readsBackAt [x] n = true ↔ n = 0 := by
  rcases n with _ | n <;> simp [readsBackAt, hx]

/-- R74: in the data phase the part releases the data line at its last bit, the not-acknowledge, alone. -/
theorem data_readsBack {e : PollEntry} (hvalid : e.valid = true) (n : Nat) :
    readsBackAt (e.busRead.phase .data) n = true ↔ n = 9 * e.length - 1 := by
  have hone (k : Nat) : readsBackAt (receiveByte false) k = true ↔ k = 8 := by
    rcases k with _ | _ | _ | _ | _ | _ | _ | _ | _ | k <;>
      simp [readsBackAt, receiveByte, List.replicate_succ, BusSignal.readsBack]
  have htwo (k : Nat) : readsBackAt (receiveByte true ++ receiveByte false) k = true ↔ k = 17 := by
    rcases Nat.lt_or_ge k 9 with hk | hk
    · have hquiet : ∀ x ∈ receiveByte true, x.readsBack = false := by
        simp [receiveByte, BusSignal.readsBack]
      have hat : readsBackAt (receiveByte true ++ receiveByte false) k = false := by
        rw [readsBackAt, List.getElem?_append_left hk, List.getElem?_eq_getElem hk]
        exact hquiet _ (List.getElem_mem _)
      rw [hat]
      simp
      omega
    · have hat : readsBackAt (receiveByte true ++ receiveByte false) k = readsBackAt (receiveByte false) (k - 9) := by
        rw [readsBackAt, List.getElem?_append_right hk]
        rfl
      rw [hat, hone]
      omega
  obtain ⟨-, hlength, -⟩ := (pollEntry_valid_iff e).1 hvalid
  rcases hlength with h | h
  · simpa [BusRead.phase, PollEntry.busRead, h] using hone n
  · simpa [BusRead.phase, PollEntry.busRead, h] using htwo n

/-- R75: a not-acknowledge comes on the ninth clock of a byte the part sends. -/
theorem notAcknowledged_mayFail (e : PollEntry) (ph : BusPhase) (n : Nat) :
    e.busRead.mayFail (.notAcknowledged ph n) = true ↔ (ph = .addressWrite ∨ ph = .register ∨ ph = .addressRead) ∧ n = 8 := by
  rw [BusRead.mayFail, beq_iff_eq]
  cases ph with
  | start | repeatedStart | stop => rcases n with _ | n <;> simp [BusRead.phase]
  | addressWrite | addressRead => simpa [BusRead.phase] using sendByte_await _ n
  | register => simpa [BusRead.phase, PollEntry.busRead] using sendByte_await _ n
  | data =>
    simp only [reduceCtorEq, or_self, false_and, iff_false]
    exact fun h => data_await _ (List.mem_of_getElem? h)

theorem lostDataLine_mayFail {e : PollEntry} (hvalid : e.valid = true) :
    (∀ n, e.busRead.mayFail (.lostDataLine .addressWrite n) = true ↔ n < 8 ∧ (e.addr * 2).testBit (7 - n) = true) ∧
      (∀ n, e.busRead.mayFail (.lostDataLine .register n) = true ↔ n < 8 ∧ e.register.testBit (7 - n) = true) ∧
      (∀ n, e.busRead.mayFail (.lostDataLine .addressRead n) = true ↔ n < 8 ∧ (e.addr * 2 + 1).testBit (7 - n) = true) ∧
      (∀ n, e.busRead.mayFail (.lostDataLine .data n) = true ↔ n = 9 * e.length - 1) ∧
      ∀ ph n, ph = .start ∨ ph = .repeatedStart ∨ ph = .stop → (e.busRead.mayFail (.lostDataLine ph n) = true ↔ n = 0) := by
  have hbyte (v n : Nat) : readsBackAt (sendByte (byteOf v)) n = true ↔ n < 8 ∧ v.testBit (7 - n) = true := by
    rw [sendByte_readsBack]
    exact and_congr_right fun hn => by rw [byteOf_getMsbD hn]
  refine ⟨hbyte _, fun n => ?_, hbyte _, data_readsBack hvalid, fun ph n hph => ?_⟩
  · rw [← hbyte]
    simp [BusRead.mayFail, BusRead.phase, PollEntry.busRead]
  · rcases hph with rfl | rfl | rfl <;> exact singleton_readsBack rfl n

/-! What the part did in a transaction that failed (R75). -/

theorem failed_at {e : PollEntry} {f : ReadFailure} (hvalid : e.valid = true) (hf : e.busRead.mayFail f = true) :
    (f = .notAcknowledged .addressWrite 8 → e.busRead.failed f = e.busRead.signals.take 10 ++ [.stop]) ∧
      (f = .notAcknowledged .register 8 → e.busRead.failed f = e.busRead.signals.take 19 ++ [.stop]) ∧
      (f = .notAcknowledged .addressRead 8 → e.busRead.failed f = e.busRead.signals.take 29 ++ [.stop]) ∧
      (∀ n, f = .lostDataLine .start n → e.busRead.failed f = [.release]) ∧
      (∀ n, f = .lostDataLine .addressWrite n → e.busRead.failed f = e.busRead.signals.take (1 + n) ++ [.release]) ∧
      (∀ n, f = .lostDataLine .register n → e.busRead.failed f = e.busRead.signals.take (10 + n) ++ [.release]) ∧
      (∀ n, f = .lostDataLine .repeatedStart n → e.busRead.failed f = e.busRead.signals.take 19 ++ [.release]) ∧
      (∀ n, f = .lostDataLine .addressRead n → e.busRead.failed f = e.busRead.signals.take (20 + n) ++ [.release]) ∧
      (∀ n, f = .lostDataLine .data n → e.busRead.failed f = e.busRead.signals.take (29 + n) ++ [.release]) ∧
      ∀ n, f = .lostDataLine .stop n → e.busRead.failed f = e.busRead.signals.dropLast ++ [.release] := by
  obtain ⟨hwrite, hregister, hrepeated, hread, hdata⟩ := e.before_length
  have hfirst : (e.busRead.phase .addressWrite).length = 9 := sendByte_length _
  have hlast : (e.busRead.phase .addressRead).length = 9 := sendByte_length _
  have hone : (e.busRead.phase .register).length = 9 := by simp [BusRead.phase, PollEntry.busRead]
  obtain ⟨mwrite, mregister, mread, mdata, mone⟩ := lostDataLine_mayFail hvalid
  refine ⟨?_, ?_, ?_, ?_, ?_, ?_, ?_, ?_, ?_, ?_⟩
  · rintro rfl
    rw [BusRead.failed, BusRead.upTo_eq_take _ hfirst.ge, hwrite]
  · rintro rfl
    rw [BusRead.failed, BusRead.upTo_eq_take _ hone.ge, hregister]
  · rintro rfl
    rw [BusRead.failed, BusRead.upTo_eq_take _ hlast.ge, hread]
  · rintro n rfl
    obtain rfl := (mone _ n (.inl rfl)).1 hf
    rfl
  · rintro n rfl
    have hn := ((mwrite n).1 hf).1
    rw [BusRead.failed, BusRead.upTo_eq_take _ ((Nat.le_succ_of_le hn.le).trans hfirst.ge), hwrite]
  · rintro n rfl
    have hn := ((mregister n).1 hf).1
    rw [BusRead.failed, BusRead.upTo_eq_take _ ((Nat.le_succ_of_le hn.le).trans hone.ge), hregister]
  · rintro n rfl
    obtain rfl := (mone _ n (.inr (.inl rfl))).1 hf
    rw [BusRead.failed, BusRead.upTo_eq_take _ (Nat.zero_le _), hrepeated]
  · rintro n rfl
    have hn := ((mread n).1 hf).1
    rw [BusRead.failed, BusRead.upTo_eq_take _ ((Nat.le_succ_of_le hn.le).trans hlast.ge), hread]
  · rintro n rfl
    have hn : n ≤ (e.busRead.phase .data).length := by
      by_contra hlong
      simp [BusRead.mayFail, readsBackAt, List.getElem?_eq_none (Nat.le_of_not_le hlong)] at hf
    rw [BusRead.failed, BusRead.upTo_eq_take _ hn, hdata]
  · rintro n rfl
    obtain rfl := (mone _ n (.inr (.inr rfl))).1 hf
    rw [BusRead.failed, BusRead.stop_eq, BusRead.upTo_eq, List.take_zero, List.append_nil]

/-- R74: the first bit received is the highest of the reading. -/
theorem rawOf_cons (b : Bool) (l : List Bool) : rawOf (b :: l) = (if b then 2 ^ l.length else 0) + rawOf l := by
  have hfold (n : Nat) (l : List Bool) :
      l.foldl (fun n b => n * 2 + bit b) n = n * 2 ^ l.length + l.foldl (fun n b => n * 2 + bit b) 0 := by
    induction l generalizing n with
    | nil => simp
    | cons c l ih =>
      rw [List.foldl_cons, List.foldl_cons, ih, ih (0 * 2 + bit c), List.length_cons]
      ring
  rw [rawOf, List.foldl_cons, hfold, rawOf]
  cases b <;> simp [bit]

end Sys2Proof.Machine

/-! PROOF. O39 and O40: the ends of a read, due times, the bus fault and its recovery. -/

namespace Sys2Proof.Machine

/-! Grants after an operation (R78). -/

theorem firstDue_congr {p q : Poll} (h : ∀ k < 12, (p.run k).state = .due ↔ (q.run k).state = .due) : p.firstDue = q.firstDue :=
  List.find?_congr fun k hk => by
    rw [Bool.eq_iff_iff, beq_iff_eq, beq_iff_eq]
    exact h k (List.mem_range.1 hk)

theorem grant_kept (t : Tables) (p : Poll) : (p.grant t).driven = p.driven ∧ (p.grant t).watch = p.watch := by
  cases hop : p.op with
  | some o =>
    rw [grant_of_op t hop]
    exact ⟨rfl, rfl⟩
  | none =>
    cases hdue : p.firstDue with
    | none =>
      rw [grant_of_none t hdue]
      exact ⟨rfl, rfl⟩
    | some k =>
      rw [grant_of_due t hop hdue]
      exact ⟨rfl, rfl⟩

theorem takeGrant_changesOnly (s : State) : changesOnly [.poll] s (takeGrant s) := by
  intro p hp
  cases p <;> simp_all [Part.same, takeGrant]

/-- The unit after the operation of entry `j` ended: the bus freed, the entry's run replaced by one that is not DUE. -/
structure Poll.Ended (j : Nat) (r : PollRun) (p q : Poll) : Prop where
  index : j < 12
  length : p.runs.length = 12
  active : (p.run j).state ≠ .due
  state : r.state ≠ .due
  runs : q.runs = p.runs.set j r
  op : q.op = none

theorem Poll.Ended.run {j : Nat} {r : PollRun} {p q : Poll} (h : Poll.Ended j r p q) (k : Nat) :
    q.run k = if k = j then r else p.run k := by
  rw [Poll.run, h.runs]
  by_cases hk : k < 12
  · exact run_of_set r (h.length.symm ▸ hk)
  · rw [if_neg fun hkj : k = j => hk (hkj ▸ h.index), List.getD_eq_getElem?_getD,
      List.getElem?_set_ne fun hjk : j = k => hk (hjk ▸ h.index), ← List.getD_eq_getElem?_getD]
    rfl

theorem Poll.Ended.firstDue {j : Nat} {r : PollRun} {p q : Poll} (h : Poll.Ended j r p q) : q.firstDue = p.firstDue := by
  refine firstDue_congr fun k _ => ?_
  rw [h.run]
  split_ifs with hk
  · rw [hk]
    exact iff_of_false h.state h.active
  · exact Iff.rfl

/-- R78: the runs after the grant at the end of an operation. -/
theorem Poll.Ended.granted_run {j : Nat} {r : PollRun} {p q : Poll} (h : Poll.Ended j r p q) (t : Tables) (k : Nat) :
    (q.grant t).run k = if k = j then r else if p.firstDue = some k then ⟨.active, (p.run k).attempts, none⟩ else p.run k := by
  rw [grant_run t (by rw [h.runs, List.length_set, h.length]), h.firstDue, h.run]
  by_cases hk : k = j
  · rw [if_pos hk, if_pos hk, if_neg fun hdue => h.active (hk ▸ (firstDue_some hdue.2).2.1)]
  · rw [if_neg hk, if_neg hk]
    simp [h.op]

/-- R78: the runs after the grant at the end of an operation whose result was thrown away. -/
theorem freed_granted_run {p q : Poll} (hlength : p.runs.length = 12) (hruns : q.runs = p.runs) (hop : q.op = none)
    (t : Tables) (k : Nat) :
    (q.grant t).run k = if p.firstDue = some k then ⟨.active, (p.run k).attempts, none⟩ else p.run k := by
  have hrun : q.run = p.run := by
    funext j
    rw [Poll.run, hruns, Poll.run]
  have hdue : q.firstDue = p.firstDue := firstDue_congr fun j _ => by rw [hrun]
  rw [grant_run t (hruns ▸ hlength), hdue, hrun]
  simp [hop]

/-- R78: the bus after a grant on an idle one. -/
theorem grant_idle {q : Poll} (hop : q.op = none) (hbus : q.bus = .idle) (t : Tables) :
    (q.firstDue = none → (q.grant t).bus = .idle ∧ (q.grant t).op = none) ∧
      ∀ k, q.firstDue = some k →
        (q.grant t).bus = .busy ∧ (q.grant t).op = some ⟨.read, k, t.pollEntry k, false⟩ := by
  refine ⟨fun hdue => ?_, fun k hdue => ?_⟩
  · rw [grant_of_none t hdue]
    exact ⟨hbus, hop⟩
  · rw [grant_of_due t hop hdue]
    simp [hbus, Poll.granted]

/-! The end of a read (R79, R80, R83). -/

theorem exec_readDone {op : BusOp} {bits : List Bool} {s : State} (hop : s.poll.op = some op) (hread : op.kind = .read)
    (hbits : bits.length = 8 * op.entry.length) : exec (.transactionSuccess bits) s = .next (readDone op bits s) := by
  show execTransactionSuccess bits s = _
  unfold execTransactionSuccess
  rw [hop]
  exact congrArg Host.Outcome.next (if_pos ⟨hread, hbits⟩)

theorem exec_readLost {op : BusOp} {f : ReadFailure} {s : State} (hop : s.poll.op = some op) (hread : op.kind = .read)
    (hf : op.entry.busRead.mayFail f = true) : exec (.transactionFailure f) s = .next (readLost op f s) := by
  show execTransactionFailure f s = _
  unfold execTransactionFailure
  rw [if_pos (mayFail_inPhase _ f hf), hop]
  exact congrArg Host.Outcome.next (if_pos ⟨hread, hf⟩)

theorem exec_no_failure {op : BusOp} {f : ReadFailure} {s : State} (hop : s.poll.op = some op)
    (hf : ¬op.entry.busRead.mayFail f = true) (hphase : f.inPhase = true) : exec (.transactionFailure f) s = .next s := by
  show execTransactionFailure f s = _
  unfold execTransactionFailure
  rw [if_pos hphase, hop]
  exact congrArg Host.Outcome.next (if_neg fun h => hf h.2)

/-- R80: a failed read while a retry remains. -/
theorem readLost_retry {op : BusOp} {f : ReadFailure} {s : State} (hmark : op.discard = false)
    (hretry : (s.poll.run op.index).attempts < op.entry.retryLimit) :
    readLost op f s = takeGrant { s with
      poll := (s.poll.freed (op.entry.busRead.failed f)).setRun op.index
        ⟨.waitingRetry, (s.poll.run op.index).attempts + 1, some (s.now + millis 10)⟩ } := by
  unfold readLost
  rw [hmark]
  exact congrArg takeGrant (if_pos hretry)

/-- R80: a failed read with no retry left. -/
theorem readLost_failed {op : BusOp} {f : ReadFailure} {s : State} (hmark : op.discard = false)
    (hretry : op.entry.retryLimit ≤ (s.poll.run op.index).attempts) :
    readLost op f s = takeGrant (invalidate (pollPoint op.index) { s with
      poll := (s.poll.freed (op.entry.busRead.failed f)).setRun op.index
        ⟨.failed, 0, some (s.now + seconds op.entry.period)⟩ }) := by
  unfold readLost
  rw [hmark]
  exact congrArg takeGrant (if_neg (Nat.not_lt.2 hretry))

theorem readLost_marked {op : BusOp} {f : ReadFailure} {s : State} (hmark : op.discard = true) :
    readLost op f s = takeGrant { s with poll := s.poll.freed (op.entry.busRead.failed f) } := by
  unfold readLost
  rw [hmark]
  rfl

theorem readLost_driven (op : BusOp) (f : ReadFailure) (s : State) :
    (readLost op f s).poll.driven = op.entry.busRead.failed f := by
  refine (grant_kept _ _).1.trans ?_
  split_ifs
  · rfl
  · unfold readFailed
    dsimp only
    split_ifs <;> rfl

theorem readDone_unmarked {op : BusOp} {bits : List Bool} {s : State} (hmark : op.discard = false) :
    readDone op bits s =
      takeGrant (readSuccess op.index op.entry bits { s with poll := s.poll.freed op.entry.busRead.signals }) := by
  unfold readDone
  rw [hmark]
  rfl

theorem readDone_marked {op : BusOp} {bits : List Bool} {s : State} (hmark : op.discard = true) :
    readDone op bits s = takeGrant { s with poll := s.poll.freed op.entry.busRead.signals } := by
  unfold readDone
  rw [hmark]
  rfl

theorem running_active {s : State} {op : BusOp} (h : s.poll.Lawful) (hop : s.poll.op = some op) (hstart : op.kind ≠ .startup)
    (hmark : op.discard = false) : (s.poll.run op.index).state = .active := by
  rw [h.active _ (h.op op hop).index, activeEntry_of_some hop, if_neg (by simp [hstart, hmark])]

theorem setPoll_changesOnly (q : Poll) (s : State) : changesOnly [.poll] s { s with poll := q } := by
  intro p hp
  cases p <;> simp_all [Part.same]

end Sys2Proof.Machine

section

open Sys2Proof Sys2Proof.Machine

/-- Settles O39. -/
theorem readsEndAndTheBusIsGranted : Obligations.ReadsEndAndTheBusIsGranted := by
  intro op bits f s hop hread hpoll hlength
  have hlawful := ((pollLawful_iff s).1 hpoll).1
  have hindex : op.index < 12 := (hlawful.op op hop).index
  have hvalid : op.entry.valid = true := (hlawful.op op hop).valid
  intro i e v sent whole fails others granted
  have hwhole : whole = e.busRead.signals := (e.signals_eq hvalid).symm
  obtain ⟨mwrite, mregister, mread, mdata, mone⟩ := lostDataLine_mayFail hvalid
  have hin : pollPoint op.index < s.points.recs.length := by
    rw [hlength, pollPoint]
    omega
  -- the unit freed, with the run of its entry replaced
  have hended {r : PollRun} (d : List BusSignal) (hmark : op.discard = false) (hr : r.state ≠ .due) :
      Poll.Ended i r s.poll ((s.poll.freed d).setRun i r) := by
    have hactive := running_active hlawful hop (by simp [hread]) hmark
    exact ⟨hindex, hlawful.length, by rw [hactive]; simp, hr, rfl, rfl⟩
  have hgranted {t : State} {q : Poll} (ht : t.poll = q.grant s.tables) (hdue : q.firstDue = s.poll.firstDue)
      (hfree : q.op = none) (hbus : q.bus = .idle) : granted t := by
    obtain ⟨hidle, hbusy⟩ := grant_idle hfree hbus s.tables
    simp only [granted, ht]
    split
    case h_1 h => exact hidle (hdue.trans h)
    case h_2 k h => exact hbusy k (hdue.trans h)
  have hothers {t : State} {r : PollRun} {q : Poll} (ht : t.poll = q.grant s.tables) (h : Poll.Ended i r s.poll q)
      (hpoints : pointsOnly [16 + i] s t) (hparts : changesOnly [.poll, .points] s t) : others t :=
    ⟨fun k hk => by rw [ht, h.granted_run, if_neg hk], hpoints, hparts⟩
  refine ⟨fun b => rfl, ?_, rawOf_cons, notAcknowledged_mayFail e, mwrite, mregister, mread, mdata, mone,
    fun hnot hphase => exec_no_failure hop hnot hphase, fun hmark hbits => ?_, fun hmark hf hretry => ?_,
    fun hmark hf hretry => ?_, fun hf => ?_, fun hmark hf => ?_, fun hmark hbits => ?_⟩
  · rw [hwhole]
    exact e.signals_edges hvalid
  · let u := readSuccess i e bits { s with poll := s.poll.freed e.busRead.signals }
    have hq := hended (r := ⟨.idle, 0, some (s.now + seconds e.period)⟩) e.busRead.signals hmark (by simp)
    have hpoll : (takeGrant u).poll = ((s.poll.freed e.busRead.signals).setRun i
      ⟨.idle, 0, some (s.now + seconds e.period)⟩).grant s.tables := rfl
    refine ⟨takeGrant u, (exec_readDone hop hread hbits).trans (congrArg Host.Outcome.next (readDone_unmarked hmark)), ?_, ?_,
      hothers hpoll hq ?_ ?_, hgranted hpoll hq.firstDue rfl rfl, ?_⟩
    · exact point_writePoint_same _ _ _ { s with poll := s.poll.freed e.busRead.signals } hin
    · rw [hpoll, hq.granted_run, if_pos rfl, seconds, Nat.mul_comm]
    · exact writePoint_pointsOnly (pollPoint i) v.1 v.2 { s with poll := s.poll.freed e.busRead.signals }
    · intro p hp
      cases p <;> simp_all [Part.same, u, takeGrant, readSuccess]
    · rw [hpoll, (grant_kept _ _).1, hwhole]
      rfl
  · let q := (s.poll.freed (e.busRead.failed f)).setRun i
      ⟨.waitingRetry, (s.poll.run i).attempts + 1, some (s.now + millis 10)⟩
    have hq := hended (r := ⟨.waitingRetry, (s.poll.run i).attempts + 1, some (s.now + millis 10)⟩) (e.busRead.failed f) hmark (by simp)
    refine ⟨takeGrant { s with poll := q },
      (exec_readLost hop hread hf).trans (congrArg Host.Outcome.next (readLost_retry hmark hretry)), ?_, rfl,
      hothers (q := q) rfl hq (fun _ _ => rfl) ?_, hgranted (q := q) rfl hq.firstDue rfl rfl⟩
    · exact (hq.granted_run s.tables i).trans (if_pos rfl)
    · exact (setPoll_changesOnly q s).trans (takeGrant_changesOnly _) (by simp) (by simp)
  · let q := (s.poll.freed (e.busRead.failed f)).setRun i ⟨.failed, 0, some (s.now + seconds e.period)⟩
    have hq := hended (r := ⟨.failed, 0, some (s.now + seconds e.period)⟩) (e.busRead.failed f) hmark (by simp)
    let u := invalidate (pollPoint i) { s with poll := q }
    have hparts : changesOnly [.poll, .points] s u :=
      (setPoll_changesOnly q s).trans (invalidate_changesOnly _ _) (by simp) (by simp)
    refine ⟨takeGrant u, (exec_readLost hop hread hf).trans (congrArg Host.Outcome.next (readLost_failed hmark hretry)), ?_, ?_,
      hothers (q := q) rfl hq ?_ ?_, hgranted (q := q) rfl hq.firstDue rfl rfl⟩
    · rw [show (takeGrant u).poll = q.grant s.tables from rfl, hq.granted_run, if_pos rfl, seconds, Nat.mul_comm]
    · exact point_writePoint_same _ _ _ { s with poll := q } hin
    · exact invalidate_pointsOnly (pollPoint i) { s with poll := q }
    · exact hparts.trans (takeGrant_changesOnly u) (by simp) (by simp)
  · obtain ⟨h1, h2, h3, h4, h5, h6, h7, h8, h9, h10⟩ := failed_at hvalid hf
    refine ⟨readLost op f s, exec_readLost hop hread hf, ?_⟩
    rw [readLost_driven, hwhole]
    exact ⟨h1, h2, h3, h4, h5, h6, h7, h8, h9, h10⟩
  · let q := s.poll.freed (e.busRead.failed f)
    refine ⟨takeGrant { s with poll := q }, (exec_readLost hop hread hf).trans (congrArg Host.Outcome.next (readLost_marked hmark)),
      rfl, hgranted (q := q) rfl rfl rfl rfl, ?_, fun k => freed_granted_run (q := q) hlawful.length rfl rfl s.tables k⟩
    exact (setPoll_changesOnly q s).trans (takeGrant_changesOnly _) (by simp) (by simp)
  · let q := s.poll.freed e.busRead.signals
    refine ⟨takeGrant { s with poll := q }, (exec_readDone hop hread hbits).trans (congrArg Host.Outcome.next (readDone_marked hmark)),
      rfl, hgranted (q := q) rfl rfl rfl rfl, ?_, fun k => freed_granted_run (q := q) hlawful.length rfl rfl s.tables k⟩
    exact (setPoll_changesOnly q s).trans (takeGrant_changesOnly _) (by simp) (by simp)

end

/-! PROOF. O40: due times, the start-up pulses, the bus fault and its recovery. -/

namespace Sys2Proof.Machine

/-- R78: what a grant makes of a unit without an operation. -/
theorem grant_from {p : Poll} (hlength : p.runs.length = 12) (hop : p.op = none) (t : Tables) :
    (p.firstDue = none → (p.grant t).bus = p.bus ∧ (p.grant t).op = none) ∧
      ∀ k, p.firstDue = some k →
        (p.grant t).op = some ⟨if p.bus = .fault then .recovery else .read, k, t.pollEntry k, false⟩ ∧
          (p.grant t).bus = (if p.bus = .fault then .fault else .busy) ∧
          (p.grant t).run k = ⟨.active, (p.run k).attempts, none⟩ := by
  refine ⟨fun hdue => ?_, fun k hdue => ⟨?_, ?_, ?_⟩⟩
  · rw [grant_of_none t hdue]
    exact ⟨rfl, hop⟩
  · rw [grant_of_due t hop hdue]
    rfl
  · rw [grant_of_due t hop hdue]
  · rw [grant_run t hlength, if_pos ⟨hop, hdue⟩]

theorem grant_fault {p : Poll} (hop : p.op = none) (hbus : p.bus = .fault) (t : Tables) : (p.grant t).bus = .fault := by
  cases hdue : p.firstDue with
  | none => rw [grant_of_none t hdue, hbus]
  | some k => rw [grant_of_due t hop hdue, if_pos hbus]

theorem grant_run_of_not_due {p : Poll} (t : Tables) (hlength : p.runs.length = 12) {k : Nat} (hk : (p.run k).state ≠ .due) :
    (p.grant t).run k = p.run k := by
  rw [grant_run t hlength, if_neg fun h => hk (firstDue_some h.2).2.1]

theorem setRun_run {p : Poll} (hlength : p.runs.length = 12) (j : Fin 12) (r : PollRun) (k : Nat) :
    (p.setRun j r).run k = if k = j then r else p.run k := by
  by_cases hk : k < 12
  · exact run_of_set r (hlength.symm ▸ hk)
  · have hne : j.val ≠ k := fun hjk => hk (hjk ▸ j.isLt)
    rw [if_neg (Ne.symm hne), Poll.run, Poll.setRun, List.getD_eq_getElem?_getD, List.getElem?_set_ne hne,
      ← List.getD_eq_getElem?_getD]
    rfl

theorem setRun_length (j : Nat) (r : PollRun) (p : Poll) : (p.setRun j r).runs.length = p.runs.length := List.length_set ..

/-! The bus fault (R81). -/

theorem invalidatePolls_length (n : Nat) (s : State) : (invalidatePolls n s).points.recs.length = s.points.recs.length := by
  induction n with
  | zero => rfl
  | succ n ih => exact (List.length_set ..).trans ih

theorem invalidatePolls_point {n : Nat} {s : State} (hlength : s.points.recs.length = 46) (hn : n ≤ 12) (j : Nat) :
    (invalidatePolls n s).point j = if 16 ≤ j ∧ j < 16 + n then ⟨(s.point j).value, .invalid, 0⟩ else s.point j := by
  induction n with
  | zero => rw [if_neg (by omega), invalidatePolls]
  | succ n ih =>
    have ih := ih (by omega)
    rw [invalidatePolls, invalidate]
    by_cases hj : pollPoint n = j
    · subst hj
      rw [point_writePoint_same _ _ _ _ (by rw [invalidatePolls_length, hlength, pollPoint]; omega), ih]
      simp [pollPoint]
    · rw [point_writePoint_other _ _ _ _ _ (Ne.symm hj), ih]
      have hiff : 16 ≤ j ∧ j < 16 + n ↔ 16 ≤ j ∧ j < 16 + (n + 1) := by
        unfold pollPoint at hj
        omega
      simp only [hiff]

/-- R82: a recovery with both lines high starts its entry's read. -/
theorem takeRecovery_high {op : BusOp} {s : State} (hmark : op.discard = false) :
    takeRecovery op true s = { s with
      poll := { s.poll.setRun op.index ⟨.active, 0, none⟩ with
        bus := .busy, op := some ⟨.read, op.index, s.tables.pollEntry op.index, false⟩, driven := recoverySignals } } := by
  unfold takeRecovery
  rw [hmark]
  rfl

/-- R82: a recovery with a line low fails its entry. -/
theorem takeRecovery_low {op : BusOp} {s : State} (hmark : op.discard = false) :
    takeRecovery op false s = takeGrant { s with
      poll := { s.poll.setRun op.index ⟨.failed, 0, some (s.now + seconds op.entry.period)⟩ with
        op := none, driven := recoverySignals } } := by
  unfold takeRecovery
  rw [hmark]
  rfl

/-- R83: a marked recovery leaves its entry. -/
theorem takeRecovery_marked {op : BusOp} {s : State} (hmark : op.discard = true) :
    takeRecovery op true s = { s with poll := { s.poll with bus := .idle, op := none, driven := recoverySignals } } ∧
      takeRecovery op false s = takeGrant { s with poll := { s.poll with op := none, driven := recoverySignals } } := by
  unfold takeRecovery
  rw [hmark]
  exact ⟨rfl, rfl⟩

theorem faultRun_eq (now : Nat) (e : PollEntry) (r : PollRun) :
    faultRun now e r = if r.state = .idle ∨ r.state = .failed then r else ⟨.failed, 0, some (now + 1000000 * e.period)⟩ := by
  rw [Nat.mul_comm]
  obtain ⟨state, attempts, time⟩ := r
  cases state <;> rfl

end Sys2Proof.Machine

section

open Sys2Proof Sys2Proof.Machine

/-- Settles O40. -/
theorem dueTimesBusFaultAndRecovery : Obligations.DueTimesBusFaultAndRecovery := by
  intro i due op c d s hpoll hlength
  have hlawful := ((pollLawful_iff s).1 hpoll).1
  have hruns := hlawful.length
  intro run now grantedFrom becomesDue
  have hfrom {was p : Poll} {t : State} (hpruns : p.runs.length = 12) (hop : p.op = none) (hbus : p.bus = was.bus)
      (hrun : ∀ k, (p.run k).state = .due ∨ (was.run k).state = .due → p.run k = was.run k)
      (ht : t.poll = p.grant s.tables) : grantedFrom was t := by
    have hsame : p.firstDue = was.firstDue := firstDue_congr fun k _ =>
      ⟨fun h => hrun k (.inl h) ▸ h, fun h => (hrun k (.inr h)).symm ▸ h⟩
    obtain ⟨hnone, hsome⟩ := grant_from hpruns hop s.tables
    rw [hbus] at hnone hsome
    simp only [grantedFrom, ht]
    split
    case h_1 h => exact hnone (hsame.trans h)
    case h_2 k h =>
      have hk := hrun k (.inr (firstDue_some h).2.1)
      rw [← hk]
      exact hsome k (hsame.trans h)
  have hdue {e : Instr} (h : exec e s = .next (becomeDue i (s.reach due))) : becomesDue e := by
    let p := s.poll.setRun i ⟨.due, (s.poll.run i).attempts, none⟩
    have hpruns : p.runs.length = 12 := (setRun_length ..).trans hruns
    have hrun (k : Nat) : p.run k = if k = i.val then ⟨.due, (s.poll.run i).attempts, none⟩ else s.poll.run k :=
      setRun_run hruns i _ k
    refine ⟨becomeDue i (s.reach due), h, rfl, ?_, fun k hk hnot => ?_, fun hop => ?_, fun hop => ⟨fun hnone => ?_, ?_⟩⟩
    · exact (reach_changesOnly due s).trans
        ((setPoll_changesOnly p (s.reach due)).comp (takeGrant_changesOnly { s.reach due with poll := p })) (by simp) (by simp)
    · have hpk : p.run k = s.poll.run k := (hrun k).trans (if_neg hk)
      exact (grant_run_of_not_due s.tables hpruns (hpk ▸ hnot)).trans hpk
    · obtain ⟨o, ho⟩ := Option.ne_none_iff_exists'.1 hop
      have hgrant : (becomeDue i (s.reach due)).poll = p := grant_of_op s.tables (p := p) ho
      refine ⟨?_, (congrArg Poll.op hgrant).trans rfl, (congrArg Poll.bus hgrant).trans rfl⟩
      exact (congrArg (Poll.run · i) hgrant).trans ((hrun i).trans (if_pos rfl))
    · refine firstDue_none.1 (grant_op_none s.tables (p := p) hnone).2 i i.isLt ?_
      rw [hrun, if_pos rfl]
    · exact hfrom (p := p) hpruns hop rfl (fun _ _ => rfl) rfl
  have hrecovered (hop : s.poll.op = some op) (hkind : op.kind = .recovery) :
      exec (.recoveryComplete c d) s = .next (takeRecovery op (c && d) s) := by
    show execRecoveryComplete c d s = _
    unfold execRecoveryComplete
    rw [hop]
    exact congrArg Host.Outcome.next (if_pos hkind)
  refine ⟨fun ht hst => hdue ?_, fun ht hst => hdue ?_, fun hop hkind => ?_, fun hwatch hbus => ?_, fun h => ?_,
    fun hop hkind hmark hc hd => ?_, fun hop hkind hmark hlow => ?_, fun hop hkind hmark => ?_⟩
  · show execNextDueTime i s = _
    unfold execNextDueTime
    have ht' : (s.poll.run i).time = some due := ht
    rcases hst with hst | hst
    all_goals
      have hst' : (s.poll.run i).state = _ := hst
      rw [hst', ht']
  · show execRetryTime i s = _
    unfold execRetryTime
    have ht' : (s.poll.run i).time = some due := ht
    have hst' : (s.poll.run i).state = _ := hst
    rw [hst', ht']
  · let p : Poll := { s.poll with
      op := none, watch := true, driven := recoverySignals,
      runs := (List.range 12).map fun j => if (s.tables.pollEntry j).inUse then ⟨.due, 0, none⟩ else s.poll.run j }
    have hpruns : p.runs.length = 12 := by simp [p]
    have hrun {k : Nat} (hk : k < 12) : p.run k = if (s.tables.pollEntry k).inUse then ⟨.due, 0, none⟩ else s.poll.run k :=
      run_of_range (p := p) (f := fun j => if (s.tables.pollEntry j).inUse then ⟨.due, 0, none⟩ else s.poll.run j) rfl hk
    refine ⟨takeStartup s, ?_, (grant_kept s.tables p).2, (grant_kept s.tables p).1, ?_, fun k hk huse => ?_,
      fun k hk huse hnot => ?_⟩
    · show execStartupPulsesDone s = _
      unfold execStartupPulsesDone
      rw [hop]
      exact congrArg Host.Outcome.next (if_pos hkind)
    · exact (setPoll_changesOnly p s).trans (takeGrant_changesOnly { s with poll := p }) (by simp) (by simp)
    · show ((p.grant s.tables).run k).state = .due ∨ ((p.grant s.tables).run k).state = .active
      rw [grant_run s.tables hpruns, hrun hk, if_pos huse]
      split_ifs
      · exact .inr rfl
      · exact .inl rfl
    · have hpk : p.run k = s.poll.run k := (hrun hk).trans (if_neg (by simp [huse]))
      exact (grant_run_of_not_due s.tables hpruns (hpk ▸ hnot)).trans hpk
  · let p : Poll := { s.poll with
      bus := .fault, op := none,
      runs := (List.range 12).map fun j => faultRun s.now (s.tables.pollEntry j) (s.poll.run j) }
    have hfault : (takeBusFault s).poll = p := by simp [takeBusFault, p]
    have hpoint (j : Nat) : (takeBusFault s).point j =
        if 16 ≤ j ∧ j < 16 + 12 then ⟨(s.point j).value, .invalid, 0⟩ else s.point j :=
      invalidatePolls_point (s := { s with poll := p }) hlength (le_refl 12) j
    refine ⟨takeBusFault s, congrArg Host.Outcome.next (if_pos ⟨hwatch, hbus⟩), ?_⟩
    refine ⟨by rw [hfault], by rw [hfault], by rw [hfault], fun k hk => ?_, fun k hk => ?_, fun j hj => ?_, ?_⟩
    · show (takeBusFault s).poll.run k = _
      rw [hfault, run_of_range (p := p) (f := fun j => faultRun s.now (s.tables.pollEntry j) (s.poll.run j)) rfl hk, faultRun_eq]
    · rw [hpoint, if_pos (by omega)]
    · rw [hpoint, if_neg]
      simp only [List.mem_cons, List.not_mem_nil, or_false] at hj
      omega
    · intro q hq
      cases q <;> simp_all [Part.same, takeBusFault]
  · refine congrArg Host.Outcome.next (if_neg ?_)
    rintro ⟨hwatch, hbus⟩
    exact h.elim (fun h => by simp [h] at hwatch) hbus
  · rw [hrecovered hop hkind, hc, hd]
    refine ⟨takeRecovery op true s, rfl, ?_⟩
    rw [takeRecovery_high hmark]
    refine ⟨rfl, ?_, rfl, fun k hk => ?_, setPoll_changesOnly _ s⟩
    · exact (setRun_run hruns ⟨op.index, (hlawful.op op hop).index⟩ _ op.index).trans (if_pos rfl)
    · exact (setRun_run hruns ⟨op.index, (hlawful.op op hop).index⟩ _ k).trans (if_neg hk)
  · have hlow' : (c && d) = false := by
      rcases hlow with rfl | rfl <;> simp
    have hfault : s.poll.bus = .fault := (hlawful.op op hop).recovery hkind
    let q : Poll := { s.poll.setRun op.index ⟨.failed, 0, some (s.now + seconds op.entry.period)⟩ with
      op := none, driven := recoverySignals }
    have hq : Poll.Ended op.index ⟨.failed, 0, some (s.now + seconds op.entry.period)⟩ s.poll q :=
      ⟨(hlawful.op op hop).index, hruns, by rw [running_active hlawful hop (by simp [hkind]) hmark]; simp, by simp, rfl, rfl⟩
    rw [hrecovered hop hkind, hlow', takeRecovery_low hmark]
    refine ⟨takeGrant { s with poll := q }, rfl, ?_, ?_, hfrom (p := q) ?_ rfl hfault (fun k hk => ?_) rfl, ?_⟩
    · exact grant_fault (p := q) rfl hfault s.tables
    · refine (hq.granted_run s.tables op.index).trans ((if_pos rfl).trans ?_)
      rw [seconds, Nat.mul_comm]
    · exact (setRun_length ..).trans hruns
    · show q.run k = s.poll.run k
      rw [hq.run, if_neg]
      rintro rfl
      rw [hq.run, if_pos rfl] at hk
      exact hk.elim (fun h => hq.state h) hq.active
    · exact (setPoll_changesOnly q s).trans (takeGrant_changesOnly _) (by simp) (by simp)
  · have hfault : s.poll.bus = .fault := (hlawful.op op hop).recovery hkind
    rw [hrecovered hop hkind]
    cases hhigh : c && d with
    | true =>
      obtain ⟨rfl, rfl⟩ := Bool.and_eq_true_iff.1 hhigh
      rw [(takeRecovery_marked hmark).1]
      exact ⟨_, rfl, setPoll_changesOnly _ s, rfl, fun _ _ => ⟨rfl, rfl, rfl⟩, fun h => by simp at h⟩
    | false =>
      let q : Poll := { s.poll with op := none, driven := recoverySignals }
      rw [(takeRecovery_marked hmark).2]
      refine ⟨takeGrant { s with poll := q }, rfl, ?_, (grant_kept s.tables q).1, fun hc hd => by simp [hc, hd] at hhigh,
        fun _ => ⟨?_, hfrom (p := q) hruns rfl rfl (fun _ _ => rfl) rfl, fun k hk => ?_⟩⟩
      · exact (setPoll_changesOnly q s).trans (takeGrant_changesOnly _) (by simp) (by simp)
      · exact grant_fault (p := q) rfl hfault s.tables
      · exact (freed_granted_run (q := q) hruns rfl rfl s.tables k).trans (if_neg hk)

end

/-! PROOF. O47 and O48: targets, modes, triggers and timers of a pump channel. -/

namespace Sys2Proof.Machine

/-! Targets (R133). -/

theorem retarget_of_eq {now level : Nat} {p : Pump} (h : effectiveTarget p.inUse p.mode level = p.target) :
    p.retarget now level = ⟨p, []⟩ := if_pos h

theorem retarget_of_ne {now level : Nat} {p : Pump} (h : effectiveTarget p.inUse p.mode level ≠ p.target) :
    p.retarget now level = (p.aim level).follow now := if_neg h

theorem follow_run {now : Nat} {p : Pump} (h : p.state = .run) : p.follow now = ⟨p.enterRamp now, []⟩ := by
  unfold Pump.follow
  rw [h]

theorem follow_probe {now : Nat} {p : Pump} (h : p.state = .probe) :
    p.follow now = ⟨{ p with current := p.target }, [⟨.setpoint, p.target, .pump⟩]⟩ := by
  unfold Pump.follow
  rw [h]

theorem follow_still {now : Nat} {p : Pump} (hrun : p.state ≠ .run) (hprobe : p.state ≠ .probe) : p.follow now = ⟨p, []⟩ := by
  unfold Pump.follow
  split
  · exact absurd ‹_› hrun
  · exact absurd ‹_› hprobe
  all_goals rfl

theorem enterRamp_run {now : Nat} {p : Pump} (h : p.state = .run) :
    p.enterRamp now =
      if p.current = p.target then { p with startAt := none, rampAt := none }
      else { p with state := .ramp, startAt := none, rampAt := some (now + 10000) } := by
  obtain ⟨state, mode, current, target, inUse, a, b, c, d, e⟩ := p
  obtain rfl : state = .run := h
  rfl

/-! Modes (R140), appearances (R137) and driver faults (R141). -/

theorem modeRequest_stop {now level : Nat} {p : Pump} (h : p.state ≠ .off) : p.modeRequest now level .off = p.stop level := by
  unfold Pump.modeRequest
  cases hs : p.state with
  | off => exact absurd hs h
  | startWait | ramp | run | reduced | probe | fault => rfl

theorem modeRequest_start {now level : Nat} {m : Mode} {p : Pump} (hm : m ≠ .off) (h : p.state = .off ∨ p.state = .fault) :
    p.modeRequest now level m = p.startWait now level m := by
  unfold Pump.modeRequest
  cases m with
  | off => exact absurd rfl hm
  | normal | boost => rcases h with h | h <;> rw [h]

theorem modeRequest_running {now level : Nat} {m : Mode} {p : Pump} (hm : m ≠ .off) (hoff : p.state ≠ .off) (hfault : p.state ≠ .fault) :
    p.modeRequest now level m = Pump.retarget now level { p with mode := m } := by
  unfold Pump.modeRequest
  cases m with
  | off => exact absurd rfl hm
  | normal | boost =>
    cases hs : p.state with
    | off => exact absurd hs hoff
    | fault => exact absurd hs hfault
    | startWait | ramp | run | reduced | probe => rfl

theorem appearance_reduce {now : Nat} {p : Pump} (h : p.state = .ramp ∨ p.state = .run ∨ p.state = .probe) :
    p.appearance now = p.reduce now := by
  unfold Pump.appearance
  rcases h with h | h | h <;> rw [h]

theorem appearance_still {now : Nat} {p : Pump} (h : p.state = .off ∨ p.state = .startWait ∨ p.state = .reduced ∨ p.state = .fault) :
    p.appearance now = ⟨p, []⟩ := by
  unfold Pump.appearance
  rcases h with h | h | h | h <;> rw [h]

theorem driverFault_still {p : Pump} (h : p.state = .off ∨ p.state = .fault) : p.driverFault = ⟨p, []⟩ := by
  unfold Pump.driverFault
  rcases h with h | h <;> rw [h]

theorem driverFault_running {p : Pump} (hoff : p.state ≠ .off) (hfault : p.state ≠ .fault) :
    p.driverFault =
      ⟨{ p with state := .fault, current := 0, startAt := none, rampAt := none, probeAt := none, durationAt := none },
        [⟨.setpoint, 0, .safety⟩, ⟨.enable, 0, .pump⟩]⟩ := by
  unfold Pump.driverFault
  cases hs : p.state with
  | off => exact absurd hs hoff
  | fault => exact absurd hs hfault
  | startWait | ramp | run | reduced | probe => rfl

/-! New settings (R132). -/

/-- The SETPOINT word of a current brought down. -/
def loweredTo (a b : Nat) : List PumpWord := if a = b then [] else [⟨.setpoint, b, .safety⟩]

theorem loweredTo_min (current cap : Nat) :
    loweredTo current (min current cap) = if cap < current then [⟨.setpoint, min current cap, .safety⟩] else [] := by
  unfold loweredTo
  by_cases h : cap < current
  · rw [if_pos h, if_neg (by omega)]
  · rw [if_neg h, if_pos (by omega)]

theorem lowered_eq_min (current cap : Nat) : (if cap < current then cap else current) = min current cap := by
  split_ifs <;> omega

theorem settingsChange_eq (now level : Nat) (g : PumpSettings) (p : Pump) :
    p.settingsChange now level g =
      let i1 := min p.current g.ceiling
      let i2 := if p.state = .reduced then min i1 g.safe else i1
      let q := Pump.retarget now level { p with inUse := g, current := i2 }
      ⟨q.pump, loweredTo p.current i1 ++ loweredTo i1 i2 ++
        (if g.ceiling = p.inUse.ceiling then [] else [⟨.clamp, g.ceiling, .pump⟩]) ++ q.words⟩ := by
  unfold Pump.settingsChange
  simp only [lowered_eq_min, loweredTo_min]
  by_cases hs : p.state = .reduced
  · simp only [hs, true_and, if_true, lowered_eq_min, loweredTo_min]
  · simp only [hs, false_and, if_false, loweredTo, if_true]

/-! A channel's own event (R133). -/

theorem applyPump_point {c : Channel} {r : PumpResult} {s : State} (hlength : s.points.recs.length = 46) :
    (applyPump c r s).point (pumpPoint c) =
      if r.pump.state = (s.pumps.get c).state then s.point (pumpPoint c) else ⟨r.pump.state.code, .valid, 0⟩ := by
  have hin : pumpPoint c < s.points.recs.length := by
    cases c <;> simp [pumpPoint, hlength]
  unfold applyPump State.point
  split_ifs
  · rfl
  · exact point_writePoint_same (pumpPoint c) _ .valid s hin

/-- What a channel's timer does at its expiry. -/
def Pump.Moves (c : Channel) (s : State) (now : Nat) (r : PumpResult) (t : State) : Prop :=
  t.now = now ∧ t.pumps.get c = r.pump ∧ t.port = ControlPort.placeAll now (r.words.map (PumpWord.on c)) s.port ∧
    t.point (pumpPoint c) =
      (if r.pump.state = (s.pumps.get c).state then s.point (pumpPoint c) else ⟨r.pump.state.code, .valid, 0⟩) ∧
    pointsOnly [pumpPoint c] s t ∧ changesOnly [.now, .pump c, .port, .points] s t

theorem applyPump_moves (c : Channel) (r : PumpResult) (due : Nat) {s : State} (hlength : s.points.recs.length = 46) :
    Pump.Moves c s (max s.now due) r (applyPump c r (s.reach due)) :=
  ⟨rfl, (applyPump_pump c c r _).trans (if_pos rfl), rfl, applyPump_point (s := s.reach due) hlength,
    applyPump_pointsOnly c r (s.reach due),
    (reach_changesOnly due s).trans (applyPump_changesOnly c r _) (by simp) (by simp)⟩

/-- R134: a channel leaves START_WAIT dark, with no other timer running. -/
theorem startExpiry_eq {now : Nat} {b : Bool} {p : Pump} (hframed : p.Framed) (hstart : p.startAt ≠ none) :
    p.startExpiry now b =
      ⟨if b then { p with state := .reduced, startAt := none, probeAt := some (now + 1000000 * p.inUse.probeInterval) }
        else if p.target = 0 then { p with state := .run, startAt := none }
        else { p with state := .ramp, startAt := none, rampAt := some (now + 10000) },
        if b then [⟨.setpoint, 0, .safety⟩] else []⟩ := by
  have hs : p.state = .startWait := hframed.start.1 (Option.isSome_iff_ne_none.2 hstart)
  have hdark : p.current = 0 := hframed.dark (.inr (.inl hs))
  have hramp : p.rampAt = none := by
    simpa [hs] using hframed.ramp
  have hduration : p.durationAt = none := by
    simpa [hs] using hframed.duration
  obtain ⟨state, mode, current, target, inUse, startAt, rampAt, probeAt, durationAt, statusAt⟩ := p
  subst hdark hramp hduration
  cases b with
  | true => simp [Pump.startExpiry, Pump.reduce, seconds, Nat.mul_comm]
  | false =>
    by_cases ht : target = 0
    · simp [Pump.startExpiry, Pump.enterRamp, ht]
    · simp [Pump.startExpiry, Pump.enterRamp, ht, Ne.symm ht, millis]

/-- R138: the end of a probe. -/
theorem probeEnd_eq {now : Nat} {b : Bool} {p : Pump} (hframed : p.Framed) (hprobe : p.durationAt ≠ none) :
    p.probeEnd now b =
      ⟨if b then
          { p with
            state := .reduced, current := min p.inUse.safe p.current, durationAt := none,
            probeAt := some (now + 1000000 * p.inUse.probeInterval) }
        else { p with state := .run, durationAt := none },
        if b then [⟨.setpoint, min p.inUse.safe p.current, .safety⟩] else []⟩ := by
  have hs : p.state = .probe := hframed.duration.1 (Option.isSome_iff_ne_none.2 hprobe)
  have hstart : p.startAt = none := by
    simpa [hs] using hframed.start
  have hramp : p.rampAt = none := by
    simpa [hs] using hframed.ramp
  obtain ⟨state, mode, current, target, inUse, startAt, rampAt, probeAt, durationAt, statusAt⟩ := p
  subst hstart hramp
  cases b <;> simp [Pump.probeEnd, Pump.reduce, seconds, Nat.mul_comm]

/-- R135: one expiry of the ramp timer. -/
theorem rampStep_eq (due : Nat) (p : Pump) :
    let gap := if p.current ≤ p.target then p.target - p.current else p.current - p.target
    let step := if p.current < p.target then p.current + p.inUse.rampStep else p.current - p.inUse.rampStep
    p.rampStep due =
      ⟨if gap ≤ p.inUse.rampStep then { p with state := .run, current := p.target, rampAt := none }
        else { p with current := step, rampAt := some (due + 10000) },
        [⟨.setpoint, if gap ≤ p.inUse.rampStep then p.target else step, .pump⟩]⟩ := by
  intro gap step
  by_cases hgap : gap ≤ p.inUse.rampStep
  · rw [if_pos hgap, if_pos hgap]
    exact if_pos hgap
  · rw [if_neg hgap, if_neg hgap]
    exact if_neg hgap

end Sys2Proof.Machine

section

open Sys2Proof Sys2Proof.Machine

/-- Settles O47. -/
theorem pumpTargetsModesAndTriggers : Obligations.PumpTargetsModesAndTriggers := by
  refine ⟨fun g m level now p => ?_, fun p now level m => ?_⟩
  · dsimp only
    refine ⟨rfl, retarget_of_eq, fun hne hs => ?_, fun hne hs => ?_, fun hne hrun hprobe => ?_, settingsChange_eq now level g p⟩
    · rw [retarget_of_ne hne, follow_run (p := p.aim level) hs, enterRamp_run (p := p.aim level) hs]
      rfl
    · rw [retarget_of_ne hne, follow_probe (p := p.aim level) hs]
      rfl
    · rw [retarget_of_ne hne, follow_still (p := p.aim level) hrun hprobe]
      rfl
  · have hnot : ¬(p.state ≠ .off ∧ p.state ≠ .fault) → p.state = .off ∨ p.state = .fault := by
      tauto
    have hseconds (n : Nat) : seconds n = 1000000 * n := Nat.mul_comm _ _
    refine ⟨fun hoff => ?_, fun hon => ?_, fun hm hidle => ?_, fun hm hrunning => ?_, fun hs => ?_, fun hs => ?_,
      fun hrunning => ?_, fun hidle => ?_⟩
    · unfold Pump.modeRequest
      rw [hoff]
    · exact modeRequest_stop hon
    · exact modeRequest_start hm (hnot hidle)
    · exact modeRequest_running hm hrunning.1 hrunning.2
    · rw [appearance_reduce hs, Pump.reduce, hseconds]
    · exact appearance_still hs
    · exact driverFault_running hrunning.1 hrunning.2
    · exact driverFault_still (hnot hidle)

end

section

open Sys2Proof Sys2Proof.Machine

/-- Settles O48. -/
theorem pumpTimersMoveTheirChannel : Obligations.PumpTimersMoveTheirChannel := by
  intro c due s hpumps hlength
  have hframed : (s.pumps.get c).Framed := ((pumpsLawful_iff s).1 hpumps c).framed
  intro p now under lower gap step again goesTo
  have hgoes {i : Instr} {r : PumpResult} {q : Pump} {w : List PumpWord} (hr : r = ⟨q, w⟩)
      (h : exec i s = .next (applyPump c r (s.reach due))) : goesTo i q w := by
    subst hr
    exact ⟨_, h, applyPump_moves c ⟨q, w⟩ due hlength⟩
  refine ⟨fun ht => hgoes (startExpiry_eq hframed (by rw [ht]; simp)) ?_, fun ht => hgoes (rampStep_eq due p) ?_,
    fun ht => hgoes (r := p.probeExpiry now) ?_ ?_, fun ht => hgoes (probeEnd_eq hframed (by rw [ht]; simp)) ?_,
    fun ht => hgoes (r := p.statusRead due) rfl ?_⟩
  · show execStartTimerExpiry c s = _
    unfold execStartTimerExpiry State.pump
    rw [ht]
    rfl
  · show execRampTimerExpiry c s = _
    unfold execRampTimerExpiry State.pump
    rw [ht]
  · rw [Pump.probeExpiry, seconds, Nat.mul_comm]
  · show execProbeTimerExpiry c s = _
    unfold execProbeTimerExpiry State.pump
    rw [ht]
    rfl
  · show execProbeDurationExpiry c s = _
    unfold execProbeDurationExpiry State.pump
    rw [ht]
    rfl
  · show execStatusReadTimerExpiry c s = _
    unfold execStatusReadTimerExpiry State.pump
    rw [ht]

end

/-! PROOF. O50: a transfer's bits, its end and the next word. -/

namespace Sys2Proof.Machine

/-! The shift register (R143). -/

theorem shiftIn_bit (r : BitVec 16) (l : List Bool) {i : Nat} (hi : i < 16) :
    (shiftIn r l).getLsbD i = if i < l.length then l.getD (l.length - 1 - i) false else r.getLsbD (i - l.length) := by
  induction l using List.reverseRecOn generalizing i with
  | nil => rfl
  | append_singleton l b ih =>
    rw [shiftIn, List.foldl_append, List.foldl_cons, List.foldl_nil, shiftClock_bit, List.length_append, List.length_singleton]
    by_cases h0 : i = 0
    · subst h0
      simp
    · rw [if_neg h0, decide_eq_true hi, Bool.true_and]
      refine (ih (by omega)).trans ?_
      by_cases hin : i < l.length + 1
      · rw [if_pos hin, if_pos (by omega), show l.length + 1 - 1 - i = l.length - 1 - (i - 1) by omega]
        rw [List.getD_append _ _ _ _ (by omega)]
      · rw [if_neg hin, if_neg (by omega), show i - 1 - l.length = i - (l.length + 1) by omega]

/-- R143: after sixteen clocks the register holds the reply, its first bit the highest. -/
theorem shiftIn_reply (r : BitVec 16) (reply : Vector Bool 16) (i : Fin 16) : (shiftIn r reply.toList).getMsbD i = reply[i] := by
  have hlength : reply.toList.length = 16 := by simp
  rw [BitVec.getMsbD, decide_eq_true i.isLt, Bool.true_and, shiftIn_bit r _ (by omega), if_pos (by omega), hlength]
  rw [List.getD_eq_getElem?_getD, show 16 - 1 - (16 - 1 - i.val) = i.val by omega, List.getElem?_eq_getElem (by omega)]
  rfl

theorem clockSignals_getElem (r : BitVec 16) (l : List Bool) {k : Nat} (hk : k < l.length) :
    (clockSignals r l)[k]? = some (.clock (shiftIn r (l.take k)).msb l[k]) := by
  induction l generalizing r k with
  | nil => simp at hk
  | cons b l ih =>
    cases k with
    | zero => rfl
    | succ k => exact ih (shiftClock r b) (Nat.lt_of_succ_lt_succ hk)

/-- R143: the clocks of a transfer present the word, most significant bit first. -/
theorem clockSignals_eq (r : BitVec 16) (reply : Vector Bool 16) :
    clockSignals r reply.toList = List.ofFn fun i : Fin 16 => .clock (r.getMsbD i) reply[i] := by
  have hlength : reply.toList.length = 16 := by simp
  refine List.ext_getElem? fun k => ?_
  by_cases hk : k < 16
  · rw [clockSignals_getElem r _ (hlength.symm ▸ hk), BitVec.msb_eq_getLsbD_last, shiftIn_bit r _ (by omega)]
    have htake : (reply.toList.take k).length = k := by
      rw [List.length_take, hlength]
      omega
    rw [htake, if_neg (by omega), List.getElem?_ofFn, dif_pos hk, BitVec.getMsbD, decide_eq_true hk, Bool.true_and]
    rfl
  · rw [List.getElem?_eq_none (by rw [clockSignals_length]; omega), List.getElem?_eq_none (by simp; omega)]

/-! The next word (R145). -/

/-- R145: the oldest word of a class. -/
theorem takeClass_some {c : WordClass} {l r : List PortWord} {w : PortWord} (h : takeClass c l = some (w, r)) :
    ∃ l1 l2, l = l1 ++ w :: l2 ∧ r = l1 ++ l2 ∧ w.cls = c ∧ ∀ y ∈ l1, y.cls ≠ c := by
  induction l generalizing r with
  | nil => cases h
  | cons x l ih =>
    rw [takeClass] at h
    split_ifs at h with hx
    · cases h
      exact ⟨[], l, rfl, rfl, hx, by simp⟩
    · cases hrest : takeClass c l with
      | none => simp [hrest] at h
      | some q =>
        obtain ⟨y, q⟩ := q
        rw [hrest] at h
        cases h
        obtain ⟨l1, l2, rfl, rfl, hcls, hnone⟩ := ih hrest
        exact ⟨x :: l1, l2, rfl, rfl, hcls, List.forall_mem_cons.2 ⟨hx, hnone⟩⟩

/-- R145: the word chosen is the oldest of the highest class waiting. -/
theorem chooseWord_spec {l : List PortWord} (h : l ≠ []) :
    ∃ l1 w l2, l = l1 ++ w :: l2 ∧ (∀ y ∈ l1, w.cls.rank < y.cls.rank) ∧ (∀ y ∈ l2, w.cls.rank ≤ y.cls.rank) ∧
      chooseWord l = some (w, l1 ++ l2) := by
  have hof {c : WordClass} {w : PortWord} {r : List PortWord} (htake : takeClass c l = some (w, r))
      (hhigher : ∀ y ∈ l, c.rank ≤ y.cls.rank) (hchoose : chooseWord l = some (w, r)) :
      ∃ l1 w l2, l = l1 ++ w :: l2 ∧ (∀ y ∈ l1, w.cls.rank < y.cls.rank) ∧ (∀ y ∈ l2, w.cls.rank ≤ y.cls.rank) ∧
        chooseWord l = some (w, l1 ++ l2) := by
    obtain ⟨l1, l2, rfl, rfl, rfl, hnone⟩ := takeClass_some htake
    have hrank (a b : WordClass) (hle : a.rank ≤ b.rank) (hne : b ≠ a) : a.rank < b.rank := by
      cases a <;> cases b <;> simp_all [WordClass.rank]
    exact ⟨l1, w, l2, rfl, fun y hy => hrank _ _ (hhigher y (by simp [hy])) (hnone y hy), fun y hy => hhigher y (by simp [hy]), hchoose⟩
  have habsent {c : WordClass} (hnone : takeClass c l = none) : ∀ y ∈ l, y.cls ≠ c := Machine.takeClass_none c l hnone
  cases hsafety : takeClass .safety l with
  | some q => exact hof hsafety (fun y _ => Nat.zero_le _) (by rw [chooseWord, hsafety])
  | none =>
    have hpump' : ∀ y ∈ l, WordClass.rank .pump ≤ y.cls.rank := fun y hy => by
      have := habsent hsafety y hy
      cases hcls : y.cls <;> simp_all [WordClass.rank]
    cases hpump : takeClass .pump l with
    | some q => exact hof hpump hpump' (by rw [chooseWord, hsafety, hpump])
    | none =>
      have hcharger' : ∀ y ∈ l, WordClass.rank .charger ≤ y.cls.rank := fun y hy => by
        have := habsent hsafety y hy
        have := habsent hpump y hy
        cases hcls : y.cls <;> simp_all [WordClass.rank]
      cases hcharger : takeClass .charger l with
      | some q => exact hof hcharger hcharger' (by rw [chooseWord, hsafety, hpump, hcharger])
      | none => exact absurd (chooseWord_none l (by rw [chooseWord, hsafety, hpump, hcharger])) h

/-- R145: words placed while a transfer is in flight wait. -/
theorem placeAll_busy {p : ControlPort} {x : Transfer} (t : Nat) (l : List PortWord) (h : p.transfer = some x) :
    p.placeAll t l = { p with words := l.foldl (fun l w => joinWord w l) p.words } := by
  induction l generalizing p with
  | nil => rfl
  | cons w l ih =>
    have hplace : p.place t w = { p with words := joinWord w p.words } := by
      unfold ControlPort.place ControlPort.arbitrate
      rw [h]
    rw [ControlPort.placeAll, hplace]
    exact ih h

/-- What the arbiter makes of a free port with these words waiting. -/
def Sends (now : Nat) (did : List PortSignal) (waiting : List PortWord) (q : ControlPort) : Prop :=
  (waiting = [] → q = ⟨[], none, did⟩ ∧ q.selected = none) ∧
    (waiting ≠ [] → ∃ l1 w l2, waiting = l1 ++ w :: l2 ∧ (∀ y ∈ l1, w.cls.rank < y.cls.rank) ∧
      (∀ y ∈ l2, w.cls.rank ≤ y.cls.rank) ∧ q = ⟨l1 ++ l2, some ⟨w.device, w.bits, now + 16⟩, did⟩ ∧
      q.selected = some w.device)

theorem arbitrate_sends (now : Nat) (did : List PortSignal) (waiting : List PortWord) :
    Sends now did waiting (ControlPort.arbitrate now ⟨waiting, none, did⟩) := by
  refine ⟨fun h => ?_, fun h => ?_⟩
  · subst h
    exact ⟨rfl, rfl⟩
  obtain ⟨l1, w, l2, hl, h1, h2, hchoose⟩ := chooseWord_spec h
  have hq : ControlPort.arbitrate now ⟨waiting, none, did⟩ = ⟨l1 ++ l2, some ⟨w.device, w.bits, now + 16⟩, did⟩ := by
    unfold ControlPort.arbitrate
    dsimp only
    rw [hchoose]
  exact ⟨l1, w, l2, hl, h1, h2, hq, hq ▸ rfl⟩

/-! The reply (R141, R152). -/

theorem exec_transferComplete {x : Transfer} (reply : Vector Bool 16) {s : State} (hx : s.port.transfer = some x) :
    exec (.transferComplete reply) s =
      .next (endTransfer (x.signals reply.toList)
        (takeReply x.device (shiftIn x.word reply.toList) (s.reach x.doneAt))) := by
  show execTransferComplete reply s = _
  unfold execTransferComplete
  rw [hx]

theorem shiftIn_msb (r : BitVec 16) (reply : Vector Bool 16) : (shiftIn r reply.toList).msb = reply[0] := by
  exact shiftIn_reply r reply 0

theorem takeReply_quiet {d : Device} {reply : BitVec 16} (s : State) (h : reply.msb = false) : takeReply d reply s = s := by
  unfold takeReply
  rw [if_neg (by simp [h])]

theorem takeReply_driver {c : Channel} {reply : BitVec 16} (s : State) (h : reply.msb = true) :
    takeReply (driver c) reply s = applyPump c (s.pumps.get c).driverFault s := by
  unfold takeReply
  rw [if_pos h]
  cases c <;> rfl

theorem takeReply_charger {reply : BitVec 16} (s : State) (h : reply.msb = true) :
    takeReply .charger reply s = takeSupply s.supply.chargerFault [] s := by
  unfold takeReply
  rw [if_pos h]

theorem endTransfer_changesOnly (did : List PortSignal) (s : State) : changesOnly [.port] s (endTransfer did s) := by
  intro p hp
  cases p <;> simp_all [Part.same, endTransfer]

/-- R152: the stages a charger fault ends. -/
theorem chargerFault_eq (u : Supply) :
    u.chargerFault =
      if u.stage = .bulk ∨ u.stage = .absorb ∨ u.stage = .float ∨ u.stage = .halted then { u with stage := .fault } else u := by
  unfold Supply.chargerFault
  cases u.stage <;> rfl

theorem chargeWords_fault (u : Supply) :
    chargeWords u u.chargerFault = if u.stage.enabled then [⟨.charger, .chargeEnable, 0, .charger⟩] else [] := by
  have hstage : u.chargerFault.stage.enabled = false := by
    unfold Supply.chargerFault
    cases hs : u.stage with
    | off | fault => rw [hs]; rfl
    | bulk | absorb | float | halted => rfl
  unfold chargeWords
  rw [if_neg (by simp [hstage])]
  rfl

/-- R152: a charger fault taken leaves every other part of the supply. -/
theorem takeSupply_chargerFault {s : State} (hload : s.outputs.testLoad = (s.supply.pv == .testing))
    (hlevel : s.shedLevel = s.supply.level) :
    takeSupply s.supply.chargerFault [] s =
      { s with
        supply := s.supply.chargerFault,
        port := s.port.placeAll s.now (if s.supply.stage.enabled then [⟨.charger, .chargeEnable, 0, .charger⟩] else []) } := by
  have hfields : s.supply.chargerFault.level = s.supply.level ∧ s.supply.chargerFault.voltageLevel = s.supply.voltageLevel ∧
      s.supply.chargerFault.zoneLevel = s.supply.zoneLevel ∧ s.supply.chargerFault.brownHold = s.supply.brownHold ∧
      s.supply.chargerFault.pv = s.supply.pv ∧ s.supply.chargerFault.zone = s.supply.zone := by
    rw [chargerFault_eq]
    split_ifs <;> exact ⟨rfl, rfl, rfl, rfl, rfl, rfl⟩
  obtain ⟨h1, h2, h3, h4, hpv, hzone⟩ := hfields
  rw [takeSupply_of_sources [] hlevel h1 h2 h3 h4, applySupply_quiet [] hload hpv hzone, List.append_nil, chargeWords_fault]

end Sys2Proof.Machine

section

open Sys2Proof Sys2Proof.Machine

/-- Settles O50. -/
theorem transfersEndAndTheNextWordGoes : Obligations.TransfersEndAndTheNextWordGoes := by
  intro x reply s hx hport hsupply hshed now fault did bits sends
  have hdid : x.signals reply.toList = did := by
    rw [Transfer.signals, clockSignals_eq]
  have hmsb : (shiftIn x.word reply.toList).msb = fault := shiftIn_msb x.word reply
  have hexec := exec_transferComplete reply hx
  rw [hdid] at hexec
  have hsends {waiting : List PortWord} {u : State} (hnow : u.now = now) (hwords : u.port.words = waiting) :
      sends waiting (endTransfer did u) := by
    have h : Sends now did waiting (ControlPort.arbitrate u.now ⟨u.port.words, none, did⟩) := by
      rw [hnow, hwords]
      exact arbitrate_sends now did waiting
    exact h
  have hreach := reach_changesOnly x.doneAt s
  refine ⟨?_, shiftIn_reply x.word reply, fun hfault => ?_, fun c hfault hdevice => ?_, fun hfault hdevice => ?_⟩
  · rw [ControlPort.selected, hx]
    rfl
  · rw [takeReply_quiet _ (hmsb.trans hfault)] at hexec
    exact ⟨_, hexec, rfl, hsends rfl rfl, hreach.trans (endTransfer_changesOnly did _) (by simp) (by simp)⟩
  · rw [hdevice, takeReply_driver _ (hmsb.trans hfault)] at hexec
    let r := (s.pumps.get c).driverFault
    let u := applyPump c r (s.reach x.doneAt)
    have hwords : u.port.words = (r.words.map (PumpWord.on c)).foldl (fun l w => joinWord w l) s.port.words :=
      congrArg ControlPort.words (placeAll_busy now _ hx)
    refine ⟨_, hexec, rfl, ?_, hsends (u := u) rfl hwords, ?_, applyPump_pointsOnly c r (s.reach x.doneAt)⟩
    · exact (applyPump_pump c c r (s.reach x.doneAt)).trans (if_pos rfl)
    · exact (hreach.trans (applyPump_changesOnly c r _) (m := [.now, .port, .pump c, .points]) (by simp) (by simp)).trans
        (endTransfer_changesOnly did u) (by simp) (by simp)
  · rw [hdevice, takeReply_charger _ (hmsb.trans hfault)] at hexec
    have hload := ((supplyLawful_iff s).1 hsupply).1
    have hlevel : s.shedLevel = s.supply.level := hshed.1.symm
    rw [takeSupply_chargerFault (s := s.reach x.doneAt) hload hlevel] at hexec
    refine ⟨_, hexec, rfl, chargerFault_eq _, hsends rfl ?_, ?_⟩
    · have hplace := fun l => congrArg ControlPort.words (placeAll_busy (p := s.port) now l hx)
      refine (hplace _).trans ?_
      show List.foldl _ s.port.words (if s.supply.stage.enabled then _ else _) = _
      split_ifs <;> rfl
    · intro p hp
      cases p <;> simp_all [Part.same, endTransfer]

end

/-! PROOF. O52: the PV timers. -/

namespace Sys2Proof.Machine

/-! An event of the Supply Manager taken (R155). -/

/-- The points an event of the Supply Manager writes, by the zone and the PV state it leaves. -/
theorem takeSupply_points {v : Supply} {s : State} (extra : List PortWord) (hlength : s.points.recs.length = 46) :
    (takeSupply v extra s).point 38 = (if v.zone = s.supply.zone then s.point 38 else ⟨v.zone.code, .valid, 0⟩) ∧
      (takeSupply v extra s).point 40 = (if v.pv = s.supply.pv then s.point 40 else ⟨v.pv.code, .valid, 0⟩) := by
  have hkept (j : Nat) (hj : j ∉ [39, 41, 42]) : (takeSupply v extra s).point j = (applySupply v extra s).point j :=
    recomputeShed_pointsOnly _ j hj
  rw [hkept 38 (by simp), hkept 40 (by simp)]
  unfold applySupply State.point
  by_cases hzone : v.zone = s.supply.zone <;> by_cases hpv : v.pv = s.supply.pv <;>
    simp [hzone, hpv, PointTable.write, List.getD_eq_getElem?_getD, hlength]

/-- Unless the level changes, an event of the Supply Manager places the charger's words and its own. -/
theorem takeSupply_port {v : Supply} {s : State} (extra : List PortWord) (hv : v.level = s.supply.level)
    (hlevel : (takeSupply v extra s).supply.level = s.supply.level) :
    (takeSupply v extra s).port = s.port.placeAll s.now (chargeWords s.supply v ++ extra) := by
  have hshed : (applySupply v extra s).shedLevel = (applySupply v extra s).supply.level := by
    rw [takeSupply_supply] at hlevel
    exact hlevel.trans hv.symm
  rw [show takeSupply v extra s = applySupply v extra s from recomputeShed_of_eq hshed]
  rfl

theorem takeSupply_level (v : Supply) (extra : List PortWord) (s : State) :
    (takeSupply v extra s).supply = { v with level := (takeSupply v extra s).shedLevel } := by
  have hsupply := takeSupply_supply v extra s
  have hengine : (takeSupply v extra s).engine = s.engine := takeSupply_changesOnly v extra s .engine (by simp)
  have hagent : (takeSupply v extra s).agent = s.agent := takeSupply_changesOnly v extra s .agent (by simp)
  have hlevel : (takeSupply v extra s).shedLevel = (applySupply v extra s).shedLevel :=
    shedLevel_congr (by rw [hagent]; rfl) (by rw [hsupply]; rfl) (by rw [hsupply]; rfl) (by rw [hengine]; rfl) (by rw [hsupply]; rfl)
  rw [hlevel]
  exact hsupply

theorem applySupply_point {v : Supply} {s : State} (extra : List PortWord) {j : Nat} (h40 : j ≠ 40)
    (h38 : j ≠ 38 ∨ v.zone = s.supply.zone) : (applySupply v extra s).point j = s.point j := by
  unfold applySupply State.point
  by_cases hzone : v.zone = s.supply.zone
  · by_cases hpv : v.pv = s.supply.pv <;> simp [hzone, hpv, PointTable.write, List.getD_eq_getElem?_getD, Ne.symm h40]
  · have h38' : 38 ≠ j := (h38.resolve_right hzone).symm
    by_cases hpv : v.pv = s.supply.pv <;>
      simp [hzone, hpv, PointTable.write, List.getD_eq_getElem?_getD, Ne.symm h40, h38']

theorem takeSupply_pointsOnly (v : Supply) (extra : List PortWord) (s : State) :
    pointsOnly [38, 39, 40, 41, 42] s (takeSupply v extra s) := by
  have happly : pointsOnly [38, 40] s (applySupply v extra s) := fun j hj => by
    simp only [List.mem_cons, List.not_mem_nil, or_false, not_or] at hj
    exact applySupply_point extra hj.2 (.inl hj.1)
  exact happly.trans (recomputeShed_pointsOnly _) (by simp) (by simp)

/-- An event of the Supply Manager that keeps the zone writes no point 38. -/
theorem takeSupply_pointsOnly_of_zone {v : Supply} {s : State} (extra : List PortWord) (hzone : v.zone = s.supply.zone) :
    pointsOnly [39, 40, 41, 42] s (takeSupply v extra s) := by
  have happly : pointsOnly [40] s (applySupply v extra s) := fun j hj =>
    applySupply_point extra (by simpa using hj) (.inr hzone)
  exact happly.trans (recomputeShed_pointsOnly _) (by simp) (by simp)

/-! The PV timers (R148, R149). -/

theorem exec_settleTimer {due : Nat} {s : State} (ht : s.supply.settleAt = some due) :
    exec .settleTimerExpiry s =
      .next (takeSupply (s.supply.settleExpiry (max s.now due) (s.point 10)) [] (s.reach due)) := by
  show execSettleTimerExpiry s = _
  unfold execSettleTimerExpiry
  rw [ht]
  rfl

theorem exec_testTimer {due : Nat} {s : State} (ht : s.supply.testAt = some due) :
    exec .testTimerExpiry s =
      .next (takeSupply (s.supply.testExpiry (max s.now due) (s.point 10)) [] (s.reach due)) := by
  show execTestTimerExpiry s = _
  unfold execTestTimerExpiry
  rw [ht]
  rfl

theorem exec_retryTimer {due : Nat} {s : State} (ht : s.supply.retryAt = some due) :
    exec .retryTimerExpiry s = .next (takeSupply (s.supply.toSettling (max s.now due)) [] (s.reach due)) := by
  show execRetryTimerExpiry s = _
  unfold execRetryTimerExpiry
  rw [ht]
  rfl

theorem pv_of_settle {u : Supply} (h : u.PvTimers) {due : Nat} (ht : u.settleAt = some due) : u.pv = .settling := by
  have hsome := h.settle
  rw [ht] at hsome
  exact beq_iff_eq.1 hsome.symm

theorem pv_of_test {u : Supply} (h : u.PvTimers) {due : Nat} (ht : u.testAt = some due) : u.pv = .testing := by
  have hsome := h.test
  rw [ht] at hsome
  exact beq_iff_eq.1 hsome.symm

theorem pv_of_retry {u : Supply} (h : u.PvTimers) {due : Nat} (ht : u.retryAt = some due) : u.pv = .retryWait := by
  have hsome := h.retry
  rw [ht] at hsome
  exact beq_iff_eq.1 hsome.symm

theorem settleExpiry_invalid {now : Nat} {p : Point} {u : Supply} (h : p.validity = .invalid) :
    u.settleExpiry now p = u.toSettling now :=
  if_pos (by simp [Point.usable, h])

theorem settleExpiry_dark {now : Nat} {p : Point} {u : Supply} (h : p.validity ≠ .invalid) (hdark : p.value < u.inUse.presence) :
    u.settleExpiry now p = u.toAbsent :=
  (if_neg (by simp [Point.usable, h])).trans (if_pos hdark)

theorem settleExpiry_lit {now : Nat} {p : Point} {u : Supply} (h : p.validity ≠ .invalid) (hlit : u.inUse.presence ≤ p.value) :
    u.settleExpiry now p = { u.stopTimers with pv := .testing, voc := p.value, testAt := some (now + 100000) } :=
  (if_neg (by simp [Point.usable, h])).trans (if_neg (Int.not_lt.2 hlit))

theorem testExpiry_invalid {now : Nat} {p : Point} {u : Supply} (h : p.validity = .invalid) :
    u.testExpiry now p = u.toSettling now :=
  if_pos (by simp [Point.usable, h])

theorem testExpiry_passed {now : Nat} {p : Point} {u : Supply} (h : p.validity ≠ .invalid) (hfloor : u.inUse.floor ≤ p.value) :
    u.testExpiry now p = u.toQualified :=
  (if_neg (by simp [Point.usable, h])).trans (if_pos hfloor)

/-- R150, R152: a charge that starts with the array QUALIFIED. -/
theorem toQualified_eq {u : Supply} (henters : u.stage = .off ∨ u.stage = .fault) :
    u.toQualified =
      { u with
        settleAt := none, testAt := none, retryAt := none, pv := .qualified, failures := 0,
        hold := max u.inUse.floor (u.voc * 80 / 100), limit := 1000 * (u.inUse.arrayCode + 1), derated := false, noSag := 0,
        stage := if u.zone.extreme = true then .halted else .bulk,
        stageTime := if u.zone.extreme = true then u.stageTime else 0 } := by
  unfold Supply.toQualified
  rw [if_pos henters]
  cases u.zone.extreme <;> rfl

/-- R153: the charge current outside COLD and HOT. -/
theorem chargeCurrent_of_mild {u : Supply} (h : ¬(u.zone = .cold ∨ u.zone = .hot)) :
    u.chargeCurrent = if u.zone = .normal then u.limit else u.limit / 2 := by
  unfold Supply.chargeCurrent
  cases hz : u.zone <;> simp_all

theorem testExpiry_failed {now : Nat} {p : Point} {u : Supply} (h : p.validity ≠ .invalid) (hfloor : p.value < u.inUse.floor) :
    u.testExpiry now p =
      if u.failures + 1 < 5 then { u.stopTimers with pv := .retryWait, failures := u.failures + 1, retryAt := some (now + 4000000) }
      else { u.stopTimers with pv := .lockedOut, failures := u.failures + 1 } :=
  (if_neg (by simp [Point.usable, h])).trans (if_neg (Int.not_le.2 hfloor))

end Sys2Proof.Machine

section

open Sys2Proof Sys2Proof.Machine

/-- Settles O52. -/
theorem pvTimersQualifyTheArray : Obligations.PvTimersQualifyTheArray := by
  intro due s hsupply hlength
  obtain ⟨-, hlawful⟩ := (supplyLawful_iff s).1 hsupply
  intro u g p now bad calm settling rating enters extreme charges current goesTo
  have hseconds (n : Nat) : seconds n = 1000000 * n := Nat.mul_comm _ _
  have hextreme : u.zone.extreme = true ↔ extreme := by
    cases hz : u.zone <;> simp [extreme, hz, Zone.extreme]
  -- while a PV timer runs the array is not QUALIFIED, so the charger is not enabled
  have hdisabled (hpv : u.pv ≠ .qualified) : u.stage.enabled = false := by
    rcases hlawful.byPv.off_or_fault hpv with h | h <;> rw [h] <;> rfl
  have hgoes {i : Instr} {v : Supply} (hexec : exec i s = .next (takeSupply v [] (s.reach due))) (hlevel : v.level = u.level)
      (hzone : v.zone = u.zone)
      (hwords : chargeWords u v =
        if v.pv = .qualified ∧ charges then
          [⟨.charger, .currentLimit, current / 10, .charger⟩,
            ⟨.charger, .voltageTarget, (g.absorbVoltage / 2).toNat, .charger⟩, ⟨.charger, .chargeEnable, 1, .charger⟩]
        else []) : goesTo i v := by
    refine ⟨_, hexec, takeSupply_changesOnly v [] (s.reach due) .now (by simp), takeSupply_level v [] _, fun h => ?_,
      (takeSupply_points (s := s.reach due) [] hlength).2, ?_, ?_, takeSupply_pointsOnly_of_zone (s := s.reach due) [] hzone⟩
    · rw [takeSupply_port (s := s.reach due) [] hlevel h, List.append_nil, ← hwords]
      rfl
    · exact (recomputeShed_testLoad _).trans (beq_eq_decide ..)
    · exact (reach_changesOnly due s).trans (takeSupply_changesOnly v [] _) (by simp) (by simp)
  -- an event that leaves the stage places no word
  have hquiet {i : Instr} {v : Supply} (hexec : exec i s = .next (takeSupply v [] (s.reach due))) (hlevel : v.level = u.level)
      (hzone : v.zone = u.zone) (hupv : u.pv ≠ .qualified) (hvpv : v.pv ≠ .qualified) (hstage : v.stage = u.stage) : goesTo i v := by
    refine hgoes hexec hlevel hzone ?_
    rw [if_neg fun h => hvpv h.1]
    exact chargeWords_disabled (hdisabled hupv) (hstage ▸ hdisabled hupv)
  have hnotSettling (ht : u.settleAt = some due) : u.pv ≠ .qualified := by
    rw [pv_of_settle hlawful.timers ht]
    simp
  have hnotTesting (ht : u.testAt = some due) : u.pv ≠ .qualified := by
    rw [pv_of_test hlawful.timers ht]
    simp
  refine ⟨fun ht hbad => ?_, fun ht hgood hdark => ?_, fun ht hgood hlit => ?_, fun ht hbad => ?_, fun ht hgood hfloor => ?_,
    fun ht hgood hfloor hmore => ?_, fun ht hgood hfloor hlast => ?_, fun ht => ?_⟩
  · refine hquiet ((exec_settleTimer ht).trans ?_) rfl rfl (hnotSettling ht) (by simp [settling]) rfl
    rw [settleExpiry_invalid hbad]
    rfl
  · refine hquiet ((exec_settleTimer ht).trans ?_) rfl rfl (hnotSettling ht) (by simp) rfl
    rw [settleExpiry_dark hgood hdark, Supply.toAbsent, if_neg fun h => hnotSettling ht h.1]
    rfl
  · refine hquiet ((exec_settleTimer ht).trans ?_) rfl rfl (hnotSettling ht) (by simp) rfl
    rw [settleExpiry_lit hgood hlit]
    rfl
  · refine hquiet ((exec_testTimer ht).trans ?_) rfl rfl (hnotTesting ht) (by simp [settling]) rfl
    rw [testExpiry_invalid hbad]
    rfl
  · have henters : enters := hlawful.byPv.off_or_fault (hnotTesting ht)
    have hexec := exec_testTimer ht
    rw [testExpiry_passed hgood hfloor, toQualified_eq henters] at hexec
    refine hgoes ?_ rfl rfl ?_
    · refine hexec.trans (congrArg (fun v => Host.Outcome.next (takeSupply v [] (s.reach due))) ?_)
      by_cases hx : extreme
      · rw [if_pos (hextreme.2 hx), if_pos (hextreme.2 hx), if_pos henters, if_pos hx, if_neg fun h => h.2 hx]
      · rw [if_neg (mt hextreme.1 hx), if_neg (mt hextreme.1 hx), if_pos henters, if_neg hx, if_pos ⟨henters, hx⟩]
    · by_cases hx : extreme
      · refine Eq.trans (chargeWords_disabled (hdisabled (hnotTesting ht)) ?_) (if_neg ?_).symm
        · show Stage.enabled (if enters then (if extreme then .halted else .bulk) else u.stage) = false
          rw [if_pos henters, if_pos hx]
          rfl
        · exact fun h => h.2.2 hx
      · refine Eq.trans (chargeWords_bulk (hdisabled (hnotTesting ht)) ?_) (Eq.trans ?_ (if_pos ?_).symm)
        · show (if enters then (if extreme then .halted else .bulk) else u.stage) = Stage.bulk
          rw [if_pos henters, if_neg hx]
        · have hcurrent {w : Supply} (hzone : w.zone = u.zone) (hlimit : w.limit = rating) : w.chargeCurrent = current :=
            (chargeCurrent_of_mild (by rw [hzone]; exact hx)).trans (by rw [hzone, hlimit])
          unfold bulkWords
          rw [hcurrent]
          · rfl
          · rfl
        · exact ⟨rfl, henters, hx⟩
  · refine hquiet ((exec_testTimer ht).trans ?_) rfl rfl (hnotTesting ht) (by simp) rfl
    rw [testExpiry_failed hgood hfloor, if_pos hmore]
    rfl
  · refine hquiet ((exec_testTimer ht).trans ?_) rfl rfl (hnotTesting ht) (by simp) rfl
    rw [testExpiry_failed hgood hfloor, if_neg (by omega), hlast]
    rfl
  · refine hquiet ((exec_retryTimer ht).trans ?_) rfl rfl ?_ (by simp [settling]) rfl
    · rfl
    · rw [pv_of_retry hlawful.timers ht]
      simp

end

/-! PROOF. O51: a supply check through its steps. -/

namespace Sys2Proof.Machine

/-! The array (R148, R150). -/

/-- R148: an array below presence. -/
def Supply.Dark (p10 : Point) (u : Supply) : Prop := p10.validity ≠ .invalid ∧ p10.value < u.inUse.presence

theorem pvStep_of_invalid {t : Nat} {p10 : Point} {u : Supply} (h : p10.validity = .invalid) : u.pvStep t p10 = u :=
  if_pos (by simp [Point.usable, h])

theorem pvStep_of_dark {t : Nat} {p10 : Point} {u : Supply} (hlawful : u.Lawful) (h : u.Dark p10) :
    u.pvStep t p10 =
      { u with
        pv := .absent, failures := 0, settleAt := none, testAt := none, retryAt := none,
        stage := if u.stage = .fault then .fault else .off } := by
  have hstep : u.pvStep t p10 = if u.pv = .absent then u else u.toAbsent :=
    (if_neg (by simp [Point.usable, h.1])).trans (if_pos h.2)
  obtain ⟨hsettle, htest, hretry, -, -, hfailures⟩ := hlawful.timers
  have hoff := hlawful.byPv.off_or_fault
  rw [hstep]
  obtain ⟨inUse, checkAt, pv, failures, voc, settleAt, testAt, retryAt, hold, limit, derated, noSag, zone, stage, stageTime,
    voltageLevel, zoneLevel, brownHold, level, handed⟩ := u
  dsimp only at *
  by_cases hpv : pv = .absent
  · subst hpv
    have hstage : stage = if stage = .fault then .fault else .off := by
      rcases hoff (by simp) with rfl | rfl <;> rfl
    obtain rfl := hfailures rfl
    obtain rfl : settleAt = none := Option.isSome_eq_false_iff.1 hsettle |> Option.isNone_iff_eq_none.1
    obtain rfl : testAt = none := Option.isSome_eq_false_iff.1 htest |> Option.isNone_iff_eq_none.1
    obtain rfl : retryAt = none := Option.isSome_eq_false_iff.1 hretry |> Option.isNone_iff_eq_none.1
    rw [if_pos rfl, ← hstage]
  · rw [if_neg hpv]
    have hstage : (if pv = .qualified ∧ stage ≠ .fault then .off else stage) = if stage = .fault then Stage.fault else .off := by
      by_cases hq : pv = .qualified
      · by_cases hf : stage = .fault <;> simp [hq, hf]
      · rcases hoff hq with rfl | rfl <;> simp
    unfold Supply.toAbsent Supply.stopTimers
    dsimp only
    rw [hstage]

theorem pvStep_of_lit {t : Nat} {p10 : Point} {u : Supply} (hok : p10.validity ≠ .invalid) (hlit : u.inUse.presence ≤ p10.value) :
    u.pvStep t p10 = if u.pv = .absent then u.toSettling t else if u.pv = .qualified then u.limitStep p10.value else u := by
  unfold Supply.pvStep
  rw [if_neg (by simp [Point.usable, hok]), if_neg (Int.not_lt.2 hlit)]
  cases u.pv <;> rfl

theorem lit_of_not_dark {p10 : Point} {u : Supply} (h : ¬u.Dark p10) (hok : p10.validity ≠ .invalid) :
    u.inUse.presence ≤ p10.value := Int.not_lt.1 fun hlt => h ⟨hok, hlt⟩

/-- R150: a limit step leaves all but the limit, derated and the no-sag count. -/
theorem limitStep_eq (x : Int) (u : Supply) :
    u.limitStep x =
      { u with limit := (u.limitStep x).limit, derated := (u.limitStep x).derated, noSag := (u.limitStep x).noSag } := by
  unfold Supply.limitStep
  dsimp only
  split_ifs <;> rfl

theorem pvStep_rest (t : Nat) (p10 : Point) (u : Supply) :
    (u.pvStep t p10).inUse = u.inUse ∧ (u.pvStep t p10).checkAt = u.checkAt ∧ (u.pvStep t p10).hold = u.hold ∧
      (u.pvStep t p10).zone = u.zone ∧ (u.pvStep t p10).zoneLevel = u.zoneLevel ∧ (u.pvStep t p10).stageTime = u.stageTime ∧
      (u.pvStep t p10).voltageLevel = u.voltageLevel ∧ (u.pvStep t p10).brownHold = u.brownHold ∧
      (u.pvStep t p10).level = u.level := by
  unfold Supply.pvStep
  split_ifs
  · simp
  · simp
  · exact ⟨rfl, rfl, rfl, rfl, rfl, rfl, rfl, rfl, rfl⟩
  · split
    · exact ⟨rfl, rfl, rfl, rfl, rfl, rfl, rfl, rfl, rfl⟩
    · rw [limitStep_eq]
      simp
    all_goals simp

/-- R148: an array not below presence keeps its state but leaves ABSENT. -/
theorem pvStep_of_not_dark {t : Nat} {p10 : Point} {u : Supply} (h : ¬u.Dark p10) :
    (u.pvStep t p10).stage = u.stage ∧
      (u.pv ≠ .absent ∨ p10.validity = .invalid →
        (u.pvStep t p10).pv = u.pv ∧ (u.pvStep t p10).failures = u.failures ∧ (u.pvStep t p10).settleAt = u.settleAt ∧
          (u.pvStep t p10).testAt = u.testAt ∧ (u.pvStep t p10).retryAt = u.retryAt) := by
  by_cases hok : p10.validity = .invalid
  · rw [pvStep_of_invalid hok]
    exact ⟨rfl, fun _ => ⟨rfl, rfl, rfl, rfl, rfl⟩⟩
  · rw [pvStep_of_lit hok (lit_of_not_dark h hok)]
    by_cases habsent : u.pv = .absent
    · rw [if_pos habsent]
      exact ⟨rfl, fun hor => absurd habsent (hor.resolve_right hok)⟩
    · rw [if_neg habsent]
      split_ifs
      · rw [limitStep_eq]
        exact ⟨rfl, fun _ => ⟨rfl, rfl, rfl, rfl, rfl⟩⟩
      · exact ⟨rfl, fun _ => ⟨rfl, rfl, rfl, rfl, rfl⟩⟩

/-- R150: the limit moves at a check of a QUALIFIED array alone. -/
theorem pvStep_limit_kept {t : Nat} {p10 : Point} {u : Supply} (hlawful : u.Lawful)
    (h : ¬(u.pv = .qualified ∧ p10.validity ≠ .invalid ∧ u.inUse.presence ≤ p10.value)) :
    (u.pvStep t p10).limit = u.limit ∧ (u.pvStep t p10).derated = u.derated ∧ (u.pvStep t p10).noSag = u.noSag := by
  by_cases hdark : u.Dark p10
  · rw [pvStep_of_dark hlawful hdark]
    exact ⟨rfl, rfl, rfl⟩
  · by_cases hok : p10.validity = .invalid
    · rw [pvStep_of_invalid hok]
      exact ⟨rfl, rfl, rfl⟩
    · have hlit := lit_of_not_dark hdark hok
      rw [pvStep_of_lit hok hlit]
      split_ifs with habsent hq
      · exact ⟨rfl, rfl, rfl⟩
      · exact absurd ⟨hq, hok, hlit⟩ h
      · exact ⟨rfl, rfl, rfl⟩

theorem pvStep_limitStep {t : Nat} {p10 : Point} {u : Supply} (hq : u.pv = .qualified) (hok : p10.validity ≠ .invalid)
    (hlit : u.inUse.presence ≤ p10.value) : u.pvStep t p10 = u.limitStep p10.value := by
  rw [pvStep_of_lit hok hlit, if_neg (by simp [hq]), if_pos hq]

theorem limitStep_sag {x : Int} {u : Supply} (h : x < u.hold) :
    u.limitStep x = { u with limit := max 200 (u.limit - 100), derated := true, noSag := 0 } := if_pos h

theorem limitStep_count {x : Int} {u : Supply} (h : u.hold ≤ x) (hcount : u.noSag + 1 < 60) :
    u.limitStep x = { u with noSag := u.noSag + 1 } := (if_neg (Int.not_lt.2 h)).trans (if_pos hcount)

theorem limitStep_rise {x : Int} {u : Supply} (h : u.hold ≤ x) (hcount : ¬u.noSag + 1 < 60) :
    u.limitStep x =
      { u with
        noSag := 0, limit := min (arrayRating u.inUse.arrayCode) (u.limit + 100),
        derated := if min (arrayRating u.inUse.arrayCode) (u.limit + 100) = arrayRating u.inUse.arrayCode then false else u.derated } :=
  (if_neg (Int.not_lt.2 h)).trans (if_neg hcount)

/-! The zone (R151). -/

/-- R151: the zone a check leaves. -/
def Supply.zoneAfter (p12 : Point) (u : Supply) : Zone := if p12.validity = .invalid then u.zone else zoneOf u.inUse u.zone p12.value

theorem zoneStep_eq {p12 : Point} {u : Supply} (h : u.zoneLevel = zoneLevelOf u.inUse u.zone) :
    u.zoneStep p12 = { u with zone := u.zoneAfter p12, zoneLevel := zoneLevelOf u.inUse (u.zoneAfter p12) } := by
  unfold Supply.zoneStep Supply.zoneAfter
  by_cases hok : p12.validity = .invalid
  · rw [if_neg (by simp [Point.usable, hok]), if_pos hok, ← h]
  · rw [if_pos (by simp [Point.usable, hok]), if_neg hok]
    by_cases hsame : zoneOf u.inUse u.zone p12.value = u.zone
    · rw [hsame, ← h]
      exact if_pos rfl
    · exact if_neg hsame

theorem shedStep_eq (p8 : Point) (u : Supply) :
    u.shedStep p8 =
      { u with
        voltageLevel := if p8.validity = .invalid then u.voltageLevel else voltageLevelOf u.inUse u.voltageLevel p8.value,
        brownHold :=
          if u.brownHold = 4 ∧ p8.validity ≠ .invalid ∧ u.inUse.brownOutRelease ≤ p8.value then 0 else u.brownHold } := by
  unfold Supply.shedStep
  by_cases hok : p8.validity = .invalid
  · rw [if_neg (by simp [Point.usable, hok]), if_pos hok, if_neg fun h => h.2.1 hok]
  · rw [if_pos (by simp [Point.usable, hok]), if_neg hok]
    simp only [ne_eq, hok, not_false_eq_true, true_and]

/-! The charge stage (R152, R153). -/

theorem extreme_iff (z : Zone) : z.extreme = true ↔ z = .cold ∨ z = .hot := by
  cases z <;> simp [Zone.extreme]

theorem absorbReached_iff (p8 : Point) (w : Supply) :
    w.absorbReached p8 = true ↔ p8.validity ≠ .invalid ∧ w.inUse.absorbVoltage ≤ p8.value := by
  simp [Supply.absorbReached, Point.usable]

theorem absorbEnds_iff (p9 : Point) (w : Supply) :
    w.absorbEnds p9 = true ↔ p9.validity ≠ .invalid ∧ p9.value < w.inUse.absorbEnd := by
  simp [Supply.absorbEnds, Point.usable]

theorem bulkExpires_iff (p8 : Point) (w : Supply) :
    w.bulkExpires p8 = true ↔
      w.stage = .bulk ∧ w.zone.extreme = false ∧ w.absorbReached p8 = false ∧ 7200 * w.inUse.bulkTime ≤ w.stageTime + w.gain := by
  unfold Supply.bulkExpires halfSeconds
  rw [Nat.mul_comm]
  simp only [Bool.and_eq_true, Bool.not_eq_true', beq_iff_eq, and_assoc]
  exact and_congr_right fun _ => and_congr_right fun _ => and_congr_right fun _ => decide_eq_true_iff

theorem absorbExpires_iff (p9 : Point) (w : Supply) :
    w.absorbExpires p9 = true ↔
      w.stage = .absorb ∧ w.zone.extreme = false ∧ w.absorbEnds p9 = false ∧
        7200 * w.inUse.absorbTime ≤ w.stageTime + w.gain := by
  unfold Supply.absorbExpires halfSeconds
  rw [Nat.mul_comm]
  simp only [Bool.and_eq_true, Bool.not_eq_true', beq_iff_eq, and_assoc]
  exact and_congr_right fun _ => and_congr_right fun _ => and_congr_right fun _ => decide_eq_true_iff

/-- R152, R153: the stage and its time after the stage step of a check. -/
theorem stageStep_eq (p8 p9 : Point) (w : Supply) :
    w.stageStep p8 p9 =
      { w with stage := (w.stageStep p8 p9).stage, stageTime := (w.stageStep p8 p9).stageTime } := by
  unfold Supply.stageStep
  split
  case h_5 => rfl
  case h_6 => rfl
  all_goals split_ifs <;> rfl

theorem stageStep_extreme {p8 p9 : Point} {w : Supply} (hx : w.zone.extreme = true)
    (hs : w.stage = .bulk ∨ w.stage = .absorb ∨ w.stage = .float ∨ w.stage = .halted) :
    (w.stageStep p8 p9).stage = .halted := by
  unfold Supply.stageStep
  rcases hs with hs | hs | hs | hs <;> rw [hs] <;> simp [hx, hs]

theorem stageStep_halted {p8 p9 : Point} {w : Supply} (hx : w.zone.extreme = false) (hs : w.stage = .halted) :
    w.stageStep p8 p9 = w.toBulk := by
  unfold Supply.stageStep
  rw [hs]
  simp [hx]

theorem stageStep_bulk {p8 p9 : Point} {w : Supply} (hx : w.zone.extreme = false) (hs : w.stage = .bulk) :
    w.stageStep p8 p9 =
      if w.absorbReached p8 then { w with stage := .absorb, stageTime := 0 }
      else if w.bulkExpires p8 then { w with stage := .fault, stageTime := w.stageTime + w.gain }
      else { w with stageTime := w.stageTime + w.gain } := by
  unfold Supply.stageStep
  rw [hs]
  simp [hx]

theorem stageStep_absorb {p8 p9 : Point} {w : Supply} (hx : w.zone.extreme = false) (hs : w.stage = .absorb) :
    w.stageStep p8 p9 =
      if w.absorbEnds p9 then { w with stage := .float }
      else if w.absorbExpires p9 then { w with stage := .float, stageTime := w.stageTime + w.gain }
      else { w with stageTime := w.stageTime + w.gain } := by
  unfold Supply.stageStep
  rw [hs]
  simp [hx]

theorem stageStep_float {p8 p9 : Point} {w : Supply} (hx : w.zone.extreme = false) (hs : w.stage = .float) :
    w.stageStep p8 p9 = if p8.validity ≠ .invalid ∧ p8.value < w.inUse.floatReturn then w.toBulk else w := by
  unfold Supply.stageStep
  rw [hs]
  simp [hx, Point.usable]

theorem stageStep_idle {p8 p9 : Point} {w : Supply} (hs : w.stage = .off ∨ w.stage = .fault) : w.stageStep p8 p9 = w := by
  unfold Supply.stageStep
  rcases hs with hs | hs <;> rw [hs]

/-! The whole check (R147). -/

theorem beforeStage_eq {t : Nat} {p10 p12 : Point} {u : Supply} (h : u.zoneLevel = zoneLevelOf u.inUse u.zone) :
    u.beforeStage t p10 p12 =
      { u.pvStep t p10 with zone := u.zoneAfter p12, zoneLevel := zoneLevelOf u.inUse (u.zoneAfter p12) } := by
  obtain ⟨hinUse, -, -, hzone, hlevel, -⟩ := pvStep_rest t p10 u
  have hafter : (u.pvStep t p10).zoneAfter p12 = u.zoneAfter p12 := by
    rw [Supply.zoneAfter, Supply.zoneAfter, hzone, hinUse]
  have hlevelOf : zoneLevelOf (u.pvStep t p10).inUse = zoneLevelOf u.inUse := congrArg zoneLevelOf hinUse
  rw [Supply.beforeStage, zoneStep_eq (by rw [hlevel, hinUse, hzone, h]), hafter, hlevelOf]

theorem check_eq {t : Nat} {p8 p9 p10 p12 : Point} {u w : Supply} (hw : u.beforeStage t p10 p12 = w) :
    u.check t p8 p9 p10 p12 =
      { w with
        stage := (w.stageStep p8 p9).stage, stageTime := (w.stageStep p8 p9).stageTime,
        voltageLevel := if p8.validity = .invalid then w.voltageLevel else voltageLevelOf w.inUse w.voltageLevel p8.value,
        brownHold :=
          if w.brownHold = 4 ∧ p8.validity ≠ .invalid ∧ w.inUse.brownOutRelease ≤ p8.value then 0 else w.brownHold } := by
  rw [Supply.check, hw, shedStep_eq, stageStep_eq]

/-! The words of a check (R153). -/

/-- R153: the words of an event, register by register. -/
theorem chargeWords_split (u v : Supply) :
    chargeWords u v =
      (if v.stage.enabled = true ∧ (¬u.stage.enabled = true ∨ u.chargeCurrent ≠ v.chargeCurrent) then [currentWord v] else []) ++
        (if v.stage.enabled = true ∧ (¬u.stage.enabled = true ∨ u.voltageTarget ≠ v.voltageTarget) then [voltageWord v] else []) ++
        (if v.stage.enabled = true ∧ ¬u.stage.enabled = true then [chargerWord .chargeEnable 1] else []) ++
        (if u.stage.enabled = true ∧ ¬v.stage.enabled = true then [chargerWord .chargeEnable 0] else []) := by
  unfold chargeWords
  cases hu : u.stage.enabled <;> cases hv : v.stage.enabled <;> simp

end Sys2Proof.Machine

/-! PROOF. O51: zones, voltage levels, and the check as a whole. -/

namespace Sys2Proof.Machine

/-! Zones (R151). -/

/-- The order of the zone thresholds an acceptable entry has. -/
theorem zoneThresholds_ordered {g : SupplySettings} (h : g.valid = true) :
    0 ≤ g.zoneHyst ∧ g.zoneHyst < g.t2 - g.t1 ∧ g.zoneHyst < g.t4 - g.t3 ∧ 2 * g.zoneHyst < g.t3 - g.t2 := by
  obtain ⟨hrange, horder⟩ := Bool.and_eq_true_iff.1 h
  simp only [SupplySettings.inRange, SupplySettings.ordered, Bool.and_eq_true, List.all_cons, decide_eq_true_eq] at hrange horder
  omega

theorem zoneOf_spec {g : SupplySettings} (z : Zone) (t : Int) (hvalid : g.valid = true) :
    let h := g.zoneHyst
    let r := zoneOf g z t
    let a1 := g.t1 + if z = .cold then h else 0
    let a2 := g.t2 + if z = .cold ∨ z = .cool then h else 0
    let a3 := g.t3 - if z = .warm ∨ z = .hot then h else 0
    let a4 := g.t4 - if z = .hot then h else 0
    (r = .cold ↔ t < a1) ∧ (r = .cool ↔ a1 ≤ t ∧ t < a2) ∧ (r = .normal ↔ a2 ≤ t ∧ t ≤ a3) ∧
      (r = .warm ↔ a3 < t ∧ t ≤ a4) ∧ (r = .hot ↔ a4 < t) := by
  intro h r a1 a2 a3 a4
  obtain ⟨h0, h12, h34, h23⟩ := zoneThresholds_ordered hvalid
  have hr : r = if t < a1 then .cold else if t < a2 then .cool else if t ≤ a3 then .normal else if t ≤ a4 then .warm else .hot := by
    cases z <;> simp [r, zoneOf, a1, a2, a3, a4, h]
  have h1 : a1 ≤ a2 := by cases z <;> simp [a1, a2, h] <;> omega
  have h2 : a2 ≤ a3 := by cases z <;> simp [a2, a3, h] <;> omega
  have h3 : a3 ≤ a4 := by cases z <;> simp [a3, a4, h] <;> omega
  rw [hr]
  split_ifs <;> simp <;> omega

/-! Voltage levels (R154). -/

/-- The voltage of a level. -/
def SupplySettings.volts (g : SupplySettings) (n : Nat) : Int :=
  if n = 1 then g.v1 else if n = 2 then g.v2 else if n = 3 then g.v3 else g.v4

theorem levelBelow_succ (g : SupplySettings) (off v : Int) {n : Nat} (hn : n < 4) :
    levelBelow g off v (n + 1) = if v < g.volts (n + 1) + off then n + 1 else levelBelow g off v n := by
  match n, hn with
  | 0, _ | 1, _ | 2, _ | 3, _ => rfl

/-- The highest level up to `top` whose voltage, raised by `off`, is undershot. -/
def IsHighest (g : SupplySettings) (v off : Int) (top n : Nat) : Prop :=
  n ≤ top ∧ (n = 0 ∨ 1 ≤ n ∧ n ≤ 4 ∧ v < g.volts n + off) ∧
    ∀ k ≤ top, 1 ≤ k ∧ k ≤ 4 ∧ v < g.volts k + off → k ≤ n

theorem levelBelow_isHighest (g : SupplySettings) (v off : Int) {top : Nat} (htop : top ≤ 4) :
    IsHighest g v off top (levelBelow g off v top) := by
  induction top with
  | zero => exact ⟨le_refl 0, .inl rfl, fun k hk h => absurd h.1 (by omega)⟩
  | succ n ih =>
    obtain ⟨hle, hbelow, hmax⟩ := ih (by omega)
    rw [levelBelow_succ g off v (by omega)]
    split_ifs with hv
    · exact ⟨le_refl _, .inr ⟨by omega, htop, hv⟩, fun k hk _ => hk⟩
    · refine ⟨hle.trans (Nat.le_succ n), hbelow, fun k hk h => ?_⟩
      rcases Nat.le_succ_iff.1 hk with hk | rfl
      · exact hmax k hk h
      · exact absurd h.2.2 hv

theorem IsHighest.unique {g : SupplySettings} {v off : Int} {top m n : Nat} (hm : IsHighest g v off top m)
    (hn : IsHighest g v off top n) : m = n := by
  obtain ⟨hm1, hm2, hm3⟩ := hm
  obtain ⟨hn1, hn2, hn3⟩ := hn
  have hle {a b : Nat} (ha : a ≤ top) (h : a = 0 ∨ 1 ≤ a ∧ a ≤ 4 ∧ v < g.volts a + off)
      (hb : ∀ k ≤ top, 1 ≤ k ∧ k ≤ 4 ∧ v < g.volts k + off → k ≤ b) : a ≤ b :=
    h.elim (fun h => h ▸ Nat.zero_le b) (hb a ha)
  exact le_antisymm (hle hm1 hm2 hn3) (hle hn1 hn2 hm3)

theorem voltageLevelOf_spec {g : SupplySettings} (v : Int) {held u : Nat} (hheld : held ≤ 4) (hu : IsHighest g v 0 4 u) :
    (held ≤ u → voltageLevelOf g held v = u) ∧ (u < held → IsHighest g v g.shedHyst held (voltageLevelOf g held v)) := by
  have heq : levelBelow g 0 v 4 = u := (levelBelow_isHighest g v 0 (le_refl 4)).unique hu
  unfold voltageLevelOf
  rw [heq]
  refine ⟨fun h => if_pos h, fun h => ?_⟩
  rw [if_neg (Nat.not_le.2 h)]
  exact levelBelow_isHighest g v g.shedHyst hheld

/-! The rows that are a check (log entry 6). -/

theorem exec_check {due : Nat} {s : State} (h : s.supply.checkAt = some due) :
    exec .supplyCheck s = .next (checkSupply (checkDue due s)) ∧
      exec .noSagCountReached s = .next (if s.supply.noSagReached (s.point 10) then checkSupply (checkDue due s) else s) ∧
      exec .bulkTimerExpiry s =
        .next (if (checkDue due s).supplyBeforeStage.bulkExpires (s.point 8) then checkSupply (checkDue due s) else s) ∧
      exec .absorbTimerExpiry s =
        .next (if (checkDue due s).supplyBeforeStage.absorbExpires (s.point 9) then checkSupply (checkDue due s) else s) := by
  refine ⟨?_, ?_, ?_, ?_⟩
  · show execSupplyCheck s = _
    unfold execSupplyCheck
    rw [h]
  · show execNoSagCountReached s = _
    unfold execNoSagCountReached
    rw [h]
  · show execBulkTimerExpiry s = _
    unfold execBulkTimerExpiry
    rw [h]
    rfl
  · show execAbsorbTimerExpiry s = _
    unfold execAbsorbTimerExpiry
    rw [h]
    rfl

theorem noSagReached_iff (p10 : Point) (u : Supply) :
    u.noSagReached p10 = true ↔
      (u.pv = .qualified ∧ p10.validity ≠ .invalid ∧ u.inUse.presence ≤ p10.value ∧ u.hold ≤ p10.value) ∧ u.noSag + 1 = 60 := by
  simp [Supply.noSagReached, Point.usable, and_assoc]

end Sys2Proof.Machine

/-! PROOF. O51: the supply check settled. -/

namespace Sys2Proof.Machine

/-- What a check leaves, by the array it found (`q`) and the stage step's result (`st`). -/
structure Supply.Checked (p8 p12 : Point) (u q st v : Supply) : Prop where
  pv : v.pv = q.pv
  failures : v.failures = q.failures
  settleAt : v.settleAt = q.settleAt
  testAt : v.testAt = q.testAt
  retryAt : v.retryAt = q.retryAt
  limit : v.limit = q.limit
  derated : v.derated = q.derated
  noSag : v.noSag = q.noSag
  inUse : v.inUse = u.inUse
  checkAt : v.checkAt = u.checkAt
  zone : v.zone = u.zoneAfter p12
  zoneLevel : v.zoneLevel = zoneLevelOf u.inUse v.zone
  stage : v.stage = st.stage
  stageTime : v.stageTime = st.stageTime
  voltageLevel : v.voltageLevel = if p8.validity = .invalid then u.voltageLevel else voltageLevelOf u.inUse u.voltageLevel p8.value
  brownHold : v.brownHold = if u.brownHold = 4 ∧ p8.validity ≠ .invalid ∧ u.inUse.brownOutRelease ≤ p8.value then 0 else u.brownHold

theorem check_checked {t : Nat} {p8 p9 p10 p12 : Point} {u : Supply} (n : Nat) (h : u.zoneLevel = zoneLevelOf u.inUse u.zone) :
    Supply.Checked p8 p12 u (u.pvStep t p10) ((u.beforeStage t p10 p12).stageStep p8 p9)
      { u.check t p8 p9 p10 p12 with level := n } := by
  obtain ⟨hinUse, hcheck, -, -, -, -, hvoltage, hbrown, -⟩ := pvStep_rest t p10 u
  rw [check_eq (beforeStage_eq h), beforeStage_eq h]
  refine ⟨rfl, rfl, rfl, rfl, rfl, rfl, rfl, rfl, hinUse, hcheck, rfl, rfl, rfl, rfl, ?_, ?_⟩
  · dsimp only
    rw [hvoltage, hinUse]
  · dsimp only
    rw [hbrown, hinUse]

/-- What the stage step of a check starts from. -/
structure Supply.Staged (u q v w : Supply) : Prop where
  stage : w.stage = q.stage
  zone : w.zone = v.zone
  derated : w.derated = v.derated
  stageTime : w.stageTime = u.stageTime
  inUse : w.inUse = u.inUse

theorem beforeStage_staged {t : Nat} {p8 p10 p12 : Point} {u st v : Supply} (h : u.zoneLevel = zoneLevelOf u.inUse u.zone)
    (hv : Supply.Checked p8 p12 u (u.pvStep t p10) st v) :
    Supply.Staged u (u.pvStep t p10) v (u.beforeStage t p10 p12) := by
  obtain ⟨hinUse, -, -, -, -, htime, -⟩ := pvStep_rest t p10 u
  rw [beforeStage_eq h]
  exact ⟨rfl, hv.zone.symm, hv.derated.symm, htime, hinUse⟩

/-- R147: what a supply check makes of the state. -/
theorem checkSupply_spec {due : Nat} {s t : State} (ht : t = checkSupply (checkDue due s)) (hlawful : s.supply.Lawful) :
    Supply.Checked (s.point 8) (s.point 12) { s.supply with checkAt := some (due + 1000000) }
        (Supply.pvStep (max s.now due) (s.point 10) { s.supply with checkAt := some (due + 1000000) })
        (((checkDue due s).supplyBeforeStage).stageStep (s.point 8) (s.point 9)) t.supply ∧
      t.supply.level = t.shedLevel ∧ t.now = max s.now due ∧
      (t.supply.level = s.supply.level →
        t.port = ControlPort.placeAll t.now
          (chargeWords s.supply t.supply ++ if t.supply.stage = .off then [] else [chargerWord .chargeStatus 0]) s.port) ∧
      (s.points.recs.length = 46 →
        t.point 38 = (if t.supply.zone = s.supply.zone then s.point 38 else ⟨t.supply.zone.code, .valid, 0⟩) ∧
          t.point 40 = (if t.supply.pv = s.supply.pv then s.point 40 else ⟨t.supply.pv.code, .valid, 0⟩)) ∧
      changesOnly [.now, .supply, .points, .pump .ab, .pump .ba, .port, .outputs] s t ∧ pointsOnly [38, 39, 40, 41, 42] s t := by
  let u : Supply := { s.supply with checkAt := some (due + 1000000) }
  let c := u.check (max s.now due) (s.point 8) (s.point 9) (s.point 10) (s.point 12)
  let extra : List PortWord := if c.stage = .off then [] else [chargerWord .chargeStatus 0]
  have htake : t = takeSupply c extra (checkDue due s) := ht
  have hsupply : t.supply = { c with level := t.shedLevel } := by
    rw [htake]
    exact takeSupply_level c extra (checkDue due s)
  have hnow : t.now = max s.now due := by
    rw [htake]
    exact takeSupply_changesOnly c extra (checkDue due s) .now (by simp)
  have hclevel : c.level = u.level := by
    have hrest := (pvStep_rest (max s.now due) (s.point 10) u).2.2.2.2.2.2.2.2
    have hlevelOf := hlawful.byPv.zoneLevel
    rw [show c = _ from check_eq (u := u) (beforeStage_eq hlevelOf)]
    exact hrest
  have hdue : changesOnly [.now, .supply] s (checkDue due s) := fun p hp => by
    cases p <;> simp_all [Part.same, checkDue]
  refine ⟨?_, ?_, hnow, fun hlevel => ?_, fun hlength => ?_, ?_, ?_⟩
  · rw [hsupply]
    exact check_checked (u := u) t.shedLevel hlawful.byPv.zoneLevel
  · rw [hsupply]
  · rw [hnow, hsupply]
    rw [htake] at hlevel ⊢
    exact takeSupply_port extra hclevel hlevel
  · rw [hsupply, htake]
    exact takeSupply_points (s := checkDue due s) extra hlength
  · rw [htake]
    exact hdue.trans (takeSupply_changesOnly c extra _) (by simp) (by simp)
  · rw [htake]
    exact takeSupply_pointsOnly c extra (checkDue due s)

/-- R153: the voltage target of a stage that enables the charger. -/
theorem voltageTarget_of_enabled {u : Supply} (h : u.stage.enabled = true) :
    u.voltageTarget =
      if u.stage = .float then (if u.zone = .warm then u.inUse.floatVoltage - u.inUse.warmReduction else u.inUse.floatVoltage)
      else u.inUse.absorbVoltage := by
  unfold Supply.voltageTarget
  cases hs : u.stage <;> simp_all [Stage.enabled]

theorem enabled_iff (x : Stage) : x.enabled = true ↔ x = .bulk ∨ x = .absorb ∨ x = .float := by
  cases x <;> simp [Stage.enabled]

end Sys2Proof.Machine

section

open Sys2Proof Sys2Proof.Machine

/-- Settles O51. -/
theorem supplyCheckWorksThroughItsSteps : Obligations.SupplyCheckWorksThroughItsSteps := by
  refine ⟨fun due s hdue hsupply => ?_, fun g z t v held hvalid hheld => ?_⟩
  · obtain ⟨-, hlawful⟩ := (supplyLawful_iff s).1 hsupply
    obtain ⟨hexec, hnoSag, hbulk, habsorb⟩ := exec_check hdue
    obtain ⟨t, ht⟩ : ∃ t, t = checkSupply (checkDue due s) := ⟨_, rfl⟩
    rw [← ht] at hexec hnoSag hbulk habsorb
    obtain ⟨hv, hlevel, hnow, hport, hpoint, hparts, hpoints⟩ := checkSupply_spec ht hlawful
    refine ⟨t, hexec, ?_⟩
    intro u v g p8 p9 p10 ok dark sags stands rating extreme full tapered low total bulkOut absorbOut current voltage enabled word words
    let u1 : Supply := { u with checkAt := some (due + 1000000) }
    let q := Supply.pvStep (max s.now due) p10 u1
    let w := (checkDue due s).supplyBeforeStage
    have hlawful1 : u1.Lawful := ⟨⟨hlawful.timers.settle, hlawful.timers.test, hlawful.timers.retry, hlawful.timers.lockedOut,
      hlawful.timers.failures, hlawful.timers.absent⟩, hlawful.limit, hlawful.stage⟩
    have hv : Supply.Checked p8 (s.point 12) u1 q (w.stageStep p8 p9) v := hv
    have hw : Supply.Staged u1 q v w := beforeStage_staged hlawful1.byPv.zoneLevel hv
    have hextreme : v.zone.extreme = true ↔ extreme := extreme_iff v.zone
    have hmild : ¬extreme → w.zone.extreme = false := fun h => by
      rw [hw.zone]
      exact Bool.eq_false_iff.2 (mt hextreme.1 h)
    have hfull : w.absorbReached p8 = true ↔ full := by
      rw [absorbReached_iff, hw.inUse]
    have htapered : w.absorbEnds p9 = true ↔ tapered := by
      rw [absorbEnds_iff, hw.inUse]
    have htotal : w.stageTime + w.gain = total := by
      rw [Supply.gain, hw.stageTime, hw.derated, hw.zone]
    have hqdark (h : dark) : q = _ := pvStep_of_dark hlawful1 h
    have hqstage (h : ¬dark) : w.stage = u.stage := hw.stage.trans (pvStep_of_not_dark (u := u1) h).1
    have hwdark (h : dark) : w.stage = if u.stage = .fault then .fault else .off := by
      rw [hw.stage, hqdark h]
    have hstageIff {x : Stage} (hoff : x ≠ .off) (hfault : x ≠ .fault) : w.stage = x ↔ u.stage = x ∧ ¬dark := by
      by_cases hd : dark
      · rw [hwdark hd]
        refine iff_of_false ?_ fun h => h.2 hd
        split_ifs
        · exact Ne.symm hfault
        · exact Ne.symm hoff
      · rw [hqstage hd, and_iff_left hd]
    have hbulkOut : w.bulkExpires p8 = true ↔ bulkOut := by
      rw [bulkExpires_iff, htotal, hw.inUse, hw.zone, ← Bool.not_eq_true, ← Bool.not_eq_true, hextreme, hfull,
        hstageIff (by simp) (by simp), and_assoc]
    have habsorbOut : w.absorbExpires p9 = true ↔ absorbOut := by
      rw [absorbExpires_iff, htotal, hw.inUse, hw.zone, ← Bool.not_eq_true, ← Bool.not_eq_true, hextreme, htapered,
        hstageIff (by simp) (by simp), and_assoc]
    have hstands (h : stands) : q = u1.limitStep p10.value := pvStep_limitStep h.1 h.2.1 h.2.2.1
    refine ⟨hnow, hv.checkAt, hv.inUse, fun h => ?_, fun habsent hok hlit => ?_, fun hlit hor => ?_, fun h => ?_, fun h hcount => ?_,
      fun h hcount => ?_, fun hsag hstand => ?_, hv.zone, ?_, fun hlength => ?_, fun hsame => ?_, fun hlit hx hs => ?_,
      fun hlit hx hs => ?_, fun hlit hx hs hf => ?_, fun h => ?_, fun hlit hx hs hf hout => ?_, fun hlit hx hs hf => ?_, fun h => ?_,
      fun hlit hx hs hf hout => ?_, fun hlit hx hs hl => ?_, fun hlit hx hs hl => ?_, fun hs => ?_, hv.voltageLevel, hv.brownHold, hlevel,
      ?_, ?_, ?_, ?_, ?_⟩
    · have hq := hqdark h
      refine ⟨?_, ?_, ?_, ?_, ?_, ?_⟩
      · rw [hv.pv, hq]
      · rw [hv.failures, hq]
      · rw [hv.settleAt, hq]
      · rw [hv.testAt, hq]
      · rw [hv.retryAt, hq]
      · have hidle : w.stage = .off ∨ w.stage = .fault := by
          rw [hwdark h]
          split_ifs
          · exact .inr rfl
          · exact .inl rfl
        rw [hv.stage, stageStep_idle hidle, hwdark h]
    · have hq : q = u1.toSettling (max s.now due) :=
        (pvStep_of_lit (u := u1) hok (lit_of_not_dark (u := u1) hlit hok)).trans (if_pos habsent)
      rw [hv.pv, hv.settleAt, hq, hnow]
      exact ⟨rfl, rfl⟩
    · obtain ⟨h1, h2, h3, h4, h5⟩ := (pvStep_of_not_dark (t := max s.now due) (u := u1) hlit).2
        (hor.imp_right not_not.1)
      exact ⟨hv.pv.trans h1, hv.failures.trans h2, hv.settleAt.trans h3, hv.testAt.trans h4, hv.retryAt.trans h5⟩
    · have hq : q = _ := (pvStep_limitStep (u := u1) h.1 h.2.1 h.2.2.1).trans (limitStep_sag h.2.2.2)
      rw [hv.limit, hv.derated, hv.noSag, hq]
      exact ⟨rfl, rfl, rfl⟩
    · have hq : q = _ := (hstands h).trans (limitStep_count (u := u1) h.2.2.2 hcount)
      rw [hv.limit, hv.derated, hv.noSag, hq]
      exact ⟨rfl, rfl, rfl⟩
    · have hq : q = _ := (hstands h).trans (limitStep_rise (u := u1) h.2.2.2 (by rw [hcount]; simp))
      rw [hv.limit, hv.derated, hv.noSag, hq]
      exact ⟨rfl, rfl, fun hr => if_pos hr, fun hr => if_neg hr⟩
    · obtain ⟨h1, h2, h3⟩ := pvStep_limit_kept (t := max s.now due) (p10 := p10) hlawful1 fun h => by
        rcases lt_or_ge p10.value u.hold with hlt | hge
        · exact hsag ⟨h.1, h.2.1, h.2.2, hlt⟩
        · exact hstand ⟨h.1, h.2.1, h.2.2, hge⟩
      exact ⟨hv.limit.trans h1, hv.derated.trans h2, hv.noSag.trans h3⟩
    · refine hv.zoneLevel.trans ?_
      generalize v.zone = z
      cases z <;> rfl
    · exact hpoint hlength
    · refine (hport hsame).trans (congrArg (ControlPort.placeAll t.now · s.port) ?_)
      have hon (x : Supply) : x.stage.enabled = true ↔ enabled x := enabled_iff x.stage
      have hcurrent (x : Supply) : x.chargeCurrent = current x := by
        simp only [Supply.chargeCurrent, current]
        cases x.zone <;> rfl
      have hvoltage {x : Supply} (hx : enabled x) (hin : x.inUse = g) : x.voltageTarget = voltage x := by
        rw [voltageTarget_of_enabled ((hon x).2 hx), hin]
      refine congrArg₂ (· ++ ·) ((chargeWords_split u v).trans ?_) rfl
      refine congrArg₂ (· ++ ·) (congrArg₂ (· ++ ·) (congrArg₂ (· ++ ·) ?_ ?_) ?_) ?_
      · refine if_congr (by rw [hon, hon, hcurrent, hcurrent]) ?_ rfl
        rw [currentWord, hcurrent]
        rfl
      · by_cases hboth : enabled u ∧ enabled v
        · refine if_congr (by rw [hon, hon, hvoltage hboth.1 rfl, hvoltage hboth.2 hv.inUse]) ?_ rfl
          rw [voltageWord, hvoltage hboth.2 hv.inUse]
          rfl
        · by_cases hve : enabled v
          · have hue : ¬enabled u := fun hue => hboth ⟨hue, hve⟩
            rw [if_pos ⟨(hon v).2 hve, .inl (mt (hon u).1 hue)⟩, if_pos ⟨hve, .inl hue⟩, voltageWord, hvoltage hve hv.inUse]
            rfl
          · rw [if_neg fun h => hve ((hon v).1 h.1), if_neg fun h => hve h.1]
      · exact if_congr (by rw [hon, hon]) rfl rfl
      · exact if_congr (by rw [hon, hon]) rfl rfl
    · rw [hv.stage]
      refine stageStep_extreme (by rw [hw.zone]; exact hextreme.2 hx) ?_
      rwa [hqstage hlit]
    · rw [hv.stage, hv.stageTime, stageStep_halted (hmild hx) ((hqstage hlit).trans hs)]
      exact ⟨rfl, rfl⟩
    · rw [hv.stage, hv.stageTime, stageStep_bulk (hmild hx) ((hqstage hlit).trans hs), if_pos (hfull.2 hf)]
      exact ⟨rfl, rfl⟩
    · rw [hv.stage, stageStep_bulk (hmild h.2.2.1) ((hqstage h.2.1).trans h.1), if_neg (mt hfull.1 h.2.2.2.1),
        if_pos (hbulkOut.2 h)]
    · have hs' := (hqstage hlit).trans hs
      rw [hv.stage, hv.stageTime, stageStep_bulk (hmild hx) hs', if_neg (mt hfull.1 hf), if_neg (mt hbulkOut.1 hout)]
      exact ⟨hs', htotal⟩
    · rw [hv.stage, stageStep_absorb (hmild hx) ((hqstage hlit).trans hs), if_pos (htapered.2 hf)]
    · rw [hv.stage, stageStep_absorb (hmild h.2.2.1) ((hqstage h.2.1).trans h.1), if_neg (mt htapered.1 h.2.2.2.1),
        if_pos (habsorbOut.2 h)]
    · have hs' := (hqstage hlit).trans hs
      rw [hv.stage, hv.stageTime, stageStep_absorb (hmild hx) hs', if_neg (mt htapered.1 hf), if_neg (mt habsorbOut.1 hout)]
      exact ⟨hs', htotal⟩
    · rw [hv.stage, hv.stageTime, stageStep_float (hmild hx) ((hqstage hlit).trans hs), hw.inUse, if_pos hl]
      exact ⟨rfl, rfl⟩
    · have hs' := (hqstage hlit).trans hs
      rw [hv.stage, stageStep_float (hmild hx) hs', hw.inUse, if_neg hl]
      exact hs'
    · have hw' : w.stage = u.stage := by
        by_cases hd : dark
        · rw [hwdark hd]
          rcases hs with h | h <;> rw [h] <;> rfl
        · exact hqstage hd
      rw [hv.stage, stageStep_idle (by rwa [hw']), hw']
    · rw [hnoSag]
      exact congrArg Host.Outcome.next (if_congr (noSagReached_iff p10 u) rfl rfl)
    · rw [hbulk]
      exact congrArg Host.Outcome.next (if_congr hbulkOut rfl rfl)
    · rw [habsorb]
      exact congrArg Host.Outcome.next (if_congr habsorbOut rfl rfl)
    · exact hparts
    · exact hpoints
  · refine ⟨(zoneOf_spec z t hvalid).1, (zoneOf_spec z t hvalid).2.1, (zoneOf_spec z t hvalid).2.2.1, (zoneOf_spec z t hvalid).2.2.2.1, (zoneOf_spec z t hvalid).2.2.2.2, fun u hu => (voltageLevelOf_spec v hheld hu).1, fun u hu => (voltageLevelOf_spec v hheld hu).2⟩

end

/-! PROOF. O35: scans, kept samples and the brown-out event. -/

namespace Sys2Proof.Machine

theorem periodStart_eq (due : Nat) (s : State) :
    periodStart due s = { s with
      now := max s.now due,
      sampling := { s.sampling with
        periodAt := some (due + 1000 * s.tables.scan.period),
        conversion := if s.sampling.conversion = none then some ⟨0, max s.now due + 20⟩ else s.sampling.conversion } } := by
  rw [Nat.mul_comm]
  unfold periodStart
  dsimp only
  cases hconv : s.sampling.conversion <;> simp [State.reach, hconv, startScan, conversionTime, millis]

theorem exec_conversion {k : Conversion} {s : State} (code : BitVec 12) (h : s.sampling.conversion = some k) :
    exec (.conversionEvent code) s = .next (conversionDone k.slot code.toNat (s.reach k.doneAt)) := by
  show execConversionEvent code s = _
  unfold execConversionEvent
  rw [h]

/-- R62: the first conversion of a settling channel is thrown away. -/
theorem conversionDone_discard {slot code : Nat} {s : State}
    (h : s.sampling.settle.getD (s.tables.scan.channelOf slot) .discard = .discard) :
    conversionDone slot code s = { s with
      sampling := { s.sampling with
        settle := s.sampling.settle.set (s.tables.scan.channelOf slot) .seed,
        conversion := nextConversion s.tables.scan s.now slot } } := by
  unfold conversionDone handleCode
  dsimp only
  rw [h]

/-- R62: a kept conversion: the sample compared, filtered and written, the next slot's conversion started. -/
theorem conversionDone_kept {slot code : Nat} {s : State}
    (h : s.sampling.settle.getD (s.tables.scan.channelOf slot) .discard ≠ .discard) :
    let ch := s.tables.scan.channelOf slot
    let x := convert s.tables.curves (s.tables.cals.getD ch ⟨.linear, 1024, 0, 0, 2⟩) code
    let u := keepSample ch x (s.sampling.settle.getD ch .discard == .seed) (brownOutCompare ch x.1 s)
    conversionDone slot code s =
      { u with sampling := { u.sampling with conversion := nextConversion u.tables.scan u.now slot } } := by
  unfold conversionDone handleCode
  dsimp only
  cases hs : s.sampling.settle.getD (s.tables.scan.channelOf slot) .discard with
  | discard => exact absurd hs h
  | seed => rfl
  | filtering => rfl

/-- R65, R68: a converted sample is never INVALID. -/
theorem convert_validity (curves : List Curve) (cal : Calibration) (code : Nat) : (convert curves cal code).2 ≠ .invalid := by
  unfold convert
  split
  · unfold linear
    dsimp only
    split_ifs <;> simp
  · unfold curveConvert
    dsimp only
    split_ifs <;> simp

theorem brownOutCompare_changesOnly (ch : Nat) (x : Int) (s : State) : changesOnly [.brownOuts] s (brownOutCompare ch x s) := by
  intro p hp
  cases p <;> simp_all [Part.same]

/-- R91: the updates that follow a write of a sampled point. -/
theorem afterUpdate_losses (j : Nat) (s : State) : pointsOnly (lossesOf j) s (afterUpdate j s) := by
  unfold afterUpdate lossesOf
  split_ifs
  · exact spanLoss_pointsOnly .a s
  · exact spanLoss_pointsOnly .b s
  · exact pointsOnly_refl _ s

theorem not_mem_lossesOf {j : Nat} (hj : j < 28) (k : Nat) : j ∉ lossesOf k := by
  unfold lossesOf
  split_ifs <;> simp <;> omega

/-- R62, R69, R87: the point a kept sample writes. -/
theorem keepSample_point {ch : Nat} {x : Int × Validity} {seeding : Bool} {s : State} (hch : ch < 16)
    (hlength : s.points.recs.length = 46) (hdeadlines : s.points.deadlines.length = 28) (hx : x.2 ≠ .invalid) :
    (keepSample ch x seeding s).point ch = ⟨keptValue ch x.1 seeding s, x.2, 0⟩ ∧
      (keepSample ch x seeding s).points.deadlines.getD ch none = some (s.now + 10000 * s.tables.scan.period) ∧
      pointsOnly (ch :: lossesOf ch) s (keepSample ch x seeding s) := by
  let u : State := { s with
    sampling := { s.sampling with
      settle := s.sampling.settle.set ch .filtering
      accumulator := s.sampling.accumulator.set ch (keptValue ch x.1 seeding s) } }
  let v := writePoint ch (keptValue ch x.1 seeding s) x.2 u
  have hkeep : keepSample ch x seeding s = afterUpdate ch v := rfl
  rw [hkeep]
  refine ⟨?_, ?_, ?_⟩
  · rw [afterUpdate_losses ch v ch (not_mem_lossesOf (by omega) ch)]
    exact point_writePoint_same ch _ _ u (by show ch < s.points.recs.length; omega)
  · rw [afterUpdate_deadlines (by omega)]
    show (s.points.deadlines.set ch (if x.2 = .invalid then none else some (u.deadline ch))).getD ch none = _
    rw [if_neg hx, getD_set_self (by omega), State.deadline, if_pos hch, millis]
    show some (s.now + 10 * s.tables.scan.period * 1000) = _
    congr 2
    omega
  · exact (writePoint_pointsOnly ch _ x.2 u).trans (afterUpdate_losses ch v) (by simp) (by simp)

theorem brownOutEvent_brownOuts (v : Int) (s : State) :
    exec (.brownOutEvent v) s =
      .next (takeBrownOut { s with brownOuts := if s.brownOuts.head? = some v then s.brownOuts.tail else s.brownOuts }) := by
  show execBrownOutEvent v s = _
  unfold execBrownOutEvent
  refine congrArg (fun u => Host.Outcome.next (takeBrownOut u)) ?_
  obtain ⟨now, pending, inbox, brownOuts, rest⟩ := s
  cases brownOuts with
  | nil => rfl
  | cons x l => by_cases hx : x = v <;> simp [hx]

end Sys2Proof.Machine

section

open Sys2Proof Sys2Proof.Machine

/-- Settles O35. -/
theorem scansSettleFilterAndWritePoints : Obligations.ScansSettleFilterAndWritePoints := by
  intro due k code v s htables hfilters hscan hlength hdeadlines now ch next cal x was avg avg'
  let s0 := s.reach k.doneAt
  have hscanTable : s.tables.scan.good := by
    obtain ⟨⟨-, hgood, -⟩, -⟩ := htables
    exact hgood
  refine ⟨fun hdue => ?_, fun hk hwas => ?_, fun hk hwas => ?_, ?_⟩
  · show execScanPeriodStart s = _
    unfold execScanPeriodStart
    rw [hdue]
    exact congrArg Host.Outcome.next (periodStart_eq due s)
  · rw [exec_conversion code hk, conversionDone_discard (s := s0) hwas]
    rfl
  · have hch : ch < 16 := Nat.lt_succ_of_le (channelOf_le hscanTable (hscan k hk))
    let s1 := brownOutCompare ch x.1 s0
    let u := keepSample ch x (was == .seed) s1
    have hcompare := brownOutCompare_changesOnly ch x.1 s0
    have hpoints : s1.points = s.points := hcompare .points (by simp)
    have htab : s1.tables = s.tables := hcompare .tables (by simp)
    have hsampling : s1.sampling = s.sampling := hcompare .sampling (by simp)
    have hnow : s1.now = now := hcompare .now (by simp)
    have hkept : keptValue ch x.1 (was == .seed) s1 = avg' := by
      unfold keptValue
      rw [hsampling, htab]
      exact if_congr beq_iff_eq rfl rfl
    obtain ⟨hpoint, hdeadline, honly⟩ := keepSample_point (ch := ch) (x := x) (seeding := was == .seed) (s := s1) hch
      (by rw [hpoints, hlength]) (by rw [hpoints, hdeadlines]) (convert_validity _ _ _)
    have hexec := (exec_conversion code hk).trans (congrArg Host.Outcome.next (conversionDone_kept (s := s0) hwas))
    refine ⟨_, hexec, ?_, ?_, ?_, ?_, ?_, ?_, ?_⟩
    · show u.now = now
      rw [← hnow]
      simp [u]
    · have hus : u.sampling = _ := keepSample_sampling ch x (was == .seed) s1
      have hun : u.now = now ∧ u.tables = s.tables := by
        rw [← hnow, ← htab]
        simp [u]
      rw [hsampling, hkept] at hus
      show { u.sampling with conversion := nextConversion u.tables.scan u.now k.slot } = _
      rw [hus, hun.1, hun.2]
      rfl
    · show u.point ch = _
      rw [hpoint, hkept]
    · show u.points.deadlines.getD ch none = _
      rw [hdeadline, hnow, htab]
    · show u.brownOuts = _
      have hub : u.brownOuts = s1.brownOuts := by simp [u]
      rw [hub]
      show (if ch = 8 ∧ x.1 < s.supply.inUse.brownOut then { s0 with brownOuts := s0.brownOuts ++ [x.1] } else s0).brownOuts = _
      split_ifs <;> rfl
    · show pointsOnly (ch :: lossesOf ch) s u
      exact fun j hj => (honly j hj).trans (by rw [State.point, hpoints]; rfl)
    · have hdone := conversionDone_changesOnly k.slot code.toNat s0
      rw [conversionDone_kept (s := s0) hwas] at hdone
      exact (reach_changesOnly k.doneAt s).trans hdone (by simp) (by simp)
  · rw [brownOutEvent_brownOuts]
    let q := if s.brownOuts.head? = some v then s.brownOuts.tail else s.brownOuts
    let u : State := { s with brownOuts := q, supply := { s.supply with brownHold := 4 } }
    have htake : takeBrownOut { s with brownOuts := q } = recomputeShed u := rfl
    have hagent : (recomputeShed u).agent = s.agent := by simp [u]
    have hengine : (recomputeShed u).engine = s.engine := by simp [u]
    have hsupply : (recomputeShed u).supply = { u.supply with level := u.shedLevel } := recomputeShed_supply u
    have hlevel : (recomputeShed u).shedLevel = u.shedLevel :=
      shedLevel_congr (by rw [hagent]) (by rw [hsupply]) (by rw [hsupply]) (by rw [hengine]) (by rw [hsupply])
    refine ⟨recomputeShed u, rfl, ?_, fun hfree => ?_, by simp [u, q], ?_⟩
    · rw [hsupply, hlevel]
    · rw [hsupply]
      show 4 ≤ u.shedLevel
      unfold State.shedLevel
      rw [show u.agent.shedForce = none from hfree]
      exact (le_max_right _ _).trans (le_max_right _ _)
    · have hu : changesOnly [.brownOuts, .supply] s u := fun p hp => by
        cases p <;> simp_all [Part.same, u]
      exact hu.trans (recomputeShed_changesOnly u) (by simp) (by simp)

end

/-! PROOF. O46: the reports of the Condition Engine. -/

namespace Sys2Proof.Machine

/-- R120: the entry of a condition in a lawful list. -/
theorem entryOf_of_mem {e : Standing} {l : List Standing} (h : ListOk l) (he : e ∈ l) : entryOf e.index l = some e := by
  cases hfound : entryOf e.index l with
  | none => exact absurd rfl (entryOf_none hfound e he)
  | some x =>
    obtain ⟨hx, hindex⟩ := entryOf_some hfound
    rw [eq_of_index h.nodup hx he hindex]

theorem entryOf_absent {i : Nat} {l : List Standing} (h : ∀ x ∈ l, x.index ≠ i) : entryOf i l = none :=
  List.find?_eq_none.2 fun x hx => by simpa using h x hx

theorem takeRaise_eq (r : Raise) (s : State) :
    takeRaise r s =
      let t : State := { s with alarms := without r.index s.alarms ++ [standingOf r s] }
      if r.entry.report = true ∧ r.suppressed = false then
        deliver (alertRecord (standingOf r s) .raised r.value s.agent.hutTime s.agent.timeSet false t.alarms.length) t
      else t := by
  refine if_congr ?_ rfl rfl
  simp only [standingOf]
  cases r.entry.report <;> cases r.suppressed <;> simp

theorem takeClear_eq {i : Nat} {v : Int} {e : Standing} {s : State} (h : entryOf i s.alarms = some e) :
    takeClear i v s =
      let t : State := { s with alarms := clearEntry e s.alarms }
      if e.report = true ∧ e.withheld = false then
        deliver (alertRecord e .cleared v s.agent.hutTime s.agent.timeSet e.acknowledged t.alarms.length) t
      else t := by
  unfold takeClear
  rw [h]
  exact if_congr (by simp) rfl rfl

theorem takeReconfigure_eq {i : Nat} {e : Standing} {s : State} (h : entryOf i s.alarms = some e) :
    takeReconfigure i s =
      let t : State := { s with alarms := without i s.alarms }
      if e.report = true ∧ e.withheld = false then
        deliver (alertRecord e .reconfigured e.value s.agent.hutTime s.agent.timeSet e.acknowledged t.alarms.length) t
      else t := by
  unfold takeReconfigure
  rw [h]
  exact if_congr (by simp) rfl rfl

theorem takeSuppression_eq {i : Nat} {sup : Bool} {e : Standing} {s : State} (h : entryOf i s.alarms = some e)
    (hraised : e.status = .raised) :
    takeSuppression i sup s =
      let t : State := { s with alarms := s.alarms.map (Standing.suppress i sup) }
      if sup = false ∧ e.withheld = true then
        deliver (alertRecord e .raisedLate e.value e.raiseTime e.timeSet false t.alarms.length) t
      else t := by
  unfold takeSuppression
  rw [h]
  dsimp only
  rw [if_pos hraised]
  exact if_congr (by simp) rfl rfl

end Sys2Proof.Machine

section

open Sys2Proof Sys2Proof.Machine

/-- Settles O46. -/
theorem reportsChangeTheListAndSendAlerts : Obligations.ReportsChangeTheListAndSendAlerts := by
  intro r i v sup e s hlist entry rest record alert sent
  have hok := (listLawful_iff s).1 hlist
  have hsent (rec : List Byte) (t : State) : sent rec t = deliver rec t := by
    simp only [sent, deliver]
    cases t.tables.mgmt.sides <;> rfl
  refine ⟨?_, fun he hindex => ⟨?_, ?_, fun hraised => ?_⟩, fun hnone => ?_, fun e k n => ?_⟩
  · simp only [hsent]
    exact takeRaise_eq r s
  · subst hindex
    simp only [hsent]
    refine (takeClear_eq (entryOf_of_mem hok he)).trans ?_
    have hclear : clearEntry e s.alarms =
        if e.latching = true ∧ e.acknowledged = false then
          s.alarms.map (fun x => if x.index = e.index then { x with status := .cleared } else x)
        else rest e.index := if_congr (by simp) rfl rfl
    rw [hclear]
    rfl
  · subst hindex
    simp only [hsent]
    exact takeReconfigure_eq (entryOf_of_mem hok he)
  · subst hindex
    simp only [hsent]
    exact takeSuppression_eq (entryOf_of_mem hok he) hraised
  · unfold takeReconfigure
    rw [entryOf_absent hnone]
  · simp [record, bytesSigned, bytes32, bytes16]

end

/-! PROOF. O45: the row of an entry at a pass, and the list a pass leaves. -/

namespace Sys2Proof.Machine

/-! The row of an entry (R102). -/

/-- R102: an entry raises at a pass. -/
def raisesAt (c : Condition) (r : CondRun) (p : Point) : Bool :=
  !held c p && setTrue c p &&
    ((r.state == .clear && c.qualifySet == 1) || (r.state == .setPending && r.count + 1 == c.qualifySet))

/-- R102: an entry clears at a pass. -/
def clearsAt (c : Condition) (r : CondRun) (p : Point) : Bool :=
  !held c p && clearTrue c p &&
    ((r.state == .raised && c.qualifyClear == 1) || (r.state == .clearPending && r.count + 1 == c.qualifyClear))

/-- R102: the run of an entry after a pass that does not hold it. -/
def rowAfter (c : Condition) (r : CondRun) (p : Point) : CondRun :=
  if r.state = .idle then r
  else if r.state = .clear ∨ r.state = .setPending then
    if raisesAt c r p then ⟨.raised, 0⟩ else if setTrue c p then ⟨.setPending, r.count + 1⟩ else ⟨.clear, 0⟩
  else if clearsAt c r p then ⟨.clear, 0⟩ else if clearTrue c p then ⟨.clearPending, r.count + 1⟩ else ⟨.raised, 0⟩

theorem passRow_eq {c : Condition} {r : CondRun} {p : Point} (hvalid : c.valid = true) (h : r.lawful c) :
    passRow c r p =
      (if held c p then r else rowAfter c r p,
        if raisesAt c r p then .raises else if clearsAt c r p then .clears else .none) := by
  have hset : 1 ≤ c.qualifySet ∧ 1 ≤ c.qualifyClear := by
    simp only [Condition.valid, Bool.and_eq_true, decide_eq_true_eq] at hvalid
    omega
  obtain ⟨-, hpending, hclearing, hcount⟩ := h
  unfold passRow
  by_cases hheld : held c p = true
  · rw [if_pos hheld, if_pos hheld]
    simp [raisesAt, clearsAt, hheld]
  · rw [if_neg hheld, if_neg hheld]
    have hfree : held c p = false := Bool.eq_false_iff.2 hheld
    obtain ⟨state, count⟩ := r
    cases state with
    | idle => simp [rowAfter, raisesAt, clearsAt]
    | clear =>
      obtain rfl : count = 0 := hcount (by simp) (by simp)
      have hone : c.qualifySet ≤ 1 ↔ c.qualifySet = 1 := by omega
      by_cases hs : setTrue c p = true <;> by_cases hq : c.qualifySet = 1 <;>
        simp [rowAfter, raisesAt, clearsAt, hfree, hs, hq, hone]
    | setPending =>
      have hq' := hpending rfl
      have hone : c.qualifySet ≤ count + 1 ↔ count + 1 = c.qualifySet := by
        dsimp only at hq'
        omega
      by_cases hs : setTrue c p = true <;> by_cases hq : count + 1 = c.qualifySet <;>
        simp [rowAfter, raisesAt, clearsAt, hfree, hs, hq, hone]
    | raised =>
      obtain rfl : count = 0 := hcount (by simp) (by simp)
      have hone : c.qualifyClear ≤ 1 ↔ c.qualifyClear = 1 := by omega
      by_cases hs : clearTrue c p = true <;> by_cases hq : c.qualifyClear = 1 <;>
        simp [rowAfter, raisesAt, clearsAt, hfree, hs, hq, hone]
    | clearPending =>
      have hq' := hclearing rfl
      have hone : c.qualifyClear ≤ count + 1 ↔ count + 1 = c.qualifyClear := by
        dsimp only at hq'
        omega
      by_cases hs : clearTrue c p = true <;> by_cases hq : count + 1 = c.qualifyClear <;>
        simp [rowAfter, raisesAt, clearsAt, hfree, hs, hq, hone]

/-! The list after the reports of a pass (R121, R122). -/

/-- What a transition does to the entry its condition had. -/
def keptBy : Turn → Standing → Option Standing
  | .none, e => some e
  | .raises, _ => none
  | .clears, e => if e.latching && !e.acknowledged then some { e with status := .cleared } else none

/-- What the reports of these visits do to an entry. -/
def reported (l : List Visit) (e : Standing) : Option Standing :=
  ((l.find? fun v => v.index == e.index).map Visit.turn).elim (some e) (keptBy · e)

/-- The entries these visits raise. -/
def raisedBy (base : State) (all l : List Visit) (s : State) : List Standing :=
  (l.filter fun v => v.turn == .raises).map fun v =>
    standingOf ⟨v.index, v.entry, v.point.value, present base all v.entry.suppressor⟩ s

theorem keptBy_index {t : Turn} {e x : Standing} (h : keptBy t e = some x) : x.index = e.index := by
  cases t with
  | none => cases h; rfl
  | raises => cases h
  | clears =>
    unfold keptBy at h
    dsimp only at h
    split_ifs at h
    cases h
    rfl

theorem without_eq_filterMap (i : Nat) (l : List Standing) :
    without i l = l.filterMap fun e => if e.index = i then none else some e := by
  rw [without, ← List.filterMap_eq_filter]
  refine List.filterMap_congr fun e _ => ?_
  by_cases h : e.index = i <;> simp [Option.guard, h]

/-- R122: a clear acts on the one entry of its condition. -/
theorem clearEntry_eq {l : List Standing} {e : Standing} (h : ListOk l) (he : e ∈ l) :
    clearEntry e l = l.filterMap fun x => if x.index = e.index then keptBy .clears x else some x := by
  have hsame {x : Standing} (hx : x ∈ l) (hindex : x.index = e.index) : x = e := eq_of_index h.nodup hx he hindex
  unfold clearEntry
  by_cases hlatched : (e.latching && !e.acknowledged) = true
  · rw [if_pos hlatched, ← List.filterMap_eq_map]
    refine List.filterMap_congr fun x hx => ?_
    by_cases hindex : x.index = e.index
    · obtain rfl := hsame hx hindex
      simp [keptBy, hlatched]
    · simp [hindex]
  · rw [if_neg hlatched, without_eq_filterMap]
    refine List.filterMap_congr fun x hx => ?_
    by_cases hindex : x.index = e.index
    · obtain rfl := hsame hx hindex
      simp [keptBy, hlatched]
    · simp [hindex]

/-- R121, R122: the list after the report of one visit. -/
theorem takeVisit_alarms (sup : Bool) (v : Visit) {s : State} (h : ListOk s.alarms) :
    (takeVisit sup v s).alarms =
      (s.alarms.filterMap fun e => if e.index = v.index then keptBy v.turn e else some e) ++
        if v.turn = .raises then [standingOf ⟨v.index, v.entry, v.point.value, sup⟩ s] else [] := by
  unfold takeVisit
  cases hturn : v.turn with
  | raises =>
    dsimp only
    rw [takeRaise_alarms, if_pos rfl, without_eq_filterMap]
    rfl
  | none =>
    have hall : (s.alarms.filterMap fun e => if e.index = v.index then keptBy .none e else some e) = s.alarms := by
      rw [List.filterMap_congr (g := some) fun e _ => by split_ifs <;> rfl]
      exact List.filterMap_some
    rw [hall]
    simp
  | clears =>
    dsimp only
    rw [if_neg (by simp), List.append_nil]
    cases he : entryOf v.index s.alarms with
    | none =>
      rw [takeClear_of_none _ he, List.filterMap_congr (g := some) fun e hmem => if_neg (entryOf_none he e hmem)]
      exact List.filterMap_some.symm
    | some e =>
      obtain ⟨hmem, hindex⟩ := entryOf_some he
      rw [takeClear_of_some _ he, clearEntry_eq h hmem, hindex]

theorem find?_of_not_mem {l : List Visit} {i : Nat} (h : i ∉ l.map Visit.index) : (l.find? fun v => v.index == i) = none :=
  List.find?_eq_none.2 fun v hv hi => h (List.mem_map.2 ⟨v, hv, by simpa using hi⟩)

theorem reported_of_not_mem {l : List Visit} {e : Standing} (h : e.index ∉ l.map Visit.index) : reported l e = some e := by
  rw [reported, find?_of_not_mem h]
  rfl

theorem reported_cons {v : Visit} {l : List Visit} (hv : v.index ∉ l.map Visit.index) (e : Standing) :
    ((if e.index = v.index then keptBy v.turn e else some e).bind (reported l)) = reported (v :: l) e := by
  by_cases hindex : e.index = v.index
  · rw [if_pos hindex]
    have hhead : reported (v :: l) e = keptBy v.turn e := by
      rw [reported, List.find?_cons_of_pos (by simp [hindex])]
      rfl
    rw [hhead]
    cases hk : keptBy v.turn e with
    | none => rfl
    | some x => exact reported_of_not_mem (by rwa [keptBy_index hk, hindex])
  · rw [if_neg hindex, reported, List.find?_cons_of_neg (by simpa using Ne.symm hindex)]
    rfl

/-- R121, R122: the list after the reports of these visits. -/
theorem takeReports_alarms (base : State) (all : List Visit) {l : List Visit} {s : State} (hnodup : (l.map Visit.index).Nodup)
    (hbound : ∀ v ∈ l, v.index < 64) (h : ListOk s.alarms) :
    (takeReports base all l s).alarms = s.alarms.filterMap (reported l) ++ raisedBy base all l s := by
  induction l generalizing s with
  | nil =>
    have hall : s.alarms.filterMap (reported []) = s.alarms := List.filterMap_some
    rw [hall]
    exact (List.append_nil _).symm
  | cons v l ih =>
    rw [List.map_cons, List.nodup_cons] at hnodup
    obtain ⟨hv, hrest⟩ := hnodup
    let s1 := takeVisit (present base all v.entry.suppressor) v s
    have hagent : s1.agent = s.agent := by simp [s1]
    have htail := ih (s := s1) hrest (fun w hw => hbound w (List.mem_cons_of_mem v hw))
      (takeVisit_spec _ v (hbound v List.mem_cons_self) h).1
    have hnew : raisedBy base all l s1 = raisedBy base all l s := by
      unfold raisedBy standingOf
      rw [hagent]
    refine htail.trans ?_
    rw [takeVisit_alarms _ v h, hnew, List.filterMap_append, List.filterMap_filterMap,
      List.filterMap_congr fun e _ => reported_cons hv e, List.append_assoc]
    congr 1
    unfold raisedBy
    by_cases hraises : v.turn = .raises
    · rw [if_pos hraises, List.filter_cons_of_pos (by simp [hraises]), List.filterMap_cons_some (reported_of_not_mem hv)]
      rfl
    · rw [if_neg hraises, List.filter_cons_of_neg (by simpa using hraises)]
      rfl

/-! The suppressed states (R124). -/

/-- What the suppressed states of these visits make of an entry. -/
def suppressedBy (base : State) (all l : List Visit) (x : Standing) : Standing :=
  (l.find? fun v => v.index == x.index).elim x fun v =>
    if v.run.stands = true ∧ x.status = .raised then
      { x with
        suppressed := present base all v.entry.suppressor, withheld := x.withheld && present base all v.entry.suppressor }
    else x

theorem map_fixed {f : Standing → Standing} {l : List Standing} (h : ∀ x ∈ l, f x = x) : l.map f = l :=
  (List.map_congr_left (g := id) h).trans (List.map_id l)

theorem takeSuppression_alarms_eq (i : Nat) (sup : Bool) {s : State} (h : ListOk s.alarms) :
    (takeSuppression i sup s).alarms =
      s.alarms.map fun x =>
        if x.index = i ∧ x.status = .raised then { x with suppressed := sup, withheld := x.withheld && sup } else x := by
  cases he : entryOf i s.alarms with
  | none =>
    have hnone : takeSuppression i sup s = s := by
      unfold takeSuppression
      rw [he]
    rw [hnone]
    exact (map_fixed fun x hx => if_neg fun hxi => entryOf_none he x hx hxi.1).symm
  | some e =>
    obtain ⟨hmem, rfl⟩ := entryOf_some he
    have hsame {x : Standing} (hx : x ∈ s.alarms) (hindex : x.index = e.index) : x = e := eq_of_index h.nodup hx hmem hindex
    by_cases hraised : e.status = .raised
    · rw [takeSuppression_eq he hraised]
      have halarms : ∀ x ∈ s.alarms, Standing.suppress e.index sup x =
          if x.index = e.index ∧ x.status = .raised then { x with suppressed := sup, withheld := x.withheld && sup } else x := by
        intro x hx
        unfold Standing.suppress
        refine if_congr ⟨fun hindex => ⟨hindex, ?_⟩, And.left⟩ rfl rfl
        rwa [hsame hx hindex]
      rw [← List.map_congr_left halarms]
      dsimp only
      split_ifs <;> rfl
    · have hnone : takeSuppression e.index sup s = s := by
        unfold takeSuppression
        rw [he]
        exact if_neg hraised
      rw [hnone]
      refine (map_fixed fun x hx => if_neg ?_).symm
      rintro ⟨hindex, hx'⟩
      exact hraised (hsame hx hindex ▸ hx')

theorem takeSuppressions_alarms (base : State) (all : List Visit) {l : List Visit} {s : State}
    (hnodup : (l.map Visit.index).Nodup) (h : ListOk s.alarms) :
    (takeSuppressions base all l s).alarms = s.alarms.map (suppressedBy base all l) := by
  induction l generalizing s with
  | nil => exact (List.map_id _).symm
  | cons v l ih =>
    rw [List.map_cons, List.nodup_cons] at hnodup
    obtain ⟨hv, hrest⟩ := hnodup
    let sup := present base all v.entry.suppressor
    let one (x : Standing) : Standing :=
      if v.run.stands = true ∧ x.index = v.index ∧ x.status = .raised then
        { x with suppressed := sup, withheld := x.withheld && sup }
      else x
    have hone : (if v.run.stands then takeSuppression v.index sup s else s).alarms = s.alarms.map one := by
      by_cases hstands : v.run.stands = true
      · rw [if_pos hstands, takeSuppression_alarms_eq _ _ h]
        exact List.map_congr_left fun x _ => by simp only [one, hstands, true_and]
      · rw [if_neg hstands]
        exact (map_fixed fun x _ => if_neg fun hx => hstands hx.1).symm
    have hok : ListOk (if v.run.stands then takeSuppression v.index sup s else s).alarms := by
      split_ifs
      · exact (takeSuppression_keeps _ _ s).1 h
      · exact h
    refine (ih hrest hok).trans ?_
    rw [hone, List.map_map]
    refine List.map_congr_left fun x _ => ?_
    show suppressedBy base all l (one x) = suppressedBy base all (v :: l) x
    have hindex : (one x).index = x.index := by
      simp only [one]
      split_ifs <;> rfl
    by_cases hx : x.index = v.index
    · have hnone : suppressedBy base all l (one x) = one x := by
        rw [suppressedBy, find?_of_not_mem (by rwa [hindex, hx])]
        rfl
      rw [hnone, suppressedBy, List.find?_cons_of_pos (by simp [hx])]
      exact if_congr (by simp [hx]) rfl rfl
    · have hsame : one x = x := if_neg fun h => hx h.2.1
      rw [hsame, suppressedBy, suppressedBy, List.find?_cons_of_neg (by simpa using Ne.symm hx)]

end Sys2Proof.Machine

/-! PROOF. O45: a pass. -/

namespace Sys2Proof.Machine

/-! The pulses of a pass (R115, R158). -/

/-- R115: a visit asks for a pulse on an output. -/
def asksPulse (o : Nat) (v : Visit) : Bool := v.turn == .raises && v.entry.action == .pulse o

/-- What a pulse is made of: the base levels, the clock and the pulses in progress. -/
theorem pulseRequest_spec (o : Nat) (s : State) :
    (pulseRequest o s).now = s.now ∧ (pulseRequest o s).baseLevel = s.baseLevel ∧
      (pulseRequest o s).outputs.pulses =
        if s.outputs.pulses.getD o none = none then s.outputs.pulses.set o (some ⟨!s.baseLevel o, s.now + 1000000⟩)
        else s.outputs.pulses := by
  unfold pulseRequest
  cases h : s.outputs.pulses.getD o none with
  | some x => exact ⟨rfl, rfl, rfl⟩
  | none => exact ⟨rfl, rfl, rfl⟩

theorem pulseOf_spec {o : Nat} (ho : o < 7) (v : Visit) {s : State} (hlength : s.outputs.pulses.length = 7) :
    (pulseOf v s).now = s.now ∧ (pulseOf v s).baseLevel = s.baseLevel ∧ (pulseOf v s).outputs.pulses.length = 7 ∧
      (pulseOf v s).outputs.pulses.getD o none =
        if s.outputs.pulses.getD o none = none ∧ asksPulse o v = true then some ⟨!s.baseLevel o, s.now + 1000000⟩
        else s.outputs.pulses.getD o none := by
  have hquiet (h : asksPulse o v = false) (hv : pulseOf v s = s) :
      (pulseOf v s).now = s.now ∧ (pulseOf v s).baseLevel = s.baseLevel ∧ (pulseOf v s).outputs.pulses.length = 7 ∧
        (pulseOf v s).outputs.pulses.getD o none =
          if s.outputs.pulses.getD o none = none ∧ asksPulse o v = true then some ⟨!s.baseLevel o, s.now + 1000000⟩
          else s.outputs.pulses.getD o none := by
    rw [hv, if_neg (by simp [h])]
    exact ⟨rfl, rfl, hlength, rfl⟩
  by_cases hraises : v.turn = .raises
  · cases haction : v.entry.action with
    | pulse n =>
      have hv : pulseOf v s = pulseRequest n s := by
        unfold pulseOf
        rw [hraises, haction]
      obtain ⟨hnow, hbase, hpulses⟩ := pulseRequest_spec n s
      have hasks : asksPulse o v = true ↔ o = n := by
        rw [asksPulse, hraises, haction]
        simpa using eq_comm
      rw [hv, hnow, hbase, hpulses]
      refine ⟨rfl, rfl, ?_, ?_⟩
      · split_ifs <;> simp [hlength]
      · by_cases hn : o = n
        · subst hn
          by_cases hfree : s.outputs.pulses.getD o none = none
          · rw [if_pos hfree, if_pos ⟨hfree, hasks.2 rfl⟩, getD_set_self (by omega)]
          · rw [if_neg hfree, if_neg fun h => hfree h.1]
        · rw [if_neg fun h : _ ∧ asksPulse o v = true => hn (hasks.1 h.2)]
          split_ifs
          · rw [List.getD_eq_getElem?_getD, List.getElem?_set_ne (Ne.symm hn), ← List.getD_eq_getElem?_getD]
          · rfl
    | none | shed | reduce | output =>
      refine hquiet (by simp [asksPulse, haction]) ?_
      unfold pulseOf
      rw [hraises, haction]
  · refine hquiet (by simp [asksPulse, hraises]) ?_
    unfold pulseOf
    cases hturn : v.turn <;> simp_all

theorem takePulses_spec {o : Nat} (ho : o < 7) (l : List Visit) {s : State} (hlength : s.outputs.pulses.length = 7) :
    (takePulses l s).outputs.pulses.getD o none =
      if s.outputs.pulses.getD o none = none ∧ l.any (asksPulse o) = true then some ⟨!s.baseLevel o, s.now + 1000000⟩
      else s.outputs.pulses.getD o none := by
  induction l generalizing s with
  | nil => simp [takePulses]
  | cons v l ih =>
    obtain ⟨hnow, hbase, hlen, hpulse⟩ := pulseOf_spec ho v hlength
    rw [takePulses, ih hlen, hpulse, hnow, hbase, List.any_cons]
    generalize s.outputs.pulses.getD o none = q
    cases q <;> cases asksPulse o v <;> simp

/-! The list after a whole pass (R108, R120 to R124). -/

theorem visits_find (s : State) {k : Nat} (hk : k < 64) : ((visits s).find? fun v => v.index == k) = some (visit s k) := by
  cases h : (visits s).find? fun v => v.index == k with
  | none => exact absurd (beq_self_eq_true k) (List.find?_eq_none.1 h (visit s k) (List.mem_map_of_mem (List.mem_range.2 hk)))
  | some v =>
    obtain ⟨j, -, rfl⟩ := mem_visits (List.mem_of_find?_eq_some h)
    have hj : j = k := beq_iff_eq.1 (List.find?_some h :)
    rw [hj]

theorem reported_visits (s : State) {e : Standing} (h : e.index < 64) :
    reported (visits s) e = keptBy (visit s e.index).turn e := by
  rw [reported, visits_find s h]
  rfl

theorem suppressedBy_visits (base s : State) (all : List Visit) {x : Standing} (h : x.index < 64) :
    suppressedBy base all (visits s) x =
      if (visit s x.index).run.stands = true ∧ x.status = .raised then
        { x with
          suppressed := present base all (s.tables.condition x.index).suppressor,
          withheld := x.withheld && present base all (s.tables.condition x.index).suppressor }
      else x := by
  rw [suppressedBy, visits_find s h]
  rfl

theorem suppressedBy_rest (base : State) (all l : List Visit) (x : Standing) :
    (suppressedBy base all l x).index = x.index ∧ (suppressedBy base all l x).status = x.status ∧
      (suppressedBy base all l x).latching = x.latching ∧ (suppressedBy base all l x).acknowledged = x.acknowledged := by
  unfold suppressedBy
  cases l.find? fun v => v.index == x.index with
  | none => exact ⟨rfl, rfl, rfl, rfl⟩
  | some v =>
    rw [Option.elim_some]
    split_ifs <;> exact ⟨rfl, rfl, rfl, rfl⟩

/-- R121: the entry of a condition that raises at a pass. -/
def raisedEntry (s : State) (i : Nat) : Standing :=
  standingOf ⟨i, s.tables.condition i, (s.point (s.tables.condition i).point).value,
    present s (visits s) (s.tables.condition i).suppressor⟩ s

theorem raisedBy_visits (s : State) (runs : List CondRun) :
    raisedBy s (visits s) (visits s) (s.withRuns runs) =
      ((List.range 64).filter fun i => (visit s i).turn == .raises).map (raisedEntry s) := by
  unfold raisedBy
  rw [show visits s = (List.range 64).map (visit s) from rfl, List.filter_map, List.map_map]
  rfl

/-- R108: the list after a pass. -/
theorem takePass_list {s : State} (h : ListOk s.alarms) :
    (takePass s).alarms =
      (s.alarms.filterMap (reported (visits s)) ++
        ((List.range 64).filter fun i => (visit s i).turn == .raises).map (raisedEntry s)).map
          (suppressedBy s (visits s) (visits s)) := by
  have hnodup : ((visits s).map Visit.index).Nodup := visits_index s ▸ List.nodup_range
  have hreports := takeReports_alarms s (visits s) (s := s.withRuns ((visits s).map Visit.run)) hnodup
    (fun _ hv => visits_bound hv) h
  have halarms : (handOutputs (takePulses (visits s)
      (takeReports s (visits s) (visits s) (s.withRuns ((visits s).map Visit.run))))).alarms =
      (takeReports s (visits s) (visits s) (s.withRuns ((visits s).map Visit.run))).alarms := by
    simp only [handOutputs_frame, takePulses_frame]
  rw [takePass_eq]
  dsimp only
  rw [takeSuppressions_alarms _ _ hnodup (halarms ▸ passReports_listOk h), halarms, hreports, raisedBy_visits]
  rfl

/-! The transitions of a pass. -/

theorem handOutputs_pulses (s : State) : (handOutputs s).outputs.pulses = s.outputs.pulses := by
  rw [handOutputs_eq]
  have hreact (before u : State) : (reactBoth before u).outputs = u.outputs := by simp only [reactBoth_frame]
  show (reactBoth _ _).outputs.pulses = _
  rw [hreact]
  exact recomputeShed_pulses _

/-- The pulses after a pass (R115, R158). -/
theorem takePass_pulses {s : State} (hlength : s.outputs.pulses.length = 7) {o : Nat} (ho : o < 7) :
    (takePass s).outputs.pulses.getD o none =
      if s.outputs.pulses.getD o none = none ∧ (visits s).any (asksPulse o) = true then
        some ⟨!s.baseLevel o, s.now + 1000000⟩
      else s.outputs.pulses.getD o none := by
  rw [takePass_eq]
  generalize visits s = vs
  obtain ⟨u, hu⟩ : ∃ u, u = takeReports s vs vs (s.withRuns (vs.map Visit.run)) := ⟨_, rfl⟩
  have hframe : u.outputs = s.outputs ∧ u.now = s.now ∧ u.agent = s.agent ∧ u.supply = s.supply ∧
      u.engine = { s.engine with runs := vs.map Visit.run } := by
    subst hu
    simp only [takeReports_frame, State.withRuns, and_self]
  obtain ⟨houtputs, hnow, hagent, hsupply, hengine⟩ := hframe
  have hbase : u.baseLevel = s.baseLevel := by
    funext o
    unfold State.baseLevel
    rw [houtputs, hagent, hsupply, hengine]
  have hpulses := takePulses_spec ho vs (houtputs.symm ▸ hlength : u.outputs.pulses.length = 7)
  rw [hbase, houtputs, hnow] at hpulses
  dsimp only
  have houtputs' (u : State) : (takeSuppressions s vs vs u).outputs = u.outputs := by simp only [takeSuppressions_frame]
  rw [← hpulses, ← hu, houtputs', handOutputs_pulses]

/-- The points a pass writes (R109, R116). -/
theorem takePass_pointsOnly (s : State) : pointsOnly [39, 41, 42] s (takePass s) := by
  rw [takePass_eq]
  generalize visits s = vs
  intro i hi
  have h := handOutputs_pointsOnly (takePulses vs (takeReports s vs vs (s.withRuns (vs.map Visit.run)))) i hi
  unfold State.point at h ⊢
  simp only [takeSuppressions_frame]
  rw [h]
  simp only [takePulses_frame, takeReports_frame, State.withRuns]

/-- R110: a condition suppresses while it stands after the rows of the pass. -/
theorem present_condition (s : State) {n : Nat} (h : n < 64) :
    present s (visits s) (.condition n) = (visit s n).run.stands := by
  show (((visits s).map Visit.run).getD n ⟨.idle, 0⟩).stands = _
  rw [visits_run s h]

theorem visit_eq {s : State} {i : Nat} (hvalid : (s.tables.condition i).valid = true)
    (h : (s.engine.run i).lawful (s.tables.condition i)) :
    (visit s i).run =
        (if held (s.tables.condition i) (s.point (s.tables.condition i).point) then s.engine.run i
        else rowAfter (s.tables.condition i) (s.engine.run i) (s.point (s.tables.condition i).point)) ∧
      (visit s i).turn =
        if raisesAt (s.tables.condition i) (s.engine.run i) (s.point (s.tables.condition i).point) then .raises
        else if clearsAt (s.tables.condition i) (s.engine.run i) (s.point (s.tables.condition i).point) then .clears
        else .none :=
  Prod.mk.inj (passRow_eq hvalid h)

theorem raisesAt_stands {c : Condition} {r : CondRun} {p : Point} (h : raisesAt c r p = true) : r.stands = false := by
  unfold raisesAt at h
  unfold CondRun.stands
  cases hs : r.state <;> simp [hs] at h ⊢

theorem clearsAt_stands {c : Condition} {r : CondRun} {p : Point} (h : clearsAt c r p = true) : r.stands = true := by
  unfold clearsAt at h
  unfold CondRun.stands
  cases hs : r.state <;> simp [hs] at h ⊢

theorem turn_iff {s : State} {i : Nat} (hvalid : (s.tables.condition i).valid = true)
    (h : (s.engine.run i).lawful (s.tables.condition i)) :
    ((visit s i).turn = .raises ↔
        raisesAt (s.tables.condition i) (s.engine.run i) (s.point (s.tables.condition i).point) = true) ∧
      ((visit s i).turn = .clears ↔
        clearsAt (s.tables.condition i) (s.engine.run i) (s.point (s.tables.condition i).point) = true) := by
  rw [(visit_eq hvalid h).2]
  by_cases hraises : raisesAt (s.tables.condition i) (s.engine.run i) (s.point (s.tables.condition i).point) = true
  · have hclears : clearsAt (s.tables.condition i) (s.engine.run i) (s.point (s.tables.condition i).point) = false :=
      Bool.eq_false_iff.2 fun hc => absurd (clearsAt_stands hc) (by simp [raisesAt_stands hraises])
    simp [hraises, hclears]
  · rw [if_neg hraises]
    split_ifs with hc <;> simp [hraises, hc]

end Sys2Proof.Machine

/-! PROOF. O45: a pass moves every condition, its list entry and the engine's outputs. -/

namespace Sys2Proof.Machine

/-- What a pass rests on: a lawful list that follows lawful runs of valid entries. -/
structure State.PassReady (s : State) : Prop where
  list : ListOk s.alarms
  follows : s.Follows
  valid : ∀ i < 64, (s.tables.condition i).valid = true

/-- The new entry already has the suppressed state of the pass. -/
theorem suppressedBy_raisedEntry (s : State) {i : Nat} (hi : i < 64) :
    suppressedBy s (visits s) (visits s) (raisedEntry s i) = raisedEntry s i := by
  rw [suppressedBy_visits s s _ (show (raisedEntry s i).index < 64 from hi)]
  split_ifs
  · simp [raisedEntry, standingOf]
  · rfl

section
variable {s : State} (h : s.PassReady)
include h

theorem stands_of_raised {e : Standing} (he : e ∈ s.alarms) (hs : e.status = .raised) : (s.engine.run e.index).stands = true := by
  rw [← h.follows.listed e.index (h.list.index e he)]
  exact raisedIn_iff.2 ⟨e, he, rfl, hs⟩

theorem raised_of_stands {e : Standing} (he : e ∈ s.alarms) (hs : (s.engine.run e.index).stands = true) : e.status = .raised := by
  rw [← h.follows.listed e.index (h.list.index e he)] at hs
  obtain ⟨x, hx, hindex, hraised⟩ := raisedIn_iff.1 hs
  rwa [← eq_of_index h.list.nodup hx he hindex]

/-- R102: whether a condition stands after the pass. -/
theorem visit_stands {i : Nat} (hi : i < 64) : (visit s i).run.stands = (visit s i).turn.after (s.engine.run i).stands :=
  (passRow_spec (s.point (s.tables.condition i).point) (h.follows.lawful i hi)).2

theorem raises_iff {i : Nat} (hi : i < 64) : (visit s i).turn = .raises ↔
    raisesAt (s.tables.condition i) (s.engine.run i) (s.point (s.tables.condition i).point) = true :=
  (turn_iff (h.valid i hi) (h.follows.lawful i hi)).1

theorem clears_iff {i : Nat} (hi : i < 64) : (visit s i).turn = .clears ↔
    clearsAt (s.tables.condition i) (s.engine.run i) (s.point (s.tables.condition i).point) = true :=
  (turn_iff (h.valid i hi) (h.follows.lawful i hi)).2

/-- R108: an entry of the list after a pass is one the pass kept or one it raised. -/
theorem mem_takePass {x : Standing} :
    x ∈ (takePass s).alarms ↔
      (∃ e ∈ s.alarms, ∃ y, keptBy (visit s e.index).turn e = some y ∧ suppressedBy s (visits s) (visits s) y = x) ∨
        ∃ i < 64, (visit s i).turn = .raises ∧ x = raisedEntry s i := by
  rw [takePass_list h.list, List.map_append, List.mem_append]
  refine or_congr ?_ ?_
  · simp only [List.mem_map, List.mem_filterMap]
    constructor
    · rintro ⟨y, ⟨e, he, hy⟩, rfl⟩
      exact ⟨e, he, y, by rwa [← reported_visits s (h.list.index e he)], rfl⟩
    · rintro ⟨e, he, y, hy, rfl⟩
      exact ⟨y, ⟨e, he, by rwa [reported_visits s (h.list.index e he)]⟩, rfl⟩
  · simp only [List.mem_map, List.mem_filter, List.mem_range, beq_iff_eq]
    constructor
    · rintro ⟨_, ⟨i, ⟨hi, hturn⟩, rfl⟩, rfl⟩
      exact ⟨i, hi, hturn, suppressedBy_raisedEntry s hi⟩
    · rintro ⟨i, hi, hturn, rfl⟩
      exact ⟨_, ⟨i, ⟨hi, hturn⟩, rfl⟩, suppressedBy_raisedEntry s hi⟩

/-- R124: an entry that goes on standing takes the suppressed state of the pass. -/
theorem pass_standing {e : Standing} (he : e ∈ s.alarms) (hs : e.status = .raised) (hturn : (visit s e.index).turn ≠ .clears) :
    { e with
      suppressed := present s (visits s) (s.tables.condition e.index).suppressor,
      withheld := e.withheld && present s (visits s) (s.tables.condition e.index).suppressor } ∈ (takePass s).alarms := by
  have hi := h.list.index e he
  have hbefore := stands_of_raised h he hs
  have hnone : (visit s e.index).turn = .none := by
    cases hv : (visit s e.index).turn with
    | none => rfl
    | clears => exact absurd hv hturn
    | raises => exact absurd (raisesAt_stands ((raises_iff h hi).1 hv)) (by simp [hbefore])
  have hafter : (visit s e.index).run.stands = true := by
    rw [visit_stands h hi, hnone]
    exact hbefore
  refine (mem_takePass h).2 (.inl ⟨e, he, e, by rw [hnone]; rfl, ?_⟩)
  rw [suppressedBy_visits s s _ hi, if_pos ⟨hafter, hs⟩]

/-- R122: a latching entry that was not acknowledged stays CLEARED in the list. -/
theorem pass_latched {e : Standing} (he : e ∈ s.alarms) (hturn : (visit s e.index).turn = .clears) (hlatching : e.latching = true)
    (hack : e.acknowledged = false) : { e with status := .cleared } ∈ (takePass s).alarms := by
  refine (mem_takePass h).2 (.inl ⟨e, he, { e with status := .cleared }, ?_, ?_⟩)
  · rw [hturn]
    exact if_pos (by simp [hlatching, hack])
  · exact (suppressedBy_visits s s _ (x := { e with status := .cleared }) (h.list.index e he)).trans (if_neg (by simp))

/-- R122: a CLEARED entry stays until its condition raises again. -/
theorem pass_cleared {e : Standing} (he : e ∈ s.alarms) (hs : e.status = .cleared) (hturn : (visit s e.index).turn ≠ .raises) :
    e ∈ (takePass s).alarms := by
  have hi := h.list.index e he
  have hnone : (visit s e.index).turn = .none := by
    cases hv : (visit s e.index).turn with
    | none => rfl
    | raises => exact absurd hv hturn
    | clears =>
      have hraised := raised_of_stands h he (clearsAt_stands ((clears_iff h hi).1 hv))
      exact absurd (hs.symm.trans hraised) (by simp)
  refine (mem_takePass h).2 (.inl ⟨e, he, e, by rw [hnone]; rfl, ?_⟩)
  rw [suppressedBy_visits s s _ hi, if_neg (by simp [hs])]

/-- R122: what the list holds of a condition that cleared at the pass. -/
theorem pass_afterClear {x : Standing} (hx : x ∈ (takePass s).alarms) (hturn : (visit s x.index).turn = .clears) :
    x.status = .cleared ∧ x.latching = true ∧ x.acknowledged = false := by
  rcases (mem_takePass h).1 hx with ⟨e, -, y, hy, rfl⟩ | ⟨i, -, hi, rfl⟩
  · obtain ⟨hindex, hstatus, hlatching, hack⟩ := suppressedBy_rest s (visits s) (visits s) y
    rw [hindex, keptBy_index hy] at hturn
    rw [hturn] at hy
    rw [hstatus, hlatching, hack]
    unfold keptBy at hy
    dsimp only at hy
    split_ifs at hy with hlatch
    cases hy
    exact ⟨rfl, by simpa using hlatch⟩
  · exact absurd (hi.symm.trans hturn) (by simp)

/-- R120 to R122: the conditions of the list after a pass, in its order. -/
theorem pass_indices :
    (takePass s).alarms.map Standing.index =
      (s.alarms.filter fun e => !((visit s e.index).turn == .raises) &&
        !((visit s e.index).turn == .clears && !(e.latching && !e.acknowledged))).map Standing.index ++
        (List.range 64).filter fun i => (visit s i).turn == .raises := by
  have hindex : Standing.index ∘ suppressedBy s (visits s) (visits s) = Standing.index :=
    funext fun x => (suppressedBy_rest s (visits s) (visits s) x).1
  rw [takePass_list h.list, List.map_map, hindex, List.map_append, List.map_map]
  congr 1
  · rw [List.map_filterMap, ← List.filterMap_eq_map, List.filterMap_filter]
    refine List.filterMap_congr fun e he => ?_
    rw [reported_visits s (h.list.index e he)]
    cases (visit s e.index).turn with
    | none => rfl
    | raises => rfl
    | clears =>
      by_cases hlatch : (e.latching && !e.acknowledged) = true <;> simp [keptBy, hlatch]
  · exact List.map_id _

end

end Sys2Proof.Machine

namespace Sys2Proof.Machine

theorem passDue_changesOnly (t : Nat) (s : State) : changesOnly [.now, .engine] s (passDue t s) := by
  intro p hp; cases p <;> simp_all [Part.same, passDue]

theorem takePass_passAt (s : State) : (takePass s).engine.passAt = s.engine.passAt := by
  rw [takePass_eq]
  generalize visits s = vs
  have hengine (u : State) : (takeSuppressions s vs vs u).engine = u.engine := by simp only [takeSuppressions_frame]
  dsimp only
  rw [hengine, handOutputs_engine]
  simp only [takePulses_frame, takeReports_frame, State.withRuns]

theorem asksPulse_visits {s : State} (h : s.PassReady) (o : Nat) :
    (visits s).any (asksPulse o) =
      (List.range 64).any fun i =>
        raisesAt (s.tables.condition i) (s.engine.run i) (s.point (s.tables.condition i).point) &&
          (s.tables.condition i).action == .pulse o := by
  rw [visits, List.any_map, Bool.eq_iff_iff, List.any_eq_true, List.any_eq_true]
  refine exists_congr fun i => and_congr_right fun hi => ?_
  have hraises := raises_iff h (List.mem_range.1 hi)
  simp only [Function.comp_apply, asksPulse, Bool.and_eq_true, beq_iff_eq]
  exact and_congr_left fun _ => hraises

end Sys2Proof.Machine

section
open Sys2Proof Sys2Proof.Machine

/-- Settles O45. -/
theorem passMovesEveryCondition : Obligations.PassMovesEveryCondition := by
  intro due k s hdue htables hlist hengine c r p holds raises clears moved suppressed
  obtain ⟨⟨-, -, -, -, -, ⟨-, hconds⟩, -⟩, -⟩ := htables
  have hready : s.PassReady :=
    ⟨(listLawful_iff s).1 hlist, ((engineLawful_iff s).1 hengine).1, fun i hi => (hconds i (List.mem_range.2 hi)).1⟩
  obtain ⟨s', hs'⟩ : ∃ s', s' = passDue due s := ⟨_, rfl⟩
  have hready' : s'.PassReady := hs' ▸ ⟨hready.list, ⟨hready.follows.conds, hready.follows.runs, hready.follows.lawful,
    hready.follows.listed, ⟨hready.follows.hands.shedRequest, hready.follows.hands.reduce, hready.follows.hands.outRequest⟩⟩,
    hready.valid⟩
  have hraises {i : Nat} (hi : i < 64) : (visit s i).turn = .raises ↔ raises i = true := raises_iff hready hi
  have hclears {i : Nat} (hi : i < 64) : (visit s i).turn = .clears ↔ clears i = true := clears_iff hready hi
  have hvisit (i : Nat) : visit s' i = visit s i := hs' ▸ rfl
  have hmoved {i : Nat} (hi : i < 64) : (visit s i).run = moved i := by
    rw [(visit_eq (hready.valid i hi) (hready.follows.lawful i hi)).1]
    unfold rowAfter
    simp only [moved]
    refine if_congr Iff.rfl rfl ?_
    cases hstate : (s.engine.run i).state with
    | idle => simp [r]
    | clear | setPending =>
      simp only [r, reduceCtorEq, or_true, true_or, if_true, if_false]
      rfl
    | raised | clearPending =>
      simp only [r, reduceCtorEq, or_self, if_false]
      rfl
  have hsuppressed {i : Nat} (hi : i < 64) : present s' (visits s') (c i).suppressor = suppressed i := by
    have hgood : (c i).suppressor.good i = true := (hconds i (List.mem_range.2 hi)).2.2.2.2.2.1
    simp only [suppressed]
    cases hsup : (c i).suppressor with
    | none => rfl
    | condition n =>
      rw [hsup, Suppressor.good, decide_eq_true_eq] at hgood
      have hn : n < 64 := by omega
      rw [present_condition s' hn, hvisit, hmoved hn]
      rfl
    | ufm x => cases x <;> exact hs' ▸ rfl
    | lost x => cases x <;> exact hs' ▸ rfl
  obtain ⟨-, hruns, hhands⟩ := takePass_engine s'
  have hnow : (takePass s').now = max s.now due := by
    rw [(takePass_frame s').1, hs']
    rfl
  have hentry : ∀ i < 64, raisedEntry s' i =
      { index := i, severity := (c i).severity, point := (c i).point, latching := (c i).latching, report := (c i).report,
        raiseTime := s.agent.hutTime, timeSet := s.agent.timeSet, value := (p i).value, status := .raised,
        acknowledged := false, suppressed := suppressed i, withheld := (c i).report && suppressed i } := by
    intro i hi
    rw [← hsuppressed hi, hs']
    rfl
  refine ⟨takePass s', ?_, hnow, ?_, ?_, ?_, ?_, ?_, ?_, ?_, ?_, ?_, ?_, ?_, hhands.shedRequest, hhands.reduce .ab,
    hhands.reduce .ba, hhands.outRequest, ?_, ?_⟩
  · show execPass s = _
    unfold execPass
    rw [hdue, hs']
  · rw [takePass_passAt, hs']
    rfl
  · show execQualifySetReached k s = _
    unfold execQualifySetReached
    rw [hdue, hs']
    exact congrArg Host.Outcome.next (if_congr (hraises k.isLt) rfl rfl)
  · show execQualifyClearReached k s = _
    unfold execQualifyClearReached
    rw [hdue, hs']
    exact congrArg Host.Outcome.next (if_congr (hclears k.isLt) rfl rfl)
  · intro i hi
    rw [Engine.run, hruns, visits_run s' hi, hvisit, hmoved hi]
  · intro i hi hr
    refine ⟨raisedEntry s' i, (mem_takePass hready').2 (.inr ⟨i, hi, (hvisit i).symm ▸ (hraises hi).2 hr, rfl⟩), ?_⟩
    rw [hentry i hi]
    exact ⟨rfl, rfl, rfl, rfl, rfl, rfl, rfl, rfl, rfl, rfl, rfl, rfl⟩
  · intro e he hs hc
    have hi := hready.list.index e he
    have hmem := pass_standing hready' (hs' ▸ he : e ∈ s'.alarms) hs
      fun hturn => Bool.eq_false_iff.1 hc ((hclears hi).1 (hvisit _ ▸ hturn))
    have htab : s'.tables = s.tables := hs' ▸ rfl
    rw [htab, hsuppressed hi] at hmem
    exact hmem
  · intro e he _ hc hlatching hack
    exact pass_latched hready' (hs' ▸ he : e ∈ s'.alarms)
      ((hvisit _).symm ▸ (hclears (hready.list.index e he)).2 hc) hlatching hack
  · intro e he hs hr
    exact pass_cleared hready' (hs' ▸ he : e ∈ s'.alarms) hs
      fun hturn => Bool.eq_false_iff.1 hr ((hraises (hready.list.index e he)).1 (hvisit _ ▸ hturn))
  · intro hlength o ho
    have hpulses := takePass_pulses (hs' ▸ hlength : s'.outputs.pulses.length = 7) ho
    rw [asksPulse_visits hready'] at hpulses
    rw [(takePass_frame s').1, hpulses, hs']
    rfl
  · intro e he hc
    have hi := (takePass_listOk hready'.list).index e he
    exact pass_afterClear hready' he ((hvisit _).symm ▸ (hclears hi).2 hc)
  · rw [pass_indices hready']
    have halarms : s'.alarms = s.alarms := hs' ▸ rfl
    rw [halarms]
    have hr {i : Nat} (hi : i < 64) : ((visit s' i).turn == .raises) = raises i := by
      rw [Bool.eq_iff_iff, beq_iff_eq, hvisit, hraises hi]
    have hcl {i : Nat} (hi : i < 64) : ((visit s' i).turn == .clears) = clears i := by
      rw [Bool.eq_iff_iff, beq_iff_eq, hvisit, hclears hi]
    congr 1
    · refine congrArg _ (List.filter_congr fun e he => ?_)
      rw [hr (hready.list.index e he), hcl (hready.list.index e he)]
    · exact List.filter_congr fun i hi => hr (List.mem_range.1 hi)
  · exact ((hs' ▸ passDue_changesOnly due s : changesOnly [.now, .engine] s s').trans (takePass_changesOnly s')
      (by decide) (by decide))
  · intro i hi
    rw [takePass_pointsOnly s' i hi, hs']
    rfl

end

/-! PROOF. O33, O34: what the EEPROM holds while a store runs, and what its ends leave there. -/

namespace Sys2Proof.Machine

/-! Reads of consecutive bytes. -/

theorem readBytes_congr {m m' : List Host.Cell} {a n : Nat} (h : ∀ x, a ≤ x → x < a + n → readByte m' x = readByte m x) :
    readBytes m' a n = readBytes m a n :=
  List.map_congr_left fun i hi => h (a + i) (Nat.le_add_right a i) (Nat.add_lt_add_left (List.mem_range.1 hi) a)

theorem readBytes_writeBytes_self {m : List Host.Cell} (hm : canonical m = true) (a : Nat) (l : List Byte) :
    readBytes (writeBytes m a l) a l.length = l := by
  refine List.ext_getElem (by simp [readBytes]) fun j h1 h2 => ?_
  simpa [readBytes] using readByte_writeBytes_inside m a l j h2 hm

theorem readBytes_take (m : List Host.Cell) (a : Nat) {k n : Nat} (h : k ≤ n) : (readBytes m a n).take k = readBytes m a k := by
  unfold readBytes
  rw [← List.map_take, List.take_range, Nat.min_eq_left h]

theorem readBytes_split (m : List Host.Cell) (a k n : Nat) :
    readBytes m a (k + n) = readBytes m a k ++ readBytes m (a + k) n := by
  unfold readBytes
  rw [List.range_add, List.map_append, List.map_map]
  refine congrArg _ (List.map_congr_left fun i _ => ?_)
  rw [Function.comp_apply, Nat.add_assoc]

/-! An EEPROM without a valid signature (R161, R164). -/

/-- R161: the image begins with its signature. -/
theorem image_signature (t : Tables) : t.image.take 2 = [0xC2, 0x46] := rfl

theorem acceptImage_signature {img : List Byte} (h : img.take 2 ≠ [0xC2, 0x46]) : acceptImage img = none := by
  refine if_neg ?_
  rintro ⟨-, hhead, -⟩
  have htake : img.take 2 = (img.take 5).take 2 := by rw [List.take_take]; rfl
  rw [htake, hhead] at h
  exact h rfl

theorem autoloaded_unsigned {m : List Host.Cell} (h : readBytes m 0 2 ≠ [0xC2, 0x46]) : autoloaded m .stored = none := by
  refine acceptImage_signature ?_
  rwa [storedImage, readBytes_take m 0 (by decide)]

theorem length_doubtfulPage (c page : Nat) : (doubtfulPage c page).length = 32 := by simp [doubtfulPage]

/-- R164: a page spoiled changes no byte of another page. -/
theorem readByte_spoilPage {m : List Host.Cell} {c k a : Nat} (h : a < 32 * stepPage k ∨ 32 * stepPage k + 32 ≤ a) :
    readByte (spoilPage m c k) a = readByte m a := by
  have hlength : (if stepPage k = 0 then unsigned c (doubtfulPage c (stepPage k)) else doubtfulPage c (stepPage k)).length = 32 := by
    split_ifs
    · exact length_unsigned _ _ (length_doubtfulPage _ _)
    · exact length_doubtfulPage _ _
  exact readByte_writeBytes_outside _ _ _ _ (by rwa [hlength])

/-- R163: before step 52 is written page 0 holds no signature. -/
theorem stepData_one (buf : List Byte) : (stepData buf 1).take 2 = [0x00, 0x00] := rfl

/-- R164: whatever page of a store is spoiled, no valid signature stands. -/
theorem spoilPage_unsigned {m : List Host.Cell} {st : Store} (hm : canonical m = true) (hphase : st.phase ≠ .readBack)
    (h : st.progress m) (c : Nat) : readBytes (spoilPage m c st.step) 0 2 ≠ [0xC2, 0x46] := by
  obtain ⟨h1, h52, -, hpages, -⟩ := h
  rw [committed_of_ne hphase] at hpages
  by_cases hpage : stepPage st.step = 0
  · have hspoiled : spoilPage m c st.step = writeBytes m (32 * 0) (unsigned c (doubtfulPage c 0)) := by
      unfold spoilPage
      rw [hpage]
      rfl
    rw [hspoiled, ← readBytes_take _ 0 (show 2 ≤ 32 by decide)]
    have hlength := length_unsigned c (doubtfulPage c 0) (length_doubtfulPage c 0)
    have hself := readBytes_writeBytes_self hm (32 * 0) (unsigned c (doubtfulPage c 0))
    rw [hlength] at hself
    rw [hself]
    exact unsigned_signature c _
  · have hstep : 2 ≤ st.step := by
      by_contra hlt
      exact hpage (by rw [stepPage, if_neg (by omega)]; omega)
    have hsame : readBytes (spoilPage m c st.step) 0 2 = readBytes m 0 2 :=
      readBytes_congr fun x _ hx => readByte_spoilPage (.inl (by omega))
    have hfirst : readBytes m 0 32 = stepData st.buffer 1 :=
      (hpages 0 (by simp) (by omega)).resolve_left (by omega)
    rw [hsame, ← readBytes_take m 0 (show 2 ≤ 32 by decide), hfirst, stepData_one]
    decide

/-! The image read back (R164). -/

/-- R163: the pages a store has written, one after the other. -/
theorem readBytes_pages {m : List Host.Cell} {buf : List Byte} (hlength : buf.length = 1625)
    (hpages : ∀ k, 2 ≤ k → k ≤ 52 → readBytes m (32 * stepPage k) 32 = stepData buf k) {n : Nat} (hn : n ≤ 51) :
    readBytes m 0 (32 * n) = (buf ++ List.replicate 7 0).take (32 * n) := by
  induction n with
  | zero => rfl
  | succ n ih =>
    obtain ⟨k, hk2, hk52, hpage⟩ : ∃ k, 2 ≤ k ∧ k ≤ 52 ∧ stepPage k = n := by
      rcases Nat.eq_zero_or_pos n with rfl | hpos
      · exact ⟨52, by decide, by decide, rfl⟩
      · exact ⟨n + 1, by omega, by omega, by rw [stepPage, if_neg (by omega)]; omega⟩
    have hlast := hpages k hk2 hk52
    rw [stepData_eq buf hlength k hk2 hk52, hpage] at hlast
    rw [Nat.mul_succ, readBytes_split, ih (by omega), Nat.zero_add, hlast, List.take_add]

/-- R164: at the read-back the EEPROM holds the buffer. -/
theorem storedImage_of_progress {m : List Host.Cell} {st : Store} (hphase : st.phase = .readBack) (h : st.progress m)
    (hlength : st.buffer.length = 1625) : storedImage m = st.buffer := by
  obtain ⟨-, -, -, hpages, hlast⟩ := h
  have hdone : st.committed = 52 := by
    unfold Store.committed
    rw [hphase]
  have hall : ∀ k, 2 ≤ k → k ≤ 52 → readBytes m (32 * stepPage k) 32 = stepData st.buffer k := by
    intro k hk2 hk52
    rcases eq_or_ne k 52 with rfl | hne
    · exact hlast hdone
    · have hk := (hpages (k - 1) (List.mem_range.2 (by omega)) (by omega)).resolve_left (by omega)
      rwa [Nat.sub_add_cancel (by omega)] at hk
  have himage := congrArg (List.take 1625) (readBytes_pages hlength hall (le_refl 51))
  rw [readBytes_take m 0 (by decide), List.take_take] at himage
  rw [storedImage, show imageLength = 1625 from rfl, himage]
  exact List.take_left' hlength

end Sys2Proof.Machine

/-! PROOF. O34: what a store leaves to the next autoload. -/

namespace Sys2Proof.Machine

/-- R162: the tables, the loader and what an autoload's end leaves of them. -/
theorem endAutoload_loader (b : Bool) (t : Option Tables) (s : State) :
    (endAutoload b t s).tables = t.getD s.tables ∧
      (endAutoload b t s).loader =
        { s.loader with source := if t.isSome then .stored else .defaults, autoload := none } := by
  unfold endAutoload
  simp only [startSupply_frame, startPumps_frame, startBlocks_frame]
  exact ⟨rfl, rfl⟩

/-- R161, R162: the end of an autoload's read. -/
theorem autoloadReadDone_next {l : Autoload} {s : State} (h : s.loader.autoload = some l) {r : EepromRead}
    (hr : r.afterAddress = true) :
    exec (.autoloadReadDone r) s =
      .next (endAutoload l.afterRestart (autoloaded s.eeprom r) (s.drove (imageSignals r))) := by
  show execAutoloadReadDone r s = _
  unfold execAutoloadReadDone
  rw [if_pos hr, h]

/-- R164: a reset that cuts a store with a page of it in the EEPROM under way. -/
theorem cutStore_spoils {st : Store} {s : State} (h : s.loader.store = some st) (hphase : st.phase ≠ .readBack)
    (hstep : (st.step = 1 ∧ st.phase ≠ .writing) ∨ (2 ≤ st.step ∧ st.step < 52)) :
    (cutStore s).eeprom = spoilPage s.eeprom s.cuts st.step := by
  have hcut : (cutPage st.step s).eeprom = spoilPage s.eeprom s.cuts st.step := by
    unfold cutPage
    rw [if_neg (by omega)]
    rfl
  unfold cutStore
  rw [h]
  dsimp only
  split
  next hp => exact absurd hp hphase
  next hp =>
    rw [if_neg]
    · exact hcut
    · rintro ⟨hone, -⟩
      rcases hstep with ⟨-, hw⟩ | hbetween
      · exact hw hp
      · omega
  next => exact hcut

theorem cutStore_readBack {st : Store} {s : State} (h : s.loader.store = some st) (hphase : st.phase = .readBack) :
    cutStore s = s := by
  unfold cutStore
  rw [h]
  dsimp only
  rw [hphase]

end Sys2Proof.Machine

section
open Sys2Proof Sys2Proof.Machine

/-- Settles O34. -/
theorem storeDecidesTheNextAutoload : Obligations.StoreDecidesTheNextAutoload := by
  rintro st addr inputs s hstore ⟨-, -, ⟨hcanonical, -⟩, hbuffer⟩ ⟨hgood, -⟩
  obtain ⟨hbuf, hprogress⟩ := hbuffer st hstore
  refine ⟨fun hphase => ?_, fun hcut => ?_⟩
  · have himage : storedImage s.eeprom = s.tables.image := by
      rw [storedImage_of_progress hphase hprogress (hbuf ▸ length_image (Tables.sized_of_good hgood)), hbuf]
    have hloads : autoloaded (powerOn addr inputs s).eeprom .stored = some s.tables := by
      show acceptImage (storedImage (cutStore s).eeprom) = _
      rw [cutStore_readBack hstore hphase, himage, acceptImage_image hgood]
    refine ⟨congrArg some himage, powerOn addr inputs s, rfl, _, autoloadReadDone_next rfl rfl, ?_, ?_⟩
    · rw [(endAutoload_loader _ _ _).1, hloads]
      rfl
    · rw [(endAutoload_loader _ _ _).2, hloads]
      rfl
  · have hphase : st.phase ≠ .readBack := fun hp => by
      obtain ⟨-, -, hlast, -⟩ := hprogress
      have := hlast hp
      omega
    have hloads : autoloaded (powerOn addr inputs s).eeprom .stored = none := by
      refine autoloaded_unsigned ?_
      show readBytes (cutStore s).eeprom 0 2 ≠ _
      rw [cutStore_spoils hstore hphase hcut]
      exact spoilPage_unsigned hcanonical hphase hprogress s.cuts
    refine ⟨powerOn addr inputs s, rfl, _, autoloadReadDone_next rfl rfl, ?_, ?_⟩
    · rw [(endAutoload_loader _ _ _).1, hloads]
      rfl
    · rw [(endAutoload_loader _ _ _).2, hloads]
      rfl

end

/-! PROOF. O33: a store's steps and its outcomes. -/

namespace Sys2Proof.Machine

/-- R51, R164: the end of a store, with the sender its reply goes to. -/
theorem endStore_eq {m : Sender} {s : State} (good : Bool) (h : s.agent.store = some m) :
    endStore good s =
      sendReply m 0x10 (if good then .done else .failed) []
        { s with agent := { s.agent with store := none }, loader := { s.loader with store := none } } := by
  unfold endStore
  rw [h]

/-- R163, R164: the end of a page write being sent. -/
theorem pageWriteDone_next {st : Store} {s : State} (h : s.loader.store = some st) (hphase : st.phase = .writing) (r : PageWrite) :
    exec (.pageWriteDone r) s = .next (if pageMayEnd st r then pageWritten st r s else s) := by
  show execPageWriteDone r s = _
  unfold execPageWriteDone
  rw [h]
  dsimp only
  rw [hphase]

/-- R163: the end of an address that polls a write cycle. -/
theorem pageAckPoll_next {st : Store} {s : State} {due limit : Nat} (h : s.loader.store = some st)
    (hphase : st.phase = .cycle due limit) (r : AddressPoll) :
    exec (.pageAckPoll r) s =
      .next (if pollMayEnd r then addressPolled st due limit r ((s.reach due).drove (pollSignals r)) else s) := by
  show execPageAckPoll r s = _
  unfold execPageAckPoll
  rw [h]
  dsimp only
  rw [hphase]

theorem pageWriteTimeout_next {st : Store} {s : State} {due limit : Nat} (h : s.loader.store = some st)
    (hphase : st.phase = .cycle due limit) :
    exec .pageWriteTimeout s = .next (endStore false (spoil st.step (s.reach limit))) := by
  show execPageWriteTimeout s = _
  unfold execPageWriteTimeout
  rw [h]
  dsimp only
  rw [hphase]

/-- R164: the end of the read-back. -/
theorem readBackDone_next {st : Store} {s : State} (h : s.loader.store = some st) (hphase : st.phase = .readBack)
    {r : EepromRead} (hr : r.inPhase = true) : exec (.readBackDone r) s = .next (readBack st r s) := by
  show execReadBackDone r s = _
  unfold execReadBackDone
  rw [if_pos hr, h]
  dsimp only
  rw [hphase]

/-- R163: the bits of a page write. -/
theorem stepSignals_eq (st : Store) :
    stepSignals st =
      [.start] ++ ((0xA8 : Byte) :: (bytes16 (32 * stepPage st.step) ++ stepData st.buffer st.step)).flatMap sendByte ++
        [.stop] := rfl

theorem addressSignals_eq : addressSignals = [.start] ++ sendByte 0xA8 ++ [.stop] := rfl

theorem cutPage_drove (k : Nat) (d : List BusSignal) (s : State) : cutPage k (s.drove d) = (cutPage k s).drove d := by
  rw [cutPage_eq, cutPage_eq]
  rfl

/-- R164: a page write's byte not acknowledged. -/
theorem pageRefused_next {st : Store} {s : State} (h : s.loader.store = some st) (hphase : st.phase = .writing) (k : Fin 35) :
    exec (.pageWriteDone (.refusedAt k)) s =
      .next (endStore false
        (State.drove ((stepSignals st).take (10 + 9 * k) ++ [.stop]) (if k.val ≤ 3 then s else spoil st.step s))) := by
  have hcount : 10 + 9 * k.val = 1 + 9 * (k.val + 1) := by omega
  rw [pageWriteDone_next h hphase, hcount]
  refine congrArg Host.Outcome.next (show pageWritten st (.refusedAt k) s = _ from ?_)
  unfold pageWritten
  dsimp only
  split_ifs <;> rfl

/-- R164: a page write's data line lost. -/
theorem pageLost_next {st : Store} {s : State} (h : s.loader.store = some st) (hphase : st.phase = .writing) (n : Nat) :
    exec (.pageWriteDone (.lostDataLine n)) s =
      .next (if readsBackAt (stepSignals st) n = true then
        endStore false
          (State.drove ((stepSignals st).take n ++ [.release]) (if n ≤ 36 then s else cutPage st.step s))
      else s) := by
  rw [pageWriteDone_next h hphase]
  refine congrArg Host.Outcome.next (if_congr Iff.rfl ?_ rfl)
  unfold pageWritten
  dsimp only
  rw [cutPage_drove]
  by_cases hn : n ≤ 36
  · rw [if_pos hn]
    exact if_pos hn
  · rw [if_neg hn]
    exact if_neg hn

/-- R164: a cut of a page write changes no byte of another page. -/
theorem readByte_cutPage {s : State} {k a : Nat} (h : a < 32 * stepPage k ∨ 32 * stepPage k + 32 ≤ a) :
    readByte (cutPage k s).eeprom a = readByte s.eeprom a := by
  rw [cutPage_eq]
  dsimp only
  split_ifs with hlast
  · have hpage : stepPage k = 0 := by rw [hlast]; rfl
    have hlength := length_doubtfulPage s.cuts 0
    exact readByte_writeBytes_outside s.eeprom 0 (doubtfulPage s.cuts 0) a (by omega)
  · exact readByte_spoilPage h

theorem drove_changesOnly (d : List BusSignal) (s : State) : changesOnly [.loader] s (s.drove d) := by
  intro p hp; cases p <;> simp_all [Part.same, State.drove]

theorem commitStep_changesOnly (st : Store) (s : State) : changesOnly [.loader, .eeprom] s (commitStep st s) := by
  intro p hp; cases p <;> simp_all [Part.same, commitStep]

theorem spoil_changesOnly (k : Nat) (s : State) : changesOnly [.eeprom, .cuts] s (spoil k s) := by
  intro p hp; cases p <;> simp_all [Part.same]

theorem cutPage_changesOnly (k : Nat) (s : State) : changesOnly [.eeprom, .cuts] s (cutPage k s) := by
  intro p hp; cases p <;> simp_all [Part.same]

theorem doubtContent_changesOnly (s : State) : changesOnly [.eeprom, .cuts] s (doubtContent s) := by
  intro p hp; cases p <;> simp_all [Part.same]

theorem doubtContent_drove (d : List BusSignal) (s : State) : doubtContent (s.drove d) = (doubtContent s).drove d := by
  simp only [doubtContent, State.drove]

/-- R163: at the read-back page 0 begins as the buffer does. -/
theorem readBytes_signature {m : List Host.Cell} {st : Store} (hphase : st.phase = .readBack) (h : st.progress m) :
    readBytes m 0 2 = (padTo 32 st.buffer).take 2 := by
  obtain ⟨-, -, -, -, hlast⟩ := h
  have hdone : st.committed = 52 := by
    unfold Store.committed
    rw [hphase]
  have hpage : readBytes m 0 32 = padTo 32 st.buffer := hlast hdone
  rw [← readBytes_take m 0 (show 2 ≤ 32 by decide), hpage]

/-- R164: doubtful content leaves the signature and every byte past the image. -/
theorem readByte_doubtContent {s : State} {a : Nat} (h : a < 2 ∨ 1625 ≤ a) :
    readByte (doubtContent s).eeprom a = readByte s.eeprom a := by
  have hlength : (doubtfulContent s.cuts).length = 1623 := by
    rw [doubtfulContent, List.length_map, List.length_range]
    rfl
  unfold doubtContent
  dsimp only
  exact readByte_writeBytes_outside s.eeprom 2 (doubtfulContent s.cuts) a (by omega)

end Sys2Proof.Machine

section
open Sys2Proof Sys2Proof.Machine

/-- Settles O33. -/
theorem storeStepsAndOutcomes : Obligations.StoreStepsAndOutcomes := by
  rintro st m s hstore hagent ⟨-, -, ⟨hcanonical, -⟩, hbuffer⟩ at' ended outside page fails unsigned' whole address
  obtain ⟨hbuf, hprogress⟩ := hbuffer st hstore
  have hended (good : Bool) (d : List BusSignal) (u : State) (hu : u.agent.store = some m) :
      endStore good (u.drove d) = ended (if good then .done else .failed) d u := endStore_eq good hu
  have hwhole : stepSignals st = whole := stepSignals_eq st
  have haddress : addressSignals = address := addressSignals_eq
  have hunsigned (hphase : st.phase ≠ .readBack) (u : State) (hu : u.eeprom = s.eeprom) :
      unsigned' (spoil st.step u) := by
    refine autoloaded_unsigned ?_
    show readBytes (spoilPage u.eeprom u.cuts st.step) 0 2 ≠ _
    rw [hu]
    exact spoilPage_unsigned hcanonical hphase hprogress u.cuts
  have houtside (u : State) (hu : u.eeprom = s.eeprom) : outside page 32 (spoil st.step u) := fun a ha => by
    rw [← hu]
    exact readByte_spoilPage ha
  have hfails (i : Instr) (d : List BusSignal) (good : State → Prop) (u : State) (hexec : exec i s = .next (endStore false (u.drove d)))
      (hgood : good u) (hout : outside page 32 u) (honly : changesOnly [.now, .eeprom, .cuts] s u) : fails i d good := by
    have hu : u.agent = s.agent := honly .agent (by decide)
    exact ⟨_, u, hexec, hended false d u (hu ▸ hagent), hgood, hout, honly⟩
  refine ⟨fun hphase => ?_, fun due limit hphase => ?_, fun hphase r hr => ?_⟩
  · have hwriting : st.phase ≠ .readBack := by simp [hphase]
    refine ⟨pageWriteDone_next hstore hphase .acknowledged, fun k => ⟨fun hk => ?_, fun hk => ?_⟩,
      fun n => ⟨fun hn => ?_, fun hn hle => ?_, fun hn hlt hstep => ?_, fun hn hlt hstep => ?_⟩⟩
    · rw [pageRefused_next hstore hphase, if_pos hk]
      exact congrArg Host.Outcome.next (hended false _ s hagent)
    · refine hfails _ _ _ (spoil st.step s) ?_ (hunsigned hwriting s rfl) (houtside s rfl)
        ((spoil_changesOnly st.step s).mono (by decide))
      rw [pageRefused_next hstore hphase, if_neg (by omega)]
      rfl
    · rw [pageLost_next hstore hphase]
      exact congrArg Host.Outcome.next (if_neg (Bool.eq_false_iff.1 hn))
    · rw [pageLost_next hstore hphase, if_pos hle]
      exact congrArg Host.Outcome.next ((if_pos hn).trans (hended false _ s hagent))
    · have hcut : cutPage st.step s = spoil st.step s := if_neg (by omega)
      refine hfails _ _ _ (spoil st.step s) ?_ (hunsigned hwriting s rfl) (houtside s rfl)
        ((spoil_changesOnly st.step s).mono (by decide))
      rw [pageLost_next hstore hphase, if_neg (Nat.not_le.2 hlt), hcut]
      exact congrArg Host.Outcome.next (if_pos hn)
    · refine hfails _ _ _ (cutPage st.step s) ?_ trivial (fun a ha => readByte_cutPage ha)
        ((cutPage_changesOnly st.step s).mono (by decide))
      rw [pageLost_next hstore hphase, if_neg (Nat.not_le.2 hlt)]
      exact congrArg Host.Outcome.next (if_pos hn)
  · have hcycle : st.phase ≠ .readBack := by simp [hphase]
    refine ⟨pageAckPoll_next hstore hphase .notAcknowledged, fun n => pageAckPoll_next hstore hphase (.lostDataLine n), ?_, ?_⟩
    · refine hfails _ _ _ (spoil st.step (s.reach limit)) ?_ (hunsigned hcycle _ rfl) (houtside _ rfl) ?_
      · exact pageWriteTimeout_next hstore hphase
      · exact (reach_changesOnly limit s).trans (spoil_changesOnly st.step _) (by decide) (by decide)
    · refine ⟨commitStep st ((s.reach due).drove address), pageAckPoll_next hstore hphase .acknowledged, rfl, rfl, rfl, ?_, fun a ha => ?_, ?_⟩
      · exact pageHolds_written st st hcanonical rfl st.step
      · exact readByte_writeBytes_outside s.eeprom page (stepData st.buffer st.step) a (by rwa [length_stepData])
      · exact ((reach_changesOnly due s).mono (by decide)).comp
          (((drove_changesOnly address _).mono (by decide)).comp ((commitStep_changesOnly st _).mono (by decide)))
  · rw [readBackDone_next hstore hphase hr]
    unfold readBack
    refine ⟨fun hread => ?_, fun hread => ?_⟩
    · exact congrArg Host.Outcome.next ((if_pos hread).trans (hended true _ s hagent))
    · refine ⟨doubtContent s, congrArg Host.Outcome.next ((if_neg hread).trans ?_), ?_, ?_, ?_⟩
      · rw [doubtContent_drove]
        exact hended false _ (doubtContent s) hagent
      · have hsame : readBytes (doubtContent s).eeprom 0 2 = readBytes s.eeprom 0 2 :=
          readBytes_congr fun x _ hx => readByte_doubtContent (.inl (by omega))
        rw [hsame, readBytes_signature hphase hprogress, hbuf]
        exact image_signature s.tables
      · exact fun a ha => readByte_doubtContent (.inr (by omega))
      · exact doubtContent_changesOnly s

end

/-! PROOF. O32: the blocks that start at the end of an autoload. -/

namespace Sys2Proof.Machine

/-! Pump Control at the end of an autoload (R132, R142). -/

/-- R131: a channel is OFF exactly in mode OFF. -/
def Pump.Matched (p : Pump) : Prop := p.state = .off ↔ p.mode = .off

theorem matched_of_pumpsLawful {s : State} (h : PumpsLawful s) (c : Channel) : (s.pumps.get c).Matched :=
  ((pumpsLawful_iff s).1 h c).framed.mode

/-- R132: new settings change neither a channel's mode nor whether it is OFF. -/
theorem settingsChange_kept (now level : Nat) (g : PumpSettings) (p : Pump) :
    (p.settingsChange now level g).pump.mode = p.mode ∧ ((p.settingsChange now level g).pump.state = .off ↔ p.state = .off) :=
  ⟨retarget_mode _ _ _, (retarget_state _ _ _).1⟩

/-- What a channel has of settings, mode and state after each part of the end of an autoload. -/
structure Pump.Adopted (g : PumpSettings) (m : Mode) (p : Pump) : Prop where
  inUse : p.inUse = g
  mode : p.mode = m
  matched : p.Matched

theorem adoptPump_pump (c d : Channel) (g : PumpSettings) (s : State) :
    (adoptPump c g s).pumps.get d =
      if d = c then ((s.pumps.get c).settingsChange s.now s.supply.level g).pump else s.pumps.get d :=
  applyPump_pump c d _ s

theorem adoptPump_adopts {c : Channel} {g : PumpSettings} {s : State} (h : (s.pumps.get c).Matched) :
    ((adoptPump c g s).pumps.get c).Adopted g (s.pumps.get c).mode := by
  obtain ⟨hmode, hoff⟩ := settingsChange_kept s.now s.supply.level g (s.pumps.get c)
  rw [adoptPump_pump, if_pos rfl]
  exact ⟨settingsChange_inUse _ _ _ _, hmode, by rw [Pump.Matched, hoff, hmode]; exact h⟩

theorem applyStoredMode_other {c d : Channel} (h : d ≠ c) (s : State) :
    (applyStoredMode c s).pumps.get d = s.pumps.get d := by
  unfold applyStoredMode
  split
  · rfl
  · exact (applyPump_pump c d _ s).trans (if_neg h)

/-- R142: the stored mode is a mode request, unless a forcing stands. -/
theorem applyStoredMode_adopts {c : Channel} {g : PumpSettings} {m : Mode} {s : State} (h : (s.pumps.get c).Adopted g m) :
    ((applyStoredMode c s).pumps.get c).inUse = g ∧
      ((applyStoredMode c s).pumps.get c).mode =
        if s.agent.pumpForce.get c ≠ none then m else (s.tables.pumps.get c).storedMode := by
  unfold applyStoredMode
  cases hforce : s.agent.pumpForce.get c with
  | some x => exact ⟨h.inUse, h.mode⟩
  | none =>
    have hpump := (applyPump_pump c c ((s.pumps.get c).modeRequest s.now s.supply.level (s.tables.pumps.get c).storedMode) s).trans
      (if_pos rfl)
    have hresult := modeRequest_result s.now s.supply.level (s.tables.pumps.get c).storedMode h.matched
    exact ⟨(congrArg Pump.inUse hpump).trans ((modeRequest_inUse _ _ _ _).trans h.inUse),
      (congrArg Pump.mode hpump).trans hresult.1⟩

/-- R132, R142: both channels after Pump Control has taken its tables. -/
theorem startPumps_pump {s : State} (h : ∀ c, (s.pumps.get c).Matched) (afterRestart : Bool) (c : Channel) :
    ((startPumps afterRestart s).pumps.get c).inUse = s.tables.pumps.get c ∧
      ((startPumps afterRestart s).pumps.get c).mode =
        if afterRestart = true ∨ s.agent.pumpForce.get c ≠ none then (s.pumps.get c).mode
        else (s.tables.pumps.get c).storedMode := by
  obtain ⟨s1, hs1⟩ : ∃ s1, s1 = adoptPump .ba s.tables.pumps.ba (adoptPump .ab s.tables.pumps.ab s) := ⟨_, rfl⟩
  have hframe : s1.tables = s.tables ∧ s1.agent = s.agent := by
    subst hs1
    simp only [adoptPump_frame, and_self]
  obtain ⟨htables, hagent⟩ := hframe
  have hadopted : (s1.pumps.get c).Adopted (s.tables.pumps.get c) (s.pumps.get c).mode := by
    subst hs1
    cases c with
    | ab =>
      rw [adoptPump_pump .ba .ab, if_neg (by decide)]
      exact adoptPump_adopts (h .ab)
    | ba =>
      have hother : (adoptPump .ab s.tables.pumps.ab s).pumps.get .ba = s.pumps.get .ba := adoptPump_pump .ab .ba _ s
      have hba := adoptPump_adopts (c := .ba) (g := s.tables.pumps.ba) (s := adoptPump .ab s.tables.pumps.ab s) (hother ▸ h .ba)
      rwa [hother] at hba
  have hstart : startPumps afterRestart s = if afterRestart then s1 else applyStoredMode .ba (applyStoredMode .ab s1) := by
    rw [hs1]
    rfl
  rw [hstart]
  cases afterRestart with
  | true => exact ⟨hadopted.inUse, hadopted.mode⟩
  | false =>
    have hstored : ((applyStoredMode .ba (applyStoredMode .ab s1)).pumps.get c).inUse = s.tables.pumps.get c ∧
        ((applyStoredMode .ba (applyStoredMode .ab s1)).pumps.get c).mode =
          if s1.agent.pumpForce.get c ≠ none then (s.pumps.get c).mode else (s1.tables.pumps.get c).storedMode := by
      cases c with
      | ab =>
        rw [applyStoredMode_other (by decide)]
        exact applyStoredMode_adopts hadopted
      | ba =>
        have hba := applyStoredMode_adopts (c := .ba) (s := applyStoredMode .ab s1)
          (by rw [applyStoredMode_other (by decide)]; exact hadopted)
        simpa only [applyStoredMode_frame] using hba
    rw [hagent, htables] at hstored
    simpa using hstored

/-! The supply and the outputs at the end of an autoload (R146, R156, R159). -/

/-- Supply Settings taken change no channel's settings or mode. -/
theorem adoptSupply_pump (g : SupplySettings) (s : State) (c : Channel) :
    ((adoptSupply g s).pumps.get c).inUse = (s.pumps.get c).inUse ∧
      ((adoptSupply g s).pumps.get c).mode = (s.pumps.get c).mode := by
  refine ⟨takeSupply_inUse _ _ s c, ?_⟩
  unfold adoptSupply takeSupply
  rw [recomputeShed_pump, applySupply_pumps]
  split_ifs
  · rfl
  · exact retarget_mode _ _ _

theorem startSupply_spec (afterRestart : Bool) (s : State) :
    (startSupply afterRestart s).supply.inUse = s.tables.supply ∧ (startSupply afterRestart s).outputs.sheds = s.tables.sheds ∧
      (startSupply afterRestart s).outputs.idles = s.tables.idles ∧ OutputsResolved (startSupply afterRestart s) ∧
      (startSupply afterRestart s).supply.checkAt = (if afterRestart then s.supply.checkAt else some (s.now + 1000000)) ∧
      (∀ c, ((startSupply afterRestart s).pumps.get c).inUse = (s.pumps.get c).inUse ∧
        ((startSupply afterRestart s).pumps.get c).mode = (s.pumps.get c).mode) ∧
      pointsOnly [38, 39, 40, 41, 42] s (startSupply afterRestart s) := by
  obtain ⟨s1, hs1⟩ : ∃ s1, s1 = adoptSupply s.tables.supply s := ⟨_, rfl⟩
  obtain ⟨s2, hs2⟩ : ∃ s2, s2 = adoptOutputs s.tables.sheds s.tables.idles s1 := ⟨_, rfl⟩
  have hsupply : s2.supply.inUse = s.tables.supply ∧ s2.supply.checkAt = s.supply.checkAt := by
    rw [hs2, (adoptOutputs_frame _ _ _).2.2.2.2.2.2.2.2.2.2.2.2.2.2.2.1, hs1, adoptSupply, takeSupply_supply]
    exact ⟨rfl, rfl⟩
  have hnow : s2.now = s.now := by
    subst hs2 hs1
    simp only [adoptOutputs_frame, adoptSupply_frame]
  have hpumps : s2.pumps = s1.pumps := by
    subst hs2
    simp only [adoptOutputs_frame]
  have hpoints : s2.points = s1.points := by
    subst hs2
    simp only [adoptOutputs_frame]
  have hsheds : s2.outputs.sheds = s.tables.sheds ∧ s2.outputs.idles = s.tables.idles := hs2 ▸ ⟨rfl, rfl⟩
  have hresolved : OutputsResolved s2 := hs2 ▸ outputsResolved_resolve _
  have hchannel (c : Channel) : (s2.pumps.get c).inUse = (s.pumps.get c).inUse ∧ (s2.pumps.get c).mode = (s.pumps.get c).mode := by
    rw [hpumps, hs1]
    exact adoptSupply_pump _ s c
  have hrecords : pointsOnly [38, 39, 40, 41, 42] s s2 := fun j hj => by
    rw [State.point, hpoints, hs1]
    exact takeSupply_pointsOnly _ _ s j hj
  have hstart : startSupply afterRestart s =
      if afterRestart then s2 else { s2 with supply := { s2.supply with checkAt := some (s2.now + 1000000) } } := by
    rw [hs2, hs1]
    rfl
  rw [hstart]
  cases afterRestart with
  | true => exact ⟨hsupply.1, hsheds.1, hsheds.2, hresolved, hsupply.2, hchannel, hrecords⟩
  | false =>
    exact ⟨hsupply.1, hsheds.1, hsheds.2, SamePins.resolved ⟨rfl, ⟨_, rfl⟩, rfl, rfl⟩ hresolved, by rw [← hnow]; rfl, hchannel,
      hrecords⟩

end Sys2Proof.Machine

/-! PROOF. O32: how an autoload ends. -/

namespace Sys2Proof.Machine

/-! The sequential read of the image on the EEPROM port (R75, R161). -/

/-- R161: a sequential read of `n + 1` bytes of the EEPROM. -/
def eepromRead (n : Nat) : BusRead := ⟨0x54, bytes16 0, n + 1⟩

theorem imageBusRead_eq : imageBusRead = eepromRead 1624 := rfl

theorem eepromRead_signals (n : Nat) :
    (eepromRead n).signals =
      [.start] ++ sendByte 0xA8 ++ sendByte 0x00 ++ sendByte 0x00 ++ [.start] ++ sendByte 0xA9 ++
        (List.replicate n (receiveByte true)).flatten ++ receiveByte false ++ [.stop] := by
  have hregister : (bytes16 0).flatMap sendByte = sendByte 0x00 ++ sendByte 0x00 := rfl
  have hwrite : byteOf (0x54 * 2) = 0xA8 := rfl
  have hread : byteOf (0x54 * 2 + 1) = 0xA9 := rfl
  simp only [BusRead.signals, readPhases, BusRead.phase, eepromRead, List.flatMap_cons, List.flatMap_nil, hregister, hwrite,
    hread, Nat.add_sub_cancel, List.append_assoc, List.append_nil]

theorem eepromRead_before (n : Nat) :
    ((eepromRead n).before .register).length = 10 ∧ ((eepromRead n).before .addressRead).length = 29 ∧
      ((eepromRead n).before .data).length = 38 := ⟨rfl, rfl, rfl⟩

theorem sendZeros_await (k : Nat) : (sendByte 0x00 ++ sendByte 0x00)[k]? = some .awaitAcknowledge ↔ k = 8 ∨ k = 17 := by
  rcases Nat.lt_or_ge k 9 with hk | hk
  · rw [List.getElem?_append_left (by simpa using hk), sendByte_await]
    omega
  · rw [List.getElem?_append_right (by simpa using hk), sendByte_await, sendByte_length]
    omega

/-- R74: where a transaction begins with signals the part does not read back. -/
theorem readsBackAt_quiet {l : List BusSignal} (h : ∀ x ∈ l, x.readsBack = false) (m : List BusSignal) (k : Nat)
    (hk : k < l.length) : readsBackAt (l ++ m) k = false := by
  rw [readsBackAt, List.getElem?_append_left hk, List.getElem?_eq_getElem hk]
  exact h _ (List.getElem_mem _)

/-- R74: the part sends no 1 bit in the memory address 0. -/
theorem sendZeros_readsBack (k : Nat) : readsBackAt (sendByte 0x00 ++ sendByte 0x00) k = false := by
  have hzero : ∀ x ∈ sendByte 0x00 ++ sendByte 0x00, x.readsBack = false := by decide
  rcases Nat.lt_or_ge k 18 with hk | hk
  · have hquiet := readsBackAt_quiet hzero [] k hk
    rwa [List.append_nil] at hquiet
  · rw [readsBackAt, List.getElem?_eq_none hk]
    rfl

theorem receiveByte_readsBack (k : Nat) : readsBackAt (receiveByte false) k = true ↔ k = 8 := by
  rcases k with _ | _ | _ | _ | _ | _ | _ | _ | _ | k <;>
    simp [readsBackAt, receiveByte, List.replicate_succ, BusSignal.readsBack]

/-- R74: in the data phase the part releases the data line at its last bit, the not-acknowledge, alone. -/
theorem eepromRead_data (n k : Nat) : readsBackAt ((eepromRead n).phase .data) k = true ↔ k = 9 * n + 8 := by
  have hphase : (eepromRead n).phase .data = (List.replicate n (receiveByte true)).flatten ++ receiveByte false := by
    rw [BusRead.phase, eepromRead, Nat.add_sub_cancel]
  have hlength : (List.replicate n (receiveByte true)).flatten.length = 9 * n := by simp [Nat.mul_comm]
  have hquiet : ∀ x ∈ (List.replicate n (receiveByte true)).flatten, x.readsBack = false := by
    simp only [List.mem_flatten, List.mem_replicate]
    rintro x ⟨_, ⟨-, rfl⟩, hx⟩
    revert x
    decide
  rw [hphase]
  rcases Nat.lt_or_ge k (9 * n) with hk | hk
  · rw [readsBackAt_quiet hquiet _ k (hlength.symm ▸ hk)]
    simp
    omega
  · have hlast : readsBackAt ((List.replicate n (receiveByte true)).flatten ++ receiveByte false) k =
        readsBackAt (receiveByte false) (k - 9 * n) := by
      rw [readsBackAt, List.getElem?_append_right (hlength.symm ▸ hk), hlength]
      rfl
    rw [hlast, receiveByte_readsBack]
    omega

theorem eepromRead_dataLength (n : Nat) : ((eepromRead n).phase .data).length = 9 * n + 9 := by
  have hphase : (eepromRead n).phase .data = (List.replicate n (receiveByte true)).flatten ++ receiveByte false := by
    rw [BusRead.phase, eepromRead, Nat.add_sub_cancel]
  simp [hphase, Nat.mul_comm]

/-! The end of an autoload (R161, R162). -/

theorem endAutoload_changesOnly (b : Bool) (t : Option Tables) (s : State) :
    changesOnly [.tables, .loader, .points, .sampling, .poll, .engine, .supply, .outputs, .pump .ab, .pump .ba, .port] s
      (endAutoload b t s) := by
  intro p hp; cases p
  case line x => cases x <;> simp_all [Part.same]
  case pump c => cases c <;> simp at hp
  all_goals simp_all [Part.same]

theorem startPumps_pointsOnly (b : Bool) (s : State) : pointsOnly [41, 42] s (startPumps b s) := by
  have hadopt (c : Channel) (g : PumpSettings) (u : State) : pointsOnly [41, 42] u (adoptPump c g u) :=
    (applyPump_pointsOnly c _ u).mono (by cases c <;> simp [pumpPoint])
  have hstored (c : Channel) (u : State) : pointsOnly [41, 42] u (applyStoredMode c u) := by
    unfold applyStoredMode
    split
    · exact pointsOnly_refl _ u
    · exact (applyPump_pointsOnly c _ u).mono (by cases c <;> simp [pumpPoint])
  have hboth := (hadopt .ab s.tables.pumps.ab s).comp (hadopt .ba s.tables.pumps.ba _)
  unfold startPumps
  dsimp only
  split_ifs
  · exact hboth
  · exact hboth.comp ((hstored .ab _).comp (hstored .ba _))

/-- Point 45 keeps what the settings source made of it. -/
theorem endAutoload_source (b : Bool) (t : Option Tables) {s : State} (h : s.points.recs.length = 46) :
    (endAutoload b t s).point 45 = ⟨if t.isSome then 0 else 1, .valid, 0⟩ := by
  have hpumps : pointsOnly [41, 42] (startBlocks (installTables t s)) (startPumps b (startBlocks (installTables t s))) :=
    startPumps_pointsOnly b _
  have hsupply := (startSupply_spec b (startPumps b (startBlocks (installTables t s)))).2.2.2.2.2.2
  have hpoints : (startBlocks (installTables t s)).point 45 = (installTables t s).point 45 := by
    rw [State.point, (startBlocks_frame _).2.2.2.2.2.2.2.2.1]
    rfl
  unfold endAutoload
  rw [hsupply 45 (by decide), hpumps 45 (by decide), hpoints]
  refine (point_writePoint_same 45 _ _ _ (by exact h.symm ▸ (by decide : 45 < 46))).trans ?_
  cases t <;> rfl

end Sys2Proof.Machine

/-! PROOF. O32: an autoload's ends. -/

section
open Sys2Proof Sys2Proof.Machine

/-- Settles O32. -/
theorem autoloadEndsAndStartsEveryBlock : Obligations.AutoloadEndsAndStartsEveryBlock := by
  intro l s hload hlength hpumps attempt whole ends
  have hends (i : Instr) (now : Nat) (good : Option Tables) (driven : List BusSignal)
      (hexec : exec i s =
        .next (endAutoload l.afterRestart good { s with now := now, loader := { s.loader with driven := driven } })) :
      ends i now good driven := by
    obtain ⟨s1, hs1⟩ : ∃ s1 : State, s1 = { s with now := now, loader := { s.loader with driven := driven } } := ⟨_, rfl⟩
    obtain ⟨u, hu⟩ : ∃ u, u = startBlocks (installTables good s1) := ⟨_, rfl⟩
    rw [← hs1] at hexec
    have hblocks : u.now = now ∧ u.tables = good.getD s.tables ∧ u.agent = s.agent ∧ u.pumps = s.pumps ∧ u.supply = s.supply ∧
        u.loader = ⟨if good.isSome then .stored else .defaults, none, s.loader.store, driven⟩ := by
      subst hu hs1
      exact ⟨rfl, rfl, rfl, rfl, rfl, rfl⟩
    obtain ⟨hnow, htables, hagent, hchannels, hsupply, hloader⟩ := hblocks
    have hend : endAutoload l.afterRestart good s1 = startSupply l.afterRestart (startPumps l.afterRestart u) := hu ▸ rfl
    obtain ⟨hinUse, hsheds, hidles, hresolved, hcheck, hkept, -⟩ := startSupply_spec l.afterRestart (startPumps l.afterRestart u)
    rw [← hend] at hinUse hsheds hidles hresolved hcheck hkept
    have hframe : (endAutoload l.afterRestart good s1).tables = u.tables ∧ (endAutoload l.afterRestart good s1).loader = u.loader ∧
        (endAutoload l.afterRestart good s1).sampling = u.sampling ∧ (endAutoload l.afterRestart good s1).poll = u.poll ∧
        (endAutoload l.afterRestart good s1).engine = u.engine ∧ (endAutoload l.afterRestart good s1).now = u.now ∧
        (startPumps l.afterRestart u).tables = u.tables ∧ (startPumps l.afterRestart u).supply = u.supply ∧
        (startPumps l.afterRestart u).now = u.now := by
      rw [hend]
      simp only [startSupply_frame, startPumps_frame, and_self]
    obtain ⟨htables', hloader', hsampling, hpoll, hengine, hnow', hpumpTables, hpumpSupply, hpumpNow⟩ := hframe
    rw [hpumpTables] at hinUse hsheds hidles
    rw [hpumpSupply, hsupply, hpumpNow, hnow] at hcheck
    refine ⟨endAutoload l.afterRestart good s1, hexec, hnow'.trans hnow, htables'.trans htables, hloader'.trans hloader, ?_, ?_,
      ?_, ?_, hinUse.trans (congrArg _ htables'.symm), hsheds.trans (congrArg _ htables'.symm),
      hidles.trans (congrArg _ htables'.symm), hresolved, hcheck, fun c => ?_, ?_⟩
    · exact endAutoload_source _ _ (hs1 ▸ hlength)
    · have hperiod : u.sampling =
          { s.sampling with
            periodAt := some (now + millis u.tables.scan.period), conversion := some ⟨0, now + 20⟩ } := by
        subst hu hs1
        rfl
      rw [hsampling, htables', hperiod, millis, Nat.mul_comm]
    · rw [hpoll, hu, hs1]
      rfl
    · rw [hengine, htables', hu, hs1]
      rfl
    · obtain ⟨hsettings, hmode⟩ := startPumps_pump (s := u)
        (fun c => hchannels.symm ▸ matched_of_pumpsLawful hpumps c) l.afterRestart c
      rw [(hkept c).1, (hkept c).2, hsettings, hmode, htables', hagent, hchannels]
      exact ⟨rfl, rfl⟩
    · have hstart : changesOnly [.now, .loader] s s1 := hs1 ▸ fun p hp => by cases p <;> simp_all [Part.same]
      exact (hstart.mono (by decide)).comp ((endAutoload_changesOnly _ _ s1).mono (by decide))
  have hsignals : imageSignals .stored = whole := eepromRead_signals 1624
  have hphase : (imageBusRead.phase .register).length = 18 := rfl
  have hretry (acknowledged : Bool) {due : Nat} (hdue : l.retryAt = some due) :
      exec (.autoloadAddressRetry acknowledged) s = .next (addressRetry l due acknowledged (s.reach due)) := by
    show execAutoloadAddressRetry acknowledged s = _
    unfold execAutoloadAddressRetry
    rw [hload]
    dsimp only
    rw [hdue]
  refine ⟨fun r hr => ?_, hsignals, fun _ => hsignals, fun n => ?_, fun n hn => ?_, ?_, rfl, ?_, fun n => ?_, fun n => ?_, ?_,
    ?_, fun due hdue => ⟨?_, fun hleft => ?_, fun hlast => ?_⟩⟩
  · exact hends _ _ _ _ (autoloadReadDone_next hload hr)
  · show ((imageBusRead.phase .register)[n]? == some .awaitAcknowledge) = true ↔ _
    rw [beq_iff_eq]
    exact sendZeros_await n
  · show imageBusRead.upTo .register (n + 1) ++ [.stop] = _
    have hcount : 11 + n = (imageBusRead.before .register).length + (n + 1) := by
      rw [imageBusRead_eq, (eepromRead_before 1624).1]
      omega
    rw [BusRead.upTo_eq_take imageBusRead (by omega), ← hsignals, hcount]
    rfl
  · show imageBusRead.upTo .addressRead 9 ++ [.stop] = _
    rw [BusRead.upTo_eq_take imageBusRead (le_refl 9), ← hsignals]
    rfl
  · rfl
  · exact sendZeros_readsBack n
  · exact eepromRead_data 1624 n
  · show imageBusRead.upTo .data 14624 ++ [.release] = _
    rw [BusRead.upTo_eq_take imageBusRead ?_, ← hsignals]
    · rfl
    · exact (eepromRead_dataLength 1624).symm ▸ (by decide : 14624 ≤ 9 * 1624 + 9)
  · refine hends _ _ _ _ ?_
    show execAutoloadDeadline s = _
    unfold execAutoloadDeadline
    rw [hload]
    rfl
  · exact hretry true hdue
  · exact (hretry false hdue).trans (congrArg Host.Outcome.next (if_neg (Nat.not_le.2 hleft)))
  · exact hends _ _ _ _ ((hretry false hdue).trans (congrArg Host.Outcome.next (if_pos hlast)))

end
